-- ==== Sys2Proof/Word.lean ====
section
/-! DEFINITION. The words the ZA614 manual counts in: octets, ports, lanes, groups, flow indices, epoch and sequence
numbers, and the one update of a fixed row of like things. -/

namespace Sys2Proof

/-- One octet of a cell (R1). -/
abbrev Byte := BitVec 8

/-- A run of octets, in the order they are sent (R1). -/
abbrev Octets := List Byte

/-- A receive side: 0 to 5 are the lanes L0 to L5, 6 is T-in (chapter 2). -/
abbrev Port := Fin 7

/-- One of the six lanes L0 to L5. -/
abbrev Lane := Fin 6

/-- A gate group, 0 to 15 (R115). -/
abbrev Group := Fin 16

/-- A place of the Flow Table, 0 to 255 (R83). -/
abbrev FlowIdx := Fin 256

/-- A slot number, 0 to 63 (R130). -/
abbrev Slot := Fin 64

/-- An epoch number, taken modulo 65536 (R13). -/
abbrev Epoch := BitVec 16

/-- A sequence number, taken modulo 4096 (R13). -/
abbrev Seq := BitVec 12

/-- A flow number, 0 to 1023 (R2). -/
abbrev FlowNum := BitVec 10

/-- A cycle number, wrapping after 4294967295 (R130). -/
abbrev CycleNum := BitVec 32

/-- A counter of the Counter Block, 32 bits wide (R163). -/
abbrev Count := BitVec 32

/-- The port that a lane is (ports 0 to 5). -/
def Lane.port (l : Lane) : Port := l.castSucc

/-- The lane that a port is, absent for T-in. -/
def Port.lane? (p : Port) : Option Lane := if h : p.val < 6 then some ⟨p.val, h⟩ else none

/-- T-in, port 6. -/
def tIn : Port := 6

/-- A row of like things with the one at `i` changed by `f`. -/
def upd {α : Type} {n : Nat} (v : Vector α n) (i : Fin n) (f : α → α) : Vector α n := v.set i (f v[i])

end Sys2Proof
end

