-- ==== Sys2Proof/Syntax.lean ====
section
/-! DEFINITION. The commands of the ZA614: one constructor per row of spec/opcode_table.json.

The first sixteen are events at the part's lines and blocks. The last thirty-two are the management commands. Each of
those carries the requester's port, its tag and its argument octets, which with the row's own command code are all
that a request record holds (R9). -/

namespace Sys2Proof

/-- The steps of opcode_table.json. -/
inductive Instr where
  /-- RESET_N seen low on two consecutive reference clock edges (R15). -/
  | resetAssert
  /-- The first edge that samples RESET_N high, with UA2, UA1 and UA0 as bits 2 to 0 (R15, R16). -/
  | resetRelease (straps : BitVec 3)
  /-- The slot boundary at which initialisation ends (R189). -/
  | initEnd
  /-- Octets of a port's stream, met by a receiver that searches for a header (R22). -/
  | headerSearch (port : Port) (octets : Octets)
  /-- The 64 octets of a group of a port's stream, met by a receiver in CHECK (R23). -/
  | checkCell (port : Port) (octets : Octets)
  /-- A loss-of-signal report for a port (R25). -/
  | lossOfSignal (port : Port)
  /-- The 64 octets of a cell of a port's stream, met by a receiver in UP (R26). -/
  | cellArrival (port : Port) (octets : Octets)
  /-- A slot boundary (R120, R130). -/
  | slotBoundary
  /-- A tick at the management engine (R156). -/
  | leaseExpiry
  /-- A tick at the Counter Block (R174). -/
  | snapExpiry
  /-- The schedule's share of a cycle start with a swap pending (R112). -/
  | swapTakeEffect
  /-- The end of the drain of the flow entry at an index (R101). -/
  | drainEnd (index : FlowIdx)
  /-- A CREF pulse taken at the boundary that the next slotBoundary hands on (R17, R135). -/
  | crefPulse
  /-- The CREF pulse that completes an arm, taken as crefPulse is (R137). -/
  | armComplete
  /-- The management engine's take of its oldest request (R144). -/
  | requestTake
  /-- The engine's append of its first held completion (R152). -/
  | heldCompletionAppend
  /-- Command code 01h (R159). -/
  | identify (port : Port) (tag : Byte) (args : Octets)
  /-- Command code 02h (R154). -/
  | claim (port : Port) (tag : Byte) (args : Octets)
  /-- Command code 03h (R155). -/
  | release (port : Port) (tag : Byte) (args : Octets)
  /-- Command code 04h (R160). -/
  | setUnit (port : Port) (tag : Byte) (args : Octets)
  /-- Command code 05h (R161). -/
  | unitReset (port : Port) (tag : Byte) (args : Octets)
  /-- Command code 10h (R35). -/
  | laneGet (port : Port) (tag : Byte) (args : Octets)
  /-- Command code 11h (R36, R37). -/
  | laneSet (port : Port) (tag : Byte) (args : Octets)
  /-- Command code 12h (R38). -/
  | laneRestart (port : Port) (tag : Byte) (args : Octets)
  /-- Command code 18h (R77). -/
  | alignGet (port : Port) (tag : Byte) (args : Octets)
  /-- Command code 19h (R78). -/
  | alignSet (port : Port) (tag : Byte) (args : Octets)
  /-- Command code 1Ah (R80). -/
  | alignRejoin (port : Port) (tag : Byte) (args : Octets)
  /-- Command code 20h (R97, R98). -/
  | flowAdd (port : Port) (tag : Byte) (args : Octets)
  /-- Command code 21h (R99). -/
  | flowModify (port : Port) (tag : Byte) (args : Octets)
  /-- Command code 22h (R100). -/
  | flowRemove (port : Port) (tag : Byte) (args : Octets)
  /-- Command code 23h (R102). -/
  | flowGet (port : Port) (tag : Byte) (args : Octets)
  /-- Command code 24h (R103). -/
  | flowList (port : Port) (tag : Byte) (args : Octets)
  /-- Command code 30h (R109). -/
  | schedWrite (port : Port) (tag : Byte) (args : Octets)
  /-- Command code 31h (R110). -/
  | schedRead (port : Port) (tag : Byte) (args : Octets)
  /-- Command code 32h (R111). -/
  | schedSwap (port : Port) (tag : Byte) (args : Octets)
  /-- Command code 33h (R113). -/
  | schedCancel (port : Port) (tag : Byte) (args : Octets)
  /-- Command code 34h (R117). -/
  | groupSet (port : Port) (tag : Byte) (args : Octets)
  /-- Command code 35h (R118). -/
  | groupGet (port : Port) (tag : Byte) (args : Octets)
  /-- Command code 36h (R119). -/
  | groupFlush (port : Port) (tag : Byte) (args : Octets)
  /-- Command code 40h (R138). -/
  | cycleSet (port : Port) (tag : Byte) (args : Octets)
  /-- Command code 41h (R139). -/
  | cycleArm (port : Port) (tag : Byte) (args : Octets)
  /-- Command code 42h (R140). -/
  | cycleGet (port : Port) (tag : Byte) (args : Octets)
  /-- Command code 50h (R170). -/
  | snapTake (port : Port) (tag : Byte) (args : Octets)
  /-- Command code 51h (R172). -/
  | snapRead (port : Port) (tag : Byte) (args : Octets)
  /-- Command code 52h (R173). -/
  | snapDrop (port : Port) (tag : Byte) (args : Octets)
  /-- Command code 53h (R168). -/
  | countClear (port : Port) (tag : Byte) (args : Octets)
  /-- Command code 60h (R184, R185). -/
  | noticeEnable (port : Port) (tag : Byte) (args : Octets)
  /-- Command code 61h (R186). -/
  | noticeGet (port : Port) (tag : Byte) (args : Octets)
  deriving DecidableEq, Repr

end Sys2Proof
end

