-- ==== Sys2Proof/Decode.lean ====
section
/-! DEFINITION. The command that a word spells by the bits of spec/opcode_table.json. No row of the table gives bits
(98_reader.md: n_rows_with_fixed and n_rows_with_fields are 0), so no word spells a command. -/

namespace Sys2Proof

/-- The command spelt by the word `w` of `nbits` bits. -/
def decodeTableWord (_nbits _w : Nat) : Option Instr := none

end Sys2Proof
end

