-- ==== Sys2Proof/Config.lean ====
section
/-! DEFINITION. What the manual fixes for every ZA614, and the one choice it leaves open: in which order the blocks act
that one slot boundary reaches. -/

namespace Sys2Proof.Config

/-- Cell buffers of the pool (R41). -/
def buffers : Nat := 1024

/-- Places of the request queue (R143). -/
def requestPlaces : Nat := 8

/-- Places of the reply queue (R143). -/
def replyPlaces : Nat := 16

/-- Entries of the in-flight table (R143). -/
def inFlightPlaces : Nat := 4

/-- Records the epoch window may hold (R57). -/
def windowPlaces : Nat := 4

/-- Slot times of initialisation (R15). -/
def initSlots : Nat := 65536

/-- Valid headers that take a receiver to UP (R23). -/
def headersToUp : Nat := 6

/-- The default lease in ticks (R154). -/
def defaultLease : Nat := 64

/-- The default lifetime of a snapshot in ticks (R170). -/
def defaultLifetime : Nat := 8

/-- What one boundary asks of the blocks it reaches: the renewal of the budgets at a cycle start (R90), the tick at the
engine and the Counter Block (R132), the release point at the aligner (R133), the transmitter's slot (R120), the
engine's take of a request that waits for the reply place which the slot frees (R144). -/
inductive Task where
  | renew | tick | release | transmit | take
  deriving DecidableEq, Repr

/-- The orders in which the tick, the release point and the slot of one boundary can be taken. -/
inductive Turn where
  | tickReleaseSend | tickSendRelease | releaseTickSend | releaseSendTick | sendTickRelease | sendReleaseTick
  deriving DecidableEq, Repr, Inhabited

/-- An order for all the tasks of one boundary: the turn; how many tasks of the turn come between the slot and the take
that it makes possible; and the place of the renewal among them all. -/
structure BoundaryOrder where
  turn : Turn
  takeAfter : Nat
  renewAt : Nat
  deriving DecidableEq, Repr, Inhabited

/-- The tasks of a turn, first taken first. -/
def Turn.tasks : Turn → List Task
  | .tickReleaseSend => [.tick, .release, .transmit]
  | .tickSendRelease => [.tick, .transmit, .release]
  | .releaseTickSend => [.release, .tick, .transmit]
  | .releaseSendTick => [.release, .transmit, .tick]
  | .sendTickRelease => [.transmit, .tick, .release]
  | .sendReleaseTick => [.transmit, .release, .tick]

/-- The take put in, `n` tasks after the slot or at the end where fewer follow. -/
def withTake (n : Nat) : List Task → List Task
  | [] => []
  | .transmit :: rest => .transmit :: (rest.take n ++ .take :: rest.drop n)
  | t :: rest => t :: withTake n rest

/-- The tasks of an order, first taken first. -/
def BoundaryOrder.tasks (o : BoundaryOrder) : List Task :=
  let l := withTake o.takeAfter o.turn.tasks
  l.take o.renewAt ++ .renew :: l.drop o.renewAt

/-- FREE VALUE (log entry 1): the order taken at the `n`-th boundary whose outcome depends on it. R93, R127, R158 and
R182 give the outcome of either order and say that either may be taken first. -/
opaque boundaryOrder : Nat → BoundaryOrder

/-- The order used at a boundary whose outcome depends on no order. -/
def plainOrder : BoundaryOrder := ⟨.tickReleaseSend, 0, 0⟩

end Sys2Proof.Config
end

