-- ==== Sys2Proof/Machine/State.lean ====
section
/-! DEFINITION. The state of the ZA614, block by block, and its value right after reset: the power-on state that R15
holds every block at while RESET_N is low. -/

namespace Sys2Proof.Machine

/-- Where the part stands between RESET_N and running (R15, R189). -/
inductive Phase where
  /-- RESET_N is low. -/
  | heldInReset
  /-- Initialisation, with the number of its slot times already over. -/
  | initialising (slotsOver : Nat)
  | running
  deriving DecidableEq, Repr

/-! ### Ports (chapter 2) -/

/-- A lane's mode (R19). -/
inductive Mode where
  | pass | aligned
  deriving DecidableEq, Repr

/-- The profile record of a port (R19). -/
structure Profile where
  enabled : Bool
  mode : Mode
  mgmt : Bool
  quota : Nat
  high : Nat
  low : Nat
  limit : Nat
  tag : Option Byte
  deriving DecidableEq, Repr

/-- The states of a receiver (R21). -/
inductive RxState where
  | off | hunt | check | up
  deriving DecidableEq, Repr

/-- A receiver: its state, error budget level and delineation count (R21), the octets it has taken and not yet
used (the octets of the search in HUNT, a partly received cell in CHECK and UP), and how many octets of the candidate
cell are still to pass before the first tested group (R23). -/
structure Receiver where
  st : RxState
  level : Nat
  count : Nat
  octets : Octets
  skip : Nat
  deriving DecidableEq, Repr

/-- What is kept for each port. -/
structure PortState where
  profile : Profile
  rx : Receiver
  deriving DecidableEq, Repr

/-! ### Cells and lane queues (chapter 3) -/

/-- What a held buffer keeps of a DATA cell (R41): the lane, the ingress flow and sequence numbers, the eight octets of
the timestamp extension when X is set, the payload. X is set when the extension is present, and the length is the
payload's. -/
structure DataCell where
  lane : Lane
  flow : FlowNum
  seq : Seq
  ext : Option Octets
  payload : Octets
  deriving DecidableEq, Repr

/-- A record of a lane queue: a cell and the epoch with which it was appended (R41, R46). -/
structure LaneRec where
  cell : DataCell
  epoch : Epoch
  deriving DecidableEq, Repr

/-- Membership of a lane, with the current epoch and late flag that only an IN lane holds (R59). -/
inductive Membership where
  | waiting
  | joining
  | isIn (current : Epoch) (late : Bool)
  | lagging
  deriving DecidableEq, Repr

/-- What is kept for each lane: its queue (R45), whether its hysteresis state is HIGH (R50), its membership and its
consecutive late count (R59). -/
structure LaneState where
  queue : List LaneRec
  high : Bool
  member : Membership
  lateCount : Nat
  deriving DecidableEq, Repr

/-! ### Epoch Aligner (chapter 4) -/

/-- A lane's status in an epoch record (R57). -/
inductive LaneStatus where
  | na | expected | closed
  deriving DecidableEq, Repr

/-- An epoch record (R57). -/
structure EpochRec where
  epoch : Epoch
  due : Option Nat
  status : Vector LaneStatus 6
  arrivals : Vector Nat 6
  deriving DecidableEq, Repr

/-- The aligner's parameters (R55), set state (R56) and window, oldest record first (R57). -/
structure Aligner where
  skew : Nat
  releaseSlot : Slot
  lateLimit : Nat
  running : Bool
  lastReleased : Option Epoch
  window : List EpochRec
  deriving DecidableEq, Repr

/-! ### Flow Table (chapter 5) -/

/-- Stamp modes (R84). -/
inductive Stamp where
  | keep | add | strip
  deriving DecidableEq, Repr

/-- A flow entry; its index is its place (R84). -/
structure FlowEntry where
  lane : Lane
  inflow : FlowNum
  draining : Bool
  group : Group
  outflow : FlowNum
  seqCheck : Bool
  expected : Option Seq
  renumber : Bool
  egressSeq : Seq
  stamp : Stamp
  budget : Option Nat
  admitted : Nat
  inQueue : Nat
  deriving DecidableEq, Repr

/-- Where an admitted cell came from (R85). -/
inductive Origin where
  | aligned (epoch : Epoch)
  | pass
  deriving DecidableEq, Repr

/-! ### Schedule, group queues and trunk (chapter 6) -/

/-- A cell record of a group queue (R85). -/
structure GroupRec where
  cell : DataCell
  entry : FlowIdx
  origin : Origin
  deriving DecidableEq, Repr

/-- A gate group (R115). -/
structure GroupState where
  queue : List GroupRec
  limit : Nat
  borrow : Bool
  deriving DecidableEq, Repr

/-- What a slot entry names (R106). -/
inductive SlotKind where
  | group (g : Group)
  | mgmt
  | idle
  deriving DecidableEq, Repr

/-- A slot entry (R106). -/
structure SlotEntry where
  kind : SlotKind
  lend : Bool
  deriving DecidableEq, Repr

/-- The two banks (R107). -/
inductive Bank where
  | a | b
  deriving DecidableEq, Repr

/-- The schedule: both banks, the active-bank selector, whether a swap is PENDING (R107, R108), and the lend pointer
(R123). -/
structure Schedule where
  bankA : Vector SlotEntry 64
  bankB : Vector SlotEntry 64
  active : Bank
  swapPending : Bool
  lendPointer : Group
  deriving DecidableEq, Repr

/-- What the buffer of the cell in transmission keeps: the cell, and the epoch of an aligned lane's cell (R41). -/
structure Transit where
  cell : DataCell
  origin : Origin
  deriving DecidableEq, Repr

/-- T-out: the 64 octets of the cell being sent, absent while no cells are sent (R15), and the DATA cell whose buffer
is in transmission (R44). -/
structure Trunk where
  sending : Option Octets
  inTransit : Option Transit
  deriving DecidableEq, Repr

/-! ### Cycle timer and reference follower (chapter 7) -/

/-- The cycle timer (R130). `begun` is present once a CREF pulse has been taken at the present boundary (R17, R135): the
slot counter, the cycle number and the tick count have moved to the slot that the boundary begins, and the boundary is
still to be handed to the blocks. It says whether that boundary is a release point, by R as R held at it (R133). -/
structure Timer where
  slot : Slot
  cycle : CycleNum
  tick : BitVec 12
  begun : Option Bool := none
  deriving DecidableEq, Repr

/-- Follow modes (R134). -/
inductive FollowMode where
  | free | watch | once | always
  deriving DecidableEq, Repr

/-- The reference follower (R134). -/
structure Follower where
  mode : FollowMode
  window : Nat
  armed : Bool
  lastPhase : Option Int
  deriving DecidableEq, Repr

/-! ### Management engine (chapter 8) -/

/-- Reply statuses (R11). -/
inductive Status where
  | ok | started | done | aborted | badCommand | badArgument | notOwner | owned | busy | tagInUse | noEntry | keyExists
  | keyBusy | tableFull | quotaInUse | selfLockout | bankLocked | swapPending | badSchedule | noSwap | noSnapshot
  | snapHeld
  deriving DecidableEq, Repr

/-- A request record; its argument length is the length of `args` (R9, R143). -/
structure Request where
  port : Port
  code : Byte
  tag : Byte
  args : Octets
  deriving DecidableEq, Repr

/-- A reply record (R143). -/
structure Reply where
  port : Port
  code : Byte
  tag : Byte
  status : Status
  result : Octets
  deriving DecidableEq, Repr

/-- What a long operation waits on (R143). -/
inductive Target where
  | flow (i : FlowIdx)
  | bank (x : Bank)
  | follower
  deriving DecidableEq, Repr

/-- An in-flight entry without its state (R143). -/
structure Operation where
  port : Port
  tag : Byte
  code : Byte
  target : Target
  deriving DecidableEq, Repr

/-- A COMPLETE_HELD in-flight entry with the completion it waits to queue (R143). -/
structure HeldOp where
  op : Operation
  status : Status
  result : Octets
  deriving DecidableEq, Repr

/-- The owner's port with its lease and remaining ticks (R143). -/
structure Ownership where
  port : Port
  lease : Nat
  remaining : Nat
  deriving DecidableEq, Repr

/-- The management engine (R143). The in-flight table is `inFlight` (its RUNNING entries) together with `held` (its
COMPLETE_HELD entries); the order of `held` is the held order. -/
structure Engine where
  unitAddr : Byte
  owner : Option Ownership
  requests : List Request
  replies : List Reply
  inFlight : List Operation
  held : List HeldOp
  deriving DecidableEq, Repr

/-! ### Counter Block (chapter 9) -/

/-- The counters of a port, in the order of R164. -/
structure PortCounters where
  valid : Count := 0
  headerErrors : Count := 0
  formatErrors : Count := 0
  tagErrors : Count := 0
  downs : Count := 0
  fillArrivals : Count := 0
  markArrivals : Count := 0
  dataArrivals : Count := 0
  mreqArrivals : Count := 0
  mreqNotPermitted : Count := 0
  mreqForeign : Count := 0
  mreqOverrun : Count := 0
  poolDrops : Count := 0
  quotaDrops : Count := 0
  dataUnderPause : Count := 0
  unknownFlows : Count := 0
  deriving DecidableEq, Repr

/-- The lane alignment counters, in the order of R164. -/
structure LaneCounters where
  marks : Count := 0
  joins : Count := 0
  slips : Count := 0
  lates : Count := 0
  ejections : Count := 0
  mismatches : Count := 0
  joiningDiscards : Count := 0
  lateDiscards : Count := 0
  deriving DecidableEq, Repr

/-- The counters of a flow index, in the order of R165. -/
structure FlowCounters where
  admitted : Count := 0
  transmitted : Count := 0
  seqGap : Count := 0
  stale : Count := 0
  overBudget : Count := 0
  overflow : Count := 0
  drainDiscards : Count := 0
  stampSkipped : Count := 0
  deriving DecidableEq, Repr

/-- The counters of a group, in the order of R165. -/
structure GroupCounters where
  enqueued : Count := 0
  transmitted : Count := 0
  overflows : Count := 0
  flushed : Count := 0
  borrowed : Count := 0
  deriving DecidableEq, Repr

/-- The counters of the unit, in the order of R166. -/
structure UnitCounters where
  fillSlots : Count := 0
  replySent : Count := 0
  noticeSent : Count := 0
  fullReleases : Count := 0
  partialReleases : Count := 0
  emptyReleases : Count := 0
  forcedReleases : Count := 0
  crefPulses : Count := 0
  realigns : Count := 0
  snapExpiries : Count := 0
  suppressed : Count := 0
  deriving DecidableEq, Repr

/-- Every counter of the five sections (R164). -/
structure Counters where
  ports : Vector PortCounters 7
  lanes : Vector LaneCounters 6
  flows : Vector FlowCounters 256
  groups : Vector GroupCounters 16
  unit : UnitCounters
  deriving DecidableEq, Repr

/-- Every counter at 0 (R167). -/
def Counters.zero : Counters :=
  { ports := Vector.replicate 7 {}, lanes := Vector.replicate 6 {}, flows := Vector.replicate 256 {},
    groups := Vector.replicate 16 {}, unit := {} }

/-- The key record of a flow index in a snapshot, when an entry held its place (R169). -/
structure KeyRec where
  lane : Lane
  inflow : FlowNum
  draining : Bool
  deriving DecidableEq, Repr

/-- A snapshot (R169). -/
structure Snapshot where
  holder : Port
  cycle : CycleNum
  slot : Slot
  cleared : Bool
  lifetime : Nat
  remaining : Nat
  counters : Counters
  keys : Vector (Option KeyRec) 256
  deriving DecidableEq, Repr

/-! ### Notice Unit (chapter 10) -/

/-- The kinds of notice, in code order 01h to 0Eh (R12). -/
inductive NoticeKind where
  | laneUp | laneDown | laneSlip | laneLate | laneEjected | epochCountMismatch | unknownFlow | poolExhausted
  | groupOverflow | windowForced | ownerLost | refDrift | refRealigned | snapExpired
  deriving DecidableEq, Repr

/-- A notice record (R180). -/
structure NoticeRec where
  kind : NoticeKind
  subject : Byte
  occurrences : Nat
  firstCycle : CycleNum
  detail : Octets
  deriving DecidableEq, Repr

/-- The enable set, by kind in code order, and the pending list, oldest first (R179, R180). -/
structure Notices where
  enabled : Vector Bool 14
  waiting : List NoticeRec
  deriving DecidableEq, Repr

/-! ### The part -/

/-- The state of the part. `pending` is the model's queue of commands that wait, first in, first out.
`orderDraws` is the model's own field: how many boundary orders have been drawn from `Config.boundaryOrder`. -/
structure State where
  pending : List Instr
  orderDraws : Nat
  phase : Phase
  ports : Vector PortState 7
  free : Nat
  lanes : Vector LaneState 6
  aligner : Aligner
  flows : Vector (Option FlowEntry) 256
  groups : Vector GroupState 16
  sched : Schedule
  trunk : Trunk
  timer : Timer
  follower : Follower
  engine : Engine
  counters : Counters
  snapshot : Option Snapshot
  notices : Notices
  deriving DecidableEq, Repr

/-- Why the part could stop with a fault. The manual describes no event that stops the part, so there is no
constructor: no command ends in a fault. -/
inductive Fault where
  deriving DecidableEq, Repr

/-- Why a command could be refused. -/
inductive Refusal where
  /-- Raised by an arm of `exec` for a command that has no meaning yet. Safe: nothing is claimed of it. No arm raises
  it now. -/
  | notModelled (mnemonic : String)
  deriving DecidableEq, Repr

/-! ### Power-on values -/

/-- The power-on profile of a lane (R19). -/
def Profile.powerOnLane : Profile :=
  { enabled := true, mode := .pass, mgmt := false, quota := 160, high := 128, low := 64, limit := 64, tag := none }

/-- The power-on profile of T-in, with the fields it does not use as they are reported (R19). -/
def Profile.powerOnTIn : Profile :=
  { enabled := true, mode := .pass, mgmt := true, quota := 0, high := 0, low := 0, limit := 64, tag := none }

/-- A receiver in a state in which it has taken nothing: level 0 and count 0 (R21). -/
def Receiver.fresh (st : RxState) : Receiver := { st := st, level := 0, count := 0, octets := [], skip := 0 }

/-- The ports at power-on (R40). -/
def powerOnPorts : Vector PortState 7 :=
  (Vector.replicate 7 { profile := Profile.powerOnLane, rx := Receiver.fresh .off }).set 6
    { profile := Profile.powerOnTIn, rx := Receiver.fresh .off }

/-- A lane at power-on (R54, R82). -/
def LaneState.powerOn : LaneState := { queue := [], high := false, member := .waiting, lateCount := 0 }

/-- The aligner at power-on (R55, R82). -/
def Aligner.powerOn : Aligner :=
  { skew := 2, releaseSlot := 0, lateLimit := 3, running := false, lastReleased := none, window := [] }

/-- The schedule at power-on (R107, R129). -/
def Schedule.powerOn : Schedule :=
  { bankA := (Vector.replicate 64 { kind := .group 0, lend := true }).set 0 { kind := .mgmt, lend := true },
    bankB := Vector.replicate 64 { kind := .idle, lend := false }, active := .a, swapPending := false,
    lendPointer := 0 }

/-- The groups at power-on (R115). -/
def powerOnGroups : Vector GroupState 16 :=
  (Vector.replicate 16 { queue := [], limit := 128, borrow := false }).set 0
    { queue := [], limit := 128, borrow := true }

/-- The engine at power-on (R143). DESIGN CHOICE (log entry 2): the unit address before the straps are first sampled
is 0. -/
def Engine.powerOn : Engine :=
  { unitAddr := 0, owner := none, requests := [], replies := [], inFlight := [], held := [] }

/-- The part right after reset: RESET_N low, every block at its power-on state (R15). -/
def State.reset : State :=
  { pending := [], orderDraws := 0, phase := .heldInReset, ports := powerOnPorts, free := Config.buffers,
    lanes := Vector.replicate 6 LaneState.powerOn, aligner := Aligner.powerOn, flows := Vector.replicate 256 none,
    groups := powerOnGroups, sched := Schedule.powerOn, trunk := { sending := none, inTransit := none },
    timer := { slot := 0, cycle := 0, tick := 0 },
    follower := { mode := .free, window := 2, armed := false, lastPhase := none }, engine := Engine.powerOn,
    counters := Counters.zero, snapshot := none,
    notices := { enabled := Vector.replicate 14 true, waiting := [] } }

end Sys2Proof.Machine
end

