-- ==== Sys2Proof/Machine/Octets.lean ====
section
/-! DEFINITION. Octets and fields: numbers as octets (R1), the header check (R2), the fields of a received cell (R2 to
R9), serial arithmetic (R13), the codes of statuses and notice kinds (R11, R12), and the cells the part builds
(R5 to R7, R10, R12). -/

namespace Sys2Proof.Machine

/-! ### Numbers as octets (R1: most significant octet first) -/

/-- A number as one octet. -/
def o8 (n : Nat) : Byte := BitVec.ofNat 8 n

/-- A number as two octets. -/
def o16 (n : Nat) : Octets := [o8 (n / 256), o8 n]

/-- A number as four octets. -/
def o32 (n : Nat) : Octets := [o8 (n / 16777216), o8 (n / 65536), o8 (n / 256), o8 n]

/-- A yes/no field: 00h for no, 01h for yes (R35). -/
def yn (b : Bool) : Byte := if b then 1 else 0

/-- The octet at a position, 00h beyond the end. -/
def octet (o : Octets) (i : Nat) : Byte := o.getD i 0

/-- The two octets at a position as a number. -/
def pair (o : Octets) (i : Nat) : Nat := (octet o i).toNat * 256 + (octet o (i + 1)).toNat

/-! ### The header check (R2) -/

/-- One step of the CRC-8 register under x^8+x^2+x+1. -/
def crcShift (c : Byte) : Byte := if c.msb then (c <<< 1) ^^^ 0x07#8 else c <<< 1

/-- The CRC-8 register after one more octet, most significant bit first. -/
def crcOctet (c b : Byte) : Byte :=
  crcShift (crcShift (crcShift (crcShift (crcShift (crcShift (crcShift (crcShift (c ^^^ b))))))))

/-- The CRC-8 of a run of octets, from a register of zero. -/
def crc8 (o : Octets) : Byte := o.foldl crcOctet 0

/-- The group of octets begins with a header-valid header: octet 7 is the check of octets 0 to 6. -/
def headerValid (o : Octets) : Bool := 8 ≤ o.length && crc8 (o.take 7) == octet o 7

/-! ### Fields of a received cell (R2, R5, R8, R9) -/

/-- Kind codes (R3). -/
def kindFill : Nat := 0
def kindMark : Nat := 1
def kindData : Nat := 2
def kindMreq : Nat := 3
def kindMreply : Nat := 4
def kindNotice : Nat := 5

def cellKind (c : Octets) : Nat := (octet c 0).toNat / 16
def cellX (c : Octets) : Bool := (octet c 0).getLsbD 3
def cellLength (c : Octets) : Nat := (octet c 5).toNat
def cellUnit (c : Octets) : Byte := octet c 6
def cellFlow (c : Octets) : FlowNum := BitVec.ofNat 10 (pair c 1)
def cellSeq (c : Octets) : Seq := BitVec.ofNat 12 (pair c 3)

/-- MARK body fields (R8); body octet 0 is cell octet 8. -/
def markEpoch (c : Octets) : Epoch := BitVec.ofNat 16 (pair c 8)
def markClosed (c : Octets) : Nat := pair c 10
def markTag (c : Octets) : Byte := octet c 12

/-- MREQ body fields (R9). -/
def mreqCode (c : Octets) : Byte := octet c 8
def mreqTag (c : Octets) : Byte := octet c 9
def mreqArgLength (c : Octets) : Nat := (octet c 10).toNat
def mreqArgs (c : Octets) : Octets := (c.drop 12).take (mreqArgLength c)

/-- The DATA cell that a lane's receiver hands on: extension when X is set, and payload; pad is not kept (R5, R30). -/
def dataCell (l : Lane) (c : Octets) : DataCell :=
  { lane := l, flow := cellFlow c, seq := cellSeq c,
    ext := if cellX c then some ((c.drop 8).take 8) else none,
    payload := (c.drop (if cellX c then 16 else 8)).take (cellLength c) }

/-- The conditions on every kind: the bits of the header that must be zero (R4). -/
def reservedZero (c : Octets) : Bool :=
  (octet c 0).toNat % 8 == 0 && pair c 1 < 1024 && pair c 3 < 4096

/-- A header that is zero but for its kind and check: X, flow, sequence, length and unit (R4). -/
def plainHeader (c : Octets) : Bool :=
  !cellX c && pair c 1 == 0 && pair c 3 == 0 && cellLength c == 0 && cellUnit c == 0

/-- A header-valid cell is format-valid on a port: its kind is taken there (R3) and it meets every condition of R4. -/
def formatValid (p : Port) (c : Octets) : Bool :=
  reservedZero c &&
  (if cellKind c = kindFill then plainHeader c
   else if cellKind c = kindMark then p.lane?.isSome && plainHeader c
   else if cellKind c = kindData then
     p.lane?.isSome && cellUnit c == 0 && cellLength c ≤ (if cellX c then 48 else 56)
   else if cellKind c = kindMreq then
     !cellX c && pair c 1 == 0 && pair c 3 == 0 && 4 ≤ cellLength c && cellLength c ≤ 56 &&
     mreqArgLength c ≤ 52 && octet c 11 == 0 && cellLength c == 4 + mreqArgLength c
   else false)

/-! ### Serial arithmetic (R13) -/

/-- Epoch `a` is after epoch `b`. -/
def epochAfter (a b : Epoch) : Bool := 1 ≤ (a - b).toNat && (a - b).toNat ≤ 32767

/-- Sequence number `a` is after sequence number `b`. -/
def seqAfter (a b : Seq) : Bool := 1 ≤ (a - b).toNat && (a - b).toNat ≤ 2047

/-! ### Codes -/

/-- The code of a status (R11). -/
def Status.code : Status → Byte
  | .ok => 0x00
  | .started => 0x01
  | .done => 0x02
  | .aborted => 0x03
  | .badCommand => 0x10
  | .badArgument => 0x11
  | .notOwner => 0x12
  | .owned => 0x13
  | .busy => 0x14
  | .tagInUse => 0x15
  | .noEntry => 0x20
  | .keyExists => 0x21
  | .keyBusy => 0x22
  | .tableFull => 0x23
  | .quotaInUse => 0x24
  | .selfLockout => 0x25
  | .bankLocked => 0x30
  | .swapPending => 0x31
  | .badSchedule => 0x32
  | .noSwap => 0x33
  | .noSnapshot => 0x40
  | .snapHeld => 0x41

/-- The place of a notice kind in code order, 0 for code 01h (R12). -/
def NoticeKind.place : NoticeKind → Fin 14
  | .laneUp => 0
  | .laneDown => 1
  | .laneSlip => 2
  | .laneLate => 3
  | .laneEjected => 4
  | .epochCountMismatch => 5
  | .unknownFlow => 6
  | .poolExhausted => 7
  | .groupOverflow => 8
  | .windowForced => 9
  | .ownerLost => 10
  | .refDrift => 11
  | .refRealigned => 12
  | .snapExpired => 13

/-- The code of a notice kind, 01h to 0Eh (R12). -/
def NoticeKind.code (k : NoticeKind) : Byte := o8 (k.place.val + 1)

/-- The subject of the unit-wide kinds (R12). -/
def unitSubject : Byte := 0xFF

/-! ### The cells the part builds (R2, R5, R6) -/

/-- A cell of 64 octets: the header with its check, the body, and pad of 00h. -/
def buildCell (kind : Nat) (x : Bool) (flow : FlowNum) (seq : Seq) (length : Nat) (unit : Byte) (body : Octets) :
    Octets :=
  let header := [o8 (kind * 16 + (if x then 8 else 0))] ++ o16 flow.toNat ++ o16 seq.toNat ++ [o8 length, unit]
  header ++ [crc8 header] ++ body ++ List.replicate (56 - body.length) 0

/-- The FILL cell: 64 octets of 00h (R2, R126). -/
def fillCell : Octets := List.replicate 64 0

/-- The extension that the part writes (R7). -/
def writtenExt (cycle : CycleNum) (slot : Slot) (o : Origin) : Octets :=
  o32 cycle.toNat ++ [o8 slot.val] ++
    (match o with
     | .aligned e => 1 :: o16 e.toNat
     | .pass => 0 :: o16 0)

/-- The extension of an egress DATA cell by stamp mode, absent when the egress X is clear (R96). -/
def egressExt (stamp : Stamp) (cycle : CycleNum) (slot : Slot) (o : Origin) (c : DataCell) : Option Octets :=
  match stamp with
  | .keep => c.ext
  | .strip => none
  | .add => if c.ext.isSome || c.payload.length ≤ 48 then some (writtenExt cycle slot o) else none

/-- ADD could not be carried out (R96: an ingress X that is clear and a payload of 49 to 56). -/
def stampSkipped (stamp : Stamp) (c : DataCell) : Bool :=
  stamp == .add && !c.ext.isSome && !(c.payload.length ≤ 48)

/-- The egress DATA cell of a record under its flow entry (R6, R95, R96, R124). -/
def dataOctets (e : FlowEntry) (cycle : CycleNum) (slot : Slot) (r : GroupRec) : Octets :=
  let ext := egressExt e.stamp cycle slot r.origin r.cell
  buildCell kindData ext.isSome e.outflow (if e.renumber then e.egressSeq else r.cell.seq) r.cell.payload.length 0
    (ext.getD [] ++ r.cell.payload)

/-- The MREPLY cell of a reply record (R10, R125). -/
def replyOctets (unit : Byte) (r : Reply) : Octets :=
  buildCell kindMreply false 0 0 (4 + r.result.length) unit
    ([r.code, r.tag, r.status.code, o8 r.port.val] ++ r.result)

/-- The NOTICE cell of a notice record (R12, R125). -/
def noticeOctets (unit : Byte) (n : NoticeRec) : Octets :=
  buildCell kindNotice false 0 0 (8 + n.detail.length) unit
    ([n.kind.code, n.subject] ++ o16 n.occurrences ++ o32 n.firstCycle.toNat ++ n.detail)

end Sys2Proof.Machine
end

