-- ==== Sys2Proof/Machine/Flags.lean ====
section
/-! DEFINITION. Conditions that the part reads off its state: who is UP, the PAUSE lines (R18, R52), the hysteresis
judgement (R50), the set (R56), the engine's readiness (R144), what a bank offers (R107). -/

namespace Sys2Proof.Machine

/-- The six lanes, L0 first. -/
def allLanes : List Lane := [0, 1, 2, 3, 4, 5]

/-- A port's receiver is UP. -/
def portUp (s : State) (p : Port) : Bool := s.ports[p].rx.st == .up

/-- A lane's profile mode is ALIGNED. -/
def laneAligned (s : State) (l : Lane) : Bool := s.ports[l.port].profile.mode == .aligned

/-- The two conditions of R52 that assert PAUSEn. -/
def pauseCondition (s : State) (l : Lane) : Bool := !portUp s l.port || (laneAligned s l && s.lanes[l].high)

/-- The PAUSE line of a lane: asserted in reset and initialisation (R18), then by R52. DESIGN CHOICE (log entry 3): a
change reaches the line in the event that makes it. -/
def pauseLine (s : State) (l : Lane) : Bool := s.phase != .running || pauseCondition s l

/-- The hysteresis state judged on an occupancy (R50). -/
def judgedHigh (p : Profile) (occupancy : Nat) (before : Bool) : Bool :=
  if p.quota = 0 then true
  else if p.high ≤ occupancy then true
  else if occupancy ≤ p.low then false
  else before

/-- The lane is IN. -/
def Membership.inSet : Membership → Bool
  | .isIn _ _ => true
  | _ => false

/-- Every lane's status in the record is NA. -/
def EpochRec.allNA (r : EpochRec) : Bool := r.status.toList.all (· == .na)

/-- The port that owns the unit, absent when there is no owner. -/
def Engine.ownerPort (e : Engine) : Option Port := e.owner.map Ownership.port

/-- The reply queue has a free place and no completion is held: two of the three conditions of a take (R144). -/
def engineReady (s : State) : Bool := decide (s.engine.replies.length < Config.replyPlaces) && s.engine.held.isEmpty

/-- A bank of the schedule. -/
def Schedule.bank (c : Schedule) : Bank → Vector SlotEntry 64
  | .a => c.bankA
  | .b => c.bankB

/-- The other bank. -/
def Bank.other : Bank → Bank
  | .a => .b
  | .b => .a

/-- The bank that the selector does not name (R107). -/
def Schedule.staged (c : Schedule) : Bank := c.active.other

/-- A slot entry is MGMT or has its lend flag set. -/
def SlotEntry.capable (e : SlotEntry) : Bool := e.kind == .mgmt || e.lend

/-- A bank holds an entry that is MGMT or has its lend flag set (R107, R111). -/
def bankCapable (b : Vector SlotEntry 64) : Bool := b.toList.any SlotEntry.capable

end Sys2Proof.Machine
end

