-- ==== Sys2Proof/Machine/Ops.lean ====
section
/-! DEFINITION. The operations that every block shares: counting (R163), raising notices (R181), replies and
completions (R148, R151, R152), the pool (R42, R43) and the lane queues (R45 to R51). -/

namespace Sys2Proof.Machine

/-! ### Counting (R163) -/

/-- A counter raised by `n`, stopping at 4294967295. -/
def plus (c : Count) (n : Nat) : Count := BitVec.ofNat 32 (min (c.toNat + n) 4294967295)

/-- A counter raised by one. -/
def bump (c : Count) : Count := plus c 1

def countPort (p : Port) (f : PortCounters → PortCounters) (s : State) : State :=
  { s with counters := { s.counters with ports := upd s.counters.ports p f } }

def countLane (l : Lane) (f : LaneCounters → LaneCounters) (s : State) : State :=
  { s with counters := { s.counters with lanes := upd s.counters.lanes l f } }

def countFlow (i : FlowIdx) (f : FlowCounters → FlowCounters) (s : State) : State :=
  { s with counters := { s.counters with flows := upd s.counters.flows i f } }

def countGroup (g : Group) (f : GroupCounters → GroupCounters) (s : State) : State :=
  { s with counters := { s.counters with groups := upd s.counters.groups g f } }

def countUnit (f : UnitCounters → UnitCounters) (s : State) : State :=
  { s with counters := { s.counters with unit := f s.counters.unit } }

/-! ### Places of the state -/

def modPort (p : Port) (f : PortState → PortState) (s : State) : State := { s with ports := upd s.ports p f }

def modRx (p : Port) (f : Receiver → Receiver) (s : State) : State :=
  modPort p (fun x => { x with rx := f x.rx }) s

def modLane (l : Lane) (f : LaneState → LaneState) (s : State) : State := { s with lanes := upd s.lanes l f }

def modGroup (g : Group) (f : GroupState → GroupState) (s : State) : State := { s with groups := upd s.groups g f }

def modFlow (i : FlowIdx) (f : FlowEntry → FlowEntry) (s : State) : State :=
  { s with flows := upd s.flows i (Option.map f) }

def modWindow (f : List EpochRec → List EpochRec) (s : State) : State :=
  { s with aligner := { s.aligner with window := f s.aligner.window } }

/-- `n` buffers return to the pool (R43). -/
def freeBuffers (n : Nat) (s : State) : State := { s with free := s.free + n }

/-! ### Notices (R178 to R181) -/

/-- The record is of this kind and subject. -/
def NoticeRec.about (k : NoticeKind) (subject : Byte) (n : NoticeRec) : Bool := n.kind == k && n.subject == subject

/-- The pending list after a raise of an enabled kind (R181). -/
def applyRaise (k : NoticeKind) (subject : Byte) (detail : Octets) (cycle : CycleNum) (l : List NoticeRec) :
    List NoticeRec :=
  if l.any (NoticeRec.about k subject) then
    l.map fun n => if n.about k subject then { n with occurrences := min (n.occurrences + 1) 65535 } else n
  else l ++ [{ kind := k, subject := subject, occurrences := 1, firstCycle := cycle, detail := detail }]

/-- A block raises a notice: an enabled kind goes to the pending list, a disabled one is counted as suppressed
(R179). It carries the cycle number that the timer holds (R178). -/
def raise (k : NoticeKind) (subject : Byte) (detail : Octets) (s : State) : State :=
  if s.notices.enabled[k.place] then
    { s with notices :=
        { s.notices with waiting := applyRaise k subject detail s.timer.cycle s.notices.waiting } }
  else countUnit (fun c => { c with suppressed := bump c.suppressed }) s

/-! ### Replies and completions (R148, R151, R152) -/

/-- The immediate reply of a request is appended (R144). -/
def reply (r : Request) (st : Status) (result : Octets) (s : State) : State :=
  { s with engine :=
      { s.engine with replies :=
          s.engine.replies ++ [{ port := r.port, code := r.code, tag := r.tag, status := st, result := result }] } }

/-- A refusal with its empty result (R10). -/
def refuse (r : Request) (st : Status) (s : State) : State := reply r st [] s

/-- The completion of an operation, as a reply record (R10). -/
def Operation.completion (o : Operation) (st : Status) (result : Octets) : Reply :=
  { port := o.port, code := o.code, tag := o.tag, status := st, result := result }

/-- A block reports the end of the operation on a target: its completion is appended when a place is free and none is
held, otherwise it is held last (R151). -/
def complete (t : Target) (st : Status) (result : Octets) (s : State) : State :=
  match s.engine.inFlight.find? (fun o => o.target == t) with
  | none => s
  | some o =>
    if engineReady s then
      { s with engine :=
          { s.engine with
            inFlight := s.engine.inFlight.erase o
            replies := s.engine.replies ++ [o.completion st result] } }
    else
      { s with engine :=
          { s.engine with
            inFlight := s.engine.inFlight.erase o
            held := s.engine.held ++ [{ op := o, status := st, result := result }] } }

/-- The first held completion is appended where a place is free, and its entry freed (R152). -/
def appendHeld (s : State) : State :=
  match s.engine.held with
  | [] => s
  | h :: rest =>
    if s.engine.replies.length < Config.replyPlaces then
      { s with engine :=
          { s.engine with replies := s.engine.replies ++ [h.op.completion h.status h.result], held := rest } }
    else s

/-- Entries of the in-flight table in use (R143). -/
def Engine.tableSize (e : Engine) : Nat := e.inFlight.length + e.held.length

/-- An in-flight entry holds this port and tag (R150). -/
def Engine.tagInUse (e : Engine) (p : Port) (tag : Byte) : Bool :=
  (e.inFlight ++ e.held.map HeldOp.op).any (fun o => o.port == p && o.tag == tag)

/-- A long operation gets its in-flight entry, RUNNING (R150). -/
def openOperation (r : Request) (t : Target) (s : State) : State :=
  { s with engine :=
      { s.engine with
        inFlight := s.engine.inFlight ++ [{ port := r.port, tag := r.tag, code := r.code, target := t }] } }

/-! ### Lane queues (R45 to R51) -/

/-- The lane's hysteresis state is judged on its present occupancy and profile (R50). -/
def judgeLane (l : Lane) (s : State) : State :=
  modLane l (fun x => { x with high := judgedHigh s.ports[l.port].profile x.queue.length x.high }) s

/-- A lane queue is emptied, its buffers return, and the hysteresis state is judged (R49). -/
def emptyLane (l : Lane) (s : State) : State :=
  judgeLane l (modLane l (fun x => { x with queue := [] }) (freeBuffers s.lanes[l].queue.length s))

/-- The records of an epoch in a lane queue, in arrival order. -/
def epochRecs (s : State) (l : Lane) (e : Epoch) : List LaneRec := s.lanes[l].queue.filter (fun r => r.epoch == e)

/-- Every record of an epoch is taken out of a lane queue, and the hysteresis state is judged once (R47). -/
def takeOut (l : Lane) (e : Epoch) (s : State) : State :=
  judgeLane l (modLane l (fun x => { x with queue := x.queue.filter (fun r => !(r.epoch == e)) }) s)

/-- A lane's queued cells of an epoch are discarded (R47). -/
def discardEpoch (l : Lane) (e : Epoch) (s : State) : State :=
  takeOut l e (freeBuffers (epochRecs s l e).length s)

/-- A DATA cell of an IN lane that is not late reaches the lane queue: quota drop, pool drop or append (R46). -/
def laneAppend (l : Lane) (e : Epoch) (c : DataCell) (s : State) : State :=
  if s.ports[l.port].profile.quota ≤ s.lanes[l].queue.length then
    countPort l.port (fun k => { k with quotaDrops := bump k.quotaDrops }) s
  else if s.free = 0 then
    raise .poolExhausted (o8 l.val) (o16 c.flow.toNat)
      (countPort l.port (fun k => { k with poolDrops := bump k.poolDrops }) s)
  else
    judgeLane l
      (modLane l (fun x => { x with queue := x.queue ++ [{ cell := c, epoch := e }] }) { s with free := s.free - 1 })

end Sys2Proof.Machine
end

