-- ==== Sys2Proof/Machine/Classify.lean ====
section
/-! DEFINITION. The Flow Table and the classifier (chapter 5): lookup, the tests of a cell in their order, admission to a
group queue, and the end of a drain. -/

namespace Sys2Proof.Machine

/-- The places of the Flow Table, in index order. -/
def allIndices : List FlowIdx := List.finRange 256

/-- The entry in a place has this key. -/
def holdsKey (lane inflow : Nat) (e : Option FlowEntry) : Bool :=
  match e with
  | some x => x.lane.val == lane && x.inflow.toNat == inflow
  | none => false

/-- The place whose entry has a key (R83, R86). -/
def findKey (s : State) (lane inflow : Nat) : Option FlowIdx := allIndices.find? (fun i => holdsKey lane inflow s.flows[i])

/-- The lowest-numbered free place (R83). -/
def lowestFree (s : State) : Option FlowIdx := allIndices.find? (fun i => s.flows[i].isNone)

/-- Whether a cell that reaches the classifier holds a buffer: a released cell does, a pass-lane cell does not
(5.3). -/
def Origin.holdsBuffer : Origin → Bool
  | .aligned _ => true
  | .pass => false

/-- A discarded cell gives back the buffer that it holds (R43). -/
def giveBack (o : Origin) (s : State) : State := if o.holdsBuffer then freeBuffers 1 s else s

/-- The outcomes of the sequence check (R88): the cell is stale, or it passes with the expected seq it leaves and the
gap it shows. -/
inductive SeqVerdict where
  | stale
  | passes (expected : Option Seq) (gap : Nat)
  deriving DecidableEq, Repr

/-- The sequence check of a cell with ingress sequence number `n` (R88). -/
def seqVerdict (e : FlowEntry) (n : Seq) : SeqVerdict :=
  if e.seqCheck then
    match e.expected with
    | none => .passes (some (n + 1)) 0
    | some x =>
      if n = x then .passes (some (n + 1)) 0
      else if seqAfter n x then .passes (some (n + 1)) (n - x).toNat
      else .stale
  else .passes e.expected 0

/-- The entry's budget is present and its admitted this cycle has reached it (R90). -/
def overBudget (e : FlowEntry) : Bool :=
  match e.budget with
  | some b => b ≤ e.admitted
  | none => false

/-- The cell's record is appended at the tail of the group queue, and the entry and the counters count it (R91 step 3).
-/
def enqueue (i : FlowIdx) (g : Group) (o : Origin) (c : DataCell) (s : State) : State :=
  countGroup g (fun k => { k with enqueued := bump k.enqueued })
    (countFlow i (fun k => { k with admitted := bump k.admitted })
      (modFlow i (fun x => { x with inQueue := x.inQueue + 1, admitted := min (x.admitted + 1) 65535 })
        (modGroup g (fun q => { q with queue := q.queue ++ [{ cell := c, entry := i, origin := o }] }) s)))

/-- Group admission of a cell that has passed the sequence check and the budget test (R91). -/
def groupAdmission (i : FlowIdx) (g : Group) (o : Origin) (c : DataCell) (s : State) : State :=
  if s.groups[g].limit ≤ s.groups[g].queue.length then
    giveBack o
      (raise .groupOverflow (o8 g.val) (o8 i.val :: o16 s.groups[g].limit)
        (countGroup g (fun k => { k with overflows := bump k.overflows })
          (countFlow i (fun k => { k with overflow := bump k.overflow }) s)))
  else if o.holdsBuffer then enqueue i g o c s
  else if s.free = 0 then
    raise .poolExhausted (o8 c.lane.val) (o16 c.flow.toNat)
      (countPort c.lane.port (fun k => { k with poolDrops := bump k.poolDrops }) s)
  else enqueue i g o c { s with free := s.free - 1 }

/-- The state, sequence and budget tests of a cell that hits the entry `e` at `i`, then admission (R87 to R91). -/
def classifyHit (i : FlowIdx) (e : FlowEntry) (o : Origin) (c : DataCell) (s : State) : State :=
  if e.draining then giveBack o (countFlow i (fun k => { k with drainDiscards := bump k.drainDiscards }) s)
  else
    match seqVerdict e c.seq with
    | .stale => giveBack o (countFlow i (fun k => { k with stale := bump k.stale }) s)
    | .passes x gap =>
      let s := countFlow i (fun k => { k with seqGap := plus k.seqGap gap }) (modFlow i (fun y => { y with expected := x }) s)
      if overBudget e then giveBack o (countFlow i (fun k => { k with overBudget := bump k.overBudget }) s)
      else groupAdmission i e.group o c s

/-- A cell reaches the classifier (R86). -/
def classify (o : Origin) (c : DataCell) (s : State) : State :=
  match findKey s c.lane.val c.flow.toNat with
  | none =>
    giveBack o
      (raise .unknownFlow (o8 c.lane.val) (o16 c.flow.toNat)
        (countPort c.lane.port (fun k => { k with unknownFlows := bump k.unknownFlows }) s))
  | some i =>
    match s.flows[i] with
    | none => s
    | some e => classifyHit i e o c s

/-- A cycle start at the Flow Table: admitted this cycle returns to 0 in every entry (R90, R131). -/
def renewBudgets (s : State) : State :=
  { s with flows := s.flows.map (Option.map fun e => { e with admitted := 0 }) }

/-- The drain of the entry at `i` ends when it is DRAINING and its in-queue count is 0: it leaves its place and the
engine sends DONE (R101). -/
def endDrain (i : FlowIdx) (s : State) : State :=
  match s.flows[i] with
  | none => s
  | some e =>
    if e.draining && e.inQueue == 0 then
      complete (.flow i) .done [] { s with flows := upd s.flows i (fun _ => none) }
    else s

end Sys2Proof.Machine
end

