-- ==== Sys2Proof/Machine/Align.lean ====
section
/-! DEFINITION. The Epoch Aligner (chapter 4): records, joining, closing, slipping, release, lateness, the set reset
test, and what a lane leaving UP does to it. -/

namespace Sys2Proof.Machine

/-! ### Records (R57, R58) -/

def EpochRec.setStatus (l : Lane) (x : LaneStatus) (r : EpochRec) : EpochRec :=
  { r with status := upd r.status l (fun _ => x) }

def EpochRec.setArrivals (l : Lane) (n : Nat) (r : EpochRec) : EpochRec :=
  { r with arrivals := upd r.arrivals l (fun _ => n) }

/-- The due count is set to D + 1 if it is absent (R58). -/
def EpochRec.makeDue (skew : Nat) (r : EpochRec) : EpochRec :=
  match r.due with
  | none => { r with due := some (skew + 1) }
  | some _ => r

/-- A record whose every status is NA gets its due count (R58). -/
def EpochRec.dueIfEmpty (skew : Nat) (r : EpochRec) : EpochRec := if r.allNA then r.makeDue skew else r

/-- The record of an epoch changed by `f`. -/
def modRecord (e : Epoch) (f : EpochRec → EpochRec) (s : State) : State :=
  modWindow (List.map fun r => if r.epoch == e then f r else r) s

/-- Every record whose every status is NA gets its due count (R58). -/
def dueEmptyRecords (s : State) : State := modWindow (List.map (EpochRec.dueIfEmpty s.aligner.skew)) s

/-- A new record: due count absent, arrival counts 0, EXPECTED for each lane that is IN and NA for the others (R57).
-/
def newRecord (s : State) (e : Epoch) : EpochRec :=
  { epoch := e, due := none,
    status := s.lanes.map fun x => if x.member.inSet then LaneStatus.expected else LaneStatus.na,
    arrivals := Vector.replicate 6 0 }

/-- The newest record of the window. -/
def newest (s : State) : Option EpochRec := s.aligner.window.getLast?

/-- The records from the newest one's successor up to `e`, when `e` is after the newest; with the window empty, the
one record of `e` (R57, R62 step 1). -/
def recordsUpTo (s : State) (e : Epoch) : List EpochRec :=
  match newest s with
  | none => [newRecord s e]
  | some n =>
    if epochAfter e n.epoch then
      (List.range (e - n.epoch).toNat).map fun k => newRecord s (n.epoch + BitVec.ofNat 16 (k + 1))
    else []

/-! ### The set (R56, R74) -/

/-- No lane is IN. -/
def noLaneIn (s : State) : Bool := s.lanes.toList.all fun x => !x.member.inSet

/-- The set reset test: with no record in the window and no lane IN the set becomes EMPTY (R74). -/
def setResetTest (s : State) : State :=
  if s.aligner.window.isEmpty && noLaneIn s then
    { s with aligner := { s.aligner with running := false, lastReleased := none } }
  else s

/-! ### Release (R70 to R73) -/

/-- The lane is ejected: LAGGING, NA and no arrivals in every younger record, then LANE_EJECTED (R72 step 4). The record
being released stands first in the window. -/
def eject (l : Lane) (e : Epoch) (n : Nat) (s : State) : State :=
  countLane l (fun k => { k with ejections := bump k.ejections })
    (raise .laneEjected (o8 l.val) (o16 e.toNat ++ [o8 n])
      (modWindow (fun w =>
          w.take 1 ++
            (w.drop 1).map fun r => ((r.setStatus l .na).setArrivals l 0).dueIfEmpty s.aligner.skew)
        (modLane l (fun x => { x with member := .lagging }) s)))

/-- The late flag that a late charge for `e` leaves: set when `e` is the lane's current epoch (R72 step 2). -/
def Membership.lateFor (e : Epoch) : Membership → Membership
  | .isIn c late => .isIn c (late || c == e)
  | m => m

/-- A lane is late for the epoch being released (R72). -/
def lateCharge (l : Lane) (e : Epoch) (s : State) : State :=
  let n := min (s.lanes[l].lateCount + 1) 7
  let s := discardEpoch l e s
  let s := modLane l (fun x => { x with member := x.member.lateFor e, lateCount := n }) s
  let s := raise .laneLate (o8 l.val) (o16 e.toNat ++ [o8 n]) (countLane l (fun k => { k with lates := bump k.lates }) s)
  if s.aligner.lateLimit ≤ n then eject l e n s else s

/-- The cells of a released epoch go from a CLOSED lane's queue to the classifier in arrival order, and the lane's late
count returns to 0 (R47, R71 step 3). -/
def releaseLane (l : Lane) (e : Epoch) (s : State) : State :=
  modLane l (fun x => { x with lateCount := 0 })
    ((epochRecs s l e).foldl (fun s r => classify (.aligned e) r.cell s) (takeOut l e s))

/-- The counter of a release's kind rises (R71 step 1, R73). -/
def countRelease (forced : Bool) (r : EpochRec) (s : State) : State :=
  countUnit (fun k =>
      if forced then { k with forcedReleases := bump k.forcedReleases }
      else if r.allNA then { k with emptyReleases := bump k.emptyReleases }
      else if r.status.toList.any (· == .expected) then { k with partialReleases := bump k.partialReleases }
      else { k with fullReleases := bump k.fullReleases }) s

/-- The oldest record is released (R71). -/
def releaseOldest (forced : Bool) (s : State) : State :=
  match s.aligner.window with
  | [] => s
  | r :: _ =>
    let s := countRelease forced r s
    let s := allLanes.foldl (fun s l => if r.status[l] = .expected then lateCharge l r.epoch s else s) s
    let s := allLanes.foldl (fun s l => if r.status[l] = .closed then releaseLane l r.epoch s else s) s
    setResetTest
      { s with aligner := { s.aligner with window := s.aligner.window.drop 1, lastReleased := some r.epoch } }

/-- A forced release: WINDOW_FORCED, then the release of the oldest record (R73). -/
def forcedRelease (s : State) : State :=
  match s.aligner.window with
  | [] => s
  | r :: _ =>
    releaseOldest true
      (raise .windowForced unitSubject (o16 r.epoch.toNat ++ [o8 (r.status.toList.count .expected)]) s)

/-- Every present due count is lowered by one (R70 step 1). -/
def lowerDue (w : List EpochRec) : List EpochRec := w.map fun r => { r with due := r.due.map (· - 1) }

/-- How many records a release point releases: the youngest one at due count 0 and every older one (R70 step 3). -/
def releaseCount : List EpochRec → Nat
  | [] => 0
  | r :: rest =>
    match releaseCount rest with
    | 0 => if r.due = some 0 then 1 else 0
    | n + 1 => n + 2

/-- The oldest record is released, `n` times. -/
def releaseMany : Nat → State → State
  | 0, s => s
  | n + 1, s => releaseMany n (releaseOldest false s)

/-- A release point (R70). -/
def releasePoint (s : State) : State :=
  let s := modWindow lowerDue s
  releaseMany (releaseCount s.aligner.window) s

/-! ### Joining (R61, R62) -/

/-- The newest record in which the lane is CLOSED. -/
def newestClosed (s : State) (l : Lane) : Option EpochRec :=
  (s.aligner.window.filter fun r => r.status[l] == .closed).getLast?

/-- A MARK with epoch `e` is joinable on a JOINING lane (R61). -/
def joinable (s : State) (l : Lane) (e : Epoch) : Bool :=
  if s.aligner.running then
    match s.aligner.window with
    | [] => s.aligner.lastReleased == some (e - 1)
    | oldest :: _ =>
      (e - oldest.epoch).toNat ≤ 3 &&
      (match s.aligner.lastReleased with
       | some x => epochAfter e x
       | none => true) &&
      (match newestClosed s l with
       | some r => epochAfter e r.epoch
       | none => true)
  else true

/-- The joining lane's status in a record: EXPECTED in `e` and every later one, NA in every older one but where it is
CLOSED (R62 step 3). -/
def joinStatus (l : Lane) (e : Epoch) (r : EpochRec) : EpochRec :=
  if r.epoch == e then (r.setStatus l .expected).setArrivals l 0
  else if epochAfter r.epoch e then r.setStatus l .expected
  else if r.status[l] = .closed then r
  else r.setStatus l .na

/-- A join (R62). The records that a join into a RUNNING set creates get their due count where every status is NA (R58).
DEDUCED (log entry 5): the record that starts an EMPTY set begins with its due count absent, as the examples of 4.14 and
11.9 show. -/
def join (l : Lane) (e : Epoch) (s : State) : State :=
  let s :=
    if s.aligner.running then
      modWindow (fun w => w ++ (recordsUpTo s e).map (EpochRec.dueIfEmpty s.aligner.skew)) s
    else { s with aligner := { s.aligner with running := true, window := [newRecord s e] } }
  let s := modLane l (fun x => { x with member := .isIn e false }) s
  let s := dueEmptyRecords (modWindow (List.map (joinStatus l e)) s)
  countLane l (fun k => { k with joins := bump k.joins }) s

/-- A MARK on a JOINING lane is a join when it is joinable, and is discarded otherwise (R61 to R63). -/
def tryJoin (l : Lane) (e : Epoch) (s : State) : State := if joinable s l e then join l e s else s

/-! ### A member lane (R64 to R67) -/

/-- The close of epoch `c` for a lane that is not late: status, comparison, due count (R64). -/
def closeRecord (l : Lane) (c : Epoch) (declared : Nat) (s : State) : State :=
  match s.aligner.window.find? (fun r => r.epoch == c) with
  | none => s
  | some r =>
    let n := r.arrivals[l]
    let s := modRecord c (EpochRec.setStatus l .closed) s
    let s :=
      if declared = n then s
      else
        countLane l (fun k => { k with mismatches := bump k.mismatches })
          (raise .epochCountMismatch (o8 l.val) (o16 c.toNat ++ o16 declared ++ o16 (min n 65535)) s)
    modRecord c (EpochRec.makeDue s.aligner.skew) s

/-- Epoch `f` has been released: a released epoch is held and `f` is not after it (R65). -/
def releasedAlready (s : State) (f : Epoch) : Bool :=
  match s.aligner.lastReleased with
  | some x => !epochAfter f x
  | none => false

/-- After a close the lane moves to the successor epoch `f` (R65). -/
def moveTo (l : Lane) (f : Epoch) (late : Bool) (s : State) : State :=
  if releasedAlready s f then modLane l (fun x => { x with member := .isIn f late }) s
  else
    let s := modLane l (fun x => { x with member := .isIn f false }) s
    if s.aligner.window.any (fun r => r.epoch == f) then s
    else
      let s := if Config.windowPlaces ≤ s.aligner.window.length then forcedRelease s else s
      modWindow (fun w => w ++ [newRecord s f]) s

/-- A MARK with the successor epoch closes the lane's current epoch `c` (R64, R65). -/
def close (l : Lane) (c : Epoch) (late : Bool) (declared : Nat) (s : State) : State :=
  moveTo l (c + 1) late (if late then s else closeRecord l c declared s)

/-- The slipping lane's status in a record: NA in `c` and in every later record in which it is EXPECTED, with no
arrivals there (R66 step 2). DEDUCED (log entry 6): the arrival count of record `c` becomes 0 too. -/
def slipStatus (l : Lane) (c : Epoch) (r : EpochRec) : EpochRec :=
  if r.epoch == c || (epochAfter r.epoch c && r.status[l] == .expected) then
    (r.setStatus l .na).setArrivals l 0
  else r

/-- A MARK with another epoch is a slip (R66). -/
def slip (l : Lane) (c f : Epoch) (s : State) : State :=
  let s := discardEpoch l c s
  let s := dueEmptyRecords (modWindow (List.map (slipStatus l c)) s)
  let s := raise .laneSlip (o8 l.val) (o16 (c + 1).toNat ++ o16 f.toNat) s
  let s := countLane l (fun k => { k with slips := bump k.slips }) s
  let s := modLane l (fun x => { x with member := .joining }) s
  setResetTest (tryJoin l f s)

/-- The receiver hands a MARK to the aligner (R29, R63, R64, R66, R68). -/
def alignMark (l : Lane) (f : Epoch) (declared : Nat) (s : State) : State :=
  let s := countLane l (fun k => { k with marks := bump k.marks }) s
  match s.lanes[l].member with
  | .waiting => s
  | .lagging => s
  | .joining => tryJoin l f s
  | .isIn c late => if f = c + 1 then close l c late declared s else slip l c f s

/-- The lane's arrival count in record `c` rises by one, stopping at 65536 (R67). -/
def countArrival (l : Lane) (c : Epoch) (s : State) : State :=
  modRecord c (fun r => r.setArrivals l (min (r.arrivals[l] + 1) 65536)) s

/-- The receiver hands a DATA cell to the aligner (R30, R63, R67, R68). -/
def alignData (l : Lane) (c : DataCell) (s : State) : State :=
  match s.lanes[l].member with
  | .waiting => s
  | .joining => countLane l (fun k => { k with joiningDiscards := bump k.joiningDiscards }) s
  | .lagging => countLane l (fun k => { k with lateDiscards := bump k.lateDiscards }) s
  | .isIn e late =>
    if late then countLane l (fun k => { k with lateDiscards := bump k.lateDiscards }) s
    else laneAppend l e c (countArrival l e s)

/-! ### A lane entering and leaving UP (R60, R76) -/

/-- A lane enters UP: an aligned lane goes from WAITING to JOINING (R60). -/
def alignEnterUp (l : Lane) (s : State) : State :=
  if laneAligned s l && s.lanes[l].member == .waiting then modLane l (fun x => { x with member := .joining }) s else s

/-- A lane leaves UP: WAITING, NA and no arrivals in every record, then the set reset test (R76). -/
def alignLeaveUp (l : Lane) (s : State) : State :=
  let s := modLane l (fun x => { x with member := .waiting, lateCount := 0 }) s
  let s := dueEmptyRecords (modWindow (List.map fun r => (r.setStatus l .na).setArrivals l 0) s)
  setResetTest s

end Sys2Proof.Machine
end

