-- ==== Sys2Proof/Machine/Links.lean ====
section
/-! DEFINITION. A port leaves UP or enters it (R24, R33, R34): the share of every block that holds state for the port. -/

namespace Sys2Proof.Machine

/-- Why a port leaves UP (2.5). -/
inductive DownCause where
  | budgetLimit | restart | disabled
  deriving DecidableEq, Repr

/-- The detail code of a cause (2.5). -/
def DownCause.code : DownCause → Byte
  | .budgetLimit => 0x01
  | .restart => 0x02
  | .disabled => 0x03

/-- The receiver state after leaving UP (2.5). -/
def DownCause.after : DownCause → RxState
  | .disabled => .off
  | _ => .hunt

/-- The Lane queue's and the aligner's share of a port leaving UP, on a lane (R34). -/
def laneLeavesUp (p : Port) (s : State) : State :=
  match p.lane? with
  | some l => alignLeaveUp l (emptyLane l s)
  | none => s

/-- Ownership is lost when the owner's port leaves UP (R157). -/
def ownerLeavesUp (p : Port) (s : State) : State :=
  if s.engine.ownerPort = some p then
    raise .ownerLost unitSubject [o8 p.val, 0x02] { s with engine := { s.engine with owner := none } }
  else s

/-- The snapshot ends when its holder's port leaves UP (R175). -/
def holderLeavesUp (p : Port) (s : State) : State :=
  if s.snapshot.map Snapshot.holder = some p then { s with snapshot := none } else s

/-- A port leaves UP: its receiver's own share (R33), then every block that holds state for it (R34). -/
def leaveUp (p : Port) (cause : DownCause) (s : State) : State :=
  let level := s.ports[p].rx.level
  let s := modRx p (fun _ => Receiver.fresh cause.after) s
  let s := countPort p (fun k => { k with downs := bump k.downs }) s
  let s := raise .laneDown (o8 p.val) [cause.code, o8 level] s
  holderLeavesUp p (ownerLeavesUp p (laneLeavesUp p s))

/-- A port enters UP (R24, R60). -/
def enterUp (p : Port) (s : State) : State :=
  let s := modRx p (fun _ => { Receiver.fresh .up with count := Config.headersToUp }) s
  let s := raise .laneUp (o8 p.val) [] s
  match p.lane? with
  | some l => alignEnterUp l s
  | none => s

end Sys2Proof.Machine
end

