-- ==== Sys2Proof/Machine/Operands.lean ====
section
/-! DEFINITION. The operands of a request: its argument octets as ordered fields (R9), and the codes in which arguments and
results carry modes, states and slot entries. -/

namespace Sys2Proof.Machine

/-- A number as a member of a range, absent when it lies outside. -/
def fin? (n k : Nat) : Option (Fin k) := if h : n < k then some ⟨n, h⟩ else none

/-- The one-octet argument at a position. -/
def Request.arg (r : Request) (i : Nat) : Nat := (octet r.args i).toNat

/-- The two-octet argument at a position. -/
def Request.arg16 (r : Request) (i : Nat) : Nat := pair r.args i

/-- An octet that is a yes/no field: 00h or 01h (R35). -/
def isYesNo (n : Nat) : Bool := n ≤ 1

/-- Mode codes: 00h PASS, 01h ALIGNED (R35). -/
def Mode.code : Mode → Byte
  | .pass => 0
  | .aligned => 1

/-- Receiver state codes (R35). -/
def RxState.code : RxState → Byte
  | .off => 0
  | .hunt => 1
  | .check => 2
  | .up => 3

/-- Membership codes (R77). -/
def Membership.code : Membership → Byte
  | .waiting => 0
  | .joining => 1
  | .isIn _ _ => 2
  | .lagging => 3

/-- The current epoch, 0 when the lane is not IN (R77). -/
def Membership.current : Membership → Epoch
  | .isIn c _ => c
  | _ => 0

/-- The late flag (R59). -/
def Membership.late : Membership → Bool
  | .isIn _ x => x
  | _ => false

/-- Status codes of an epoch record (R77). -/
def LaneStatus.code : LaneStatus → Byte
  | .na => 0
  | .expected => 1
  | .closed => 2

/-- Stamp codes (R97). -/
def Stamp.code : Stamp → Byte
  | .keep => 0
  | .add => 1
  | .strip => 2

/-- The stamp of a code (R97). -/
def stampOf : Nat → Option Stamp
  | 0 => some .keep
  | 1 => some .add
  | 2 => some .strip
  | _ => none

/-- The kind octet of a slot entry (R106). -/
def SlotKind.code : SlotKind → Byte
  | .idle => 0x00
  | .mgmt => 0x01
  | .group g => o8 (16 + g.val)

/-- The slot kind of an octet: 00h IDLE, 01h MGMT, 10h to 1Fh GROUP(0) to GROUP(15) (R106). -/
def slotKindOf (n : Nat) : Option SlotKind :=
  if n = 0 then some .idle
  else if n = 1 then some .mgmt
  else if 16 ≤ n then (fin? (n - 16) 16).map .group
  else none

/-- A slot entry of two octets, absent for any other value of either (R106). -/
def slotEntryOf (kind lend : Nat) : Option SlotEntry :=
  match slotKindOf kind with
  | some k => if isYesNo lend then some { kind := k, lend := lend == 1 } else none
  | none => none

/-- A slot entry as two octets (R106). -/
def SlotEntry.octets (e : SlotEntry) : Octets := [e.kind.code, yn e.lend]

/-- The code of a bank (R110). -/
def Bank.code : Bank → Byte
  | .a => 0
  | .b => 1

/-- A phase error as one octet in two's complement (R135, R140). -/
def phaseOctet (p : Int) : Byte := BitVec.ofInt 8 p

/-- Follow mode codes (R138). -/
def FollowMode.code : FollowMode → Byte
  | .free => 0
  | .watch => 1
  | .once => 2
  | .always => 3

/-- The follow mode of a code (R138). -/
def followModeOf : Nat → Option FollowMode
  | 0 => some .free
  | 1 => some .watch
  | 2 => some .once
  | 3 => some .always
  | _ => none

/-- The notice kinds in code order (R12). -/
def allKinds : List NoticeKind :=
  [.laneUp, .laneDown, .laneSlip, .laneLate, .laneEjected, .epochCountMismatch, .unknownFlow, .poolExhausted,
   .groupOverflow, .windowForced, .ownerLost, .refDrift, .refRealigned, .snapExpired]

/-- The counters of a port in the order of R164. -/
def PortCounters.list (c : PortCounters) : List Count :=
  [c.valid, c.headerErrors, c.formatErrors, c.tagErrors, c.downs, c.fillArrivals, c.markArrivals, c.dataArrivals,
   c.mreqArrivals, c.mreqNotPermitted, c.mreqForeign, c.mreqOverrun, c.poolDrops, c.quotaDrops, c.dataUnderPause,
   c.unknownFlows]

/-- The lane alignment counters in the order of R164. -/
def LaneCounters.list (c : LaneCounters) : List Count :=
  [c.marks, c.joins, c.slips, c.lates, c.ejections, c.mismatches, c.joiningDiscards, c.lateDiscards]

/-- The counters of a flow index in the order of R165. -/
def FlowCounters.list (c : FlowCounters) : List Count :=
  [c.admitted, c.transmitted, c.seqGap, c.stale, c.overBudget, c.overflow, c.drainDiscards, c.stampSkipped]

/-- The counters of a group in the order of R165. -/
def GroupCounters.list (c : GroupCounters) : List Count :=
  [c.enqueued, c.transmitted, c.overflows, c.flushed, c.borrowed]

/-- The counters of the unit in the order of R166. -/
def UnitCounters.list (c : UnitCounters) : List Count :=
  [c.fillSlots, c.replySent, c.noticeSent, c.fullReleases, c.partialReleases, c.emptyReleases, c.forcedReleases,
   c.crefPulses, c.realigns, c.snapExpiries, c.suppressed]

/-- Counter copies as four octets each (R172). -/
def countOctets (l : List Count) : Octets := l.flatMap fun c => o32 c.toNat

end Sys2Proof.Machine
end

