-- ==== Sys2Proof/Machine/AlignCommands.lean ====
section
/-! DEFINITION. ALIGN_GET, ALIGN_SET and ALIGN_REJOIN (R77 to R80). -/

namespace Sys2Proof.Machine

/-- A lane's five octets in the summary (R77). -/
def memberOctets (x : LaneState) : Octets :=
  [x.member.code] ++ o16 x.member.current.toNat ++ [yn x.member.late, o8 x.lateCount]

/-- The 40-octet summary of ALIGN_GET section 00h (R77). -/
def alignSummary (s : State) : Octets :=
  let a := s.aligner
  [o8 a.skew, o8 a.releaseSlot.val, o8 a.lateLimit, yn a.running, yn a.lastReleased.isSome] ++
    o16 (a.lastReleased.getD 0).toNat ++ [o8 a.window.length] ++
    o16 (match a.window with
         | [] => 0
         | r :: _ => r.epoch.toNat) ++
    s.lanes.toList.flatMap memberOctets

/-- The 22-octet result for a record of the window, present or not (R77). -/
def recordOctets : Option EpochRec → Octets
  | none => List.replicate 22 0
  | some r =>
    [1] ++ o16 r.epoch.toNat ++ [o8 (r.due.getD 0)] ++ r.status.toList.map LaneStatus.code ++
      r.arrivals.toList.flatMap fun n => o16 (min n 65535)

/-- ALIGN_GET (R77). -/
def doAlignGet (r : Request) (s : State) : State :=
  if r.arg 0 = 0 then reply r .ok (alignSummary s) s
  else if r.arg 0 ≤ 4 then reply r .ok (recordOctets s.aligner.window[r.arg 0 - 1]?) s
  else refuse r .badArgument s

/-- ALIGN_SET (R78, R79). -/
def doAlignSet (r : Request) (s : State) : State :=
  match fin? (r.arg 1) 64 with
  | none => refuse r .badArgument s
  | some n =>
    if 7 < r.arg 0 ∨ r.arg 2 < 1 ∨ 7 < r.arg 2 then refuse r .badArgument s
    else
      reply r .ok []
        { s with aligner := { s.aligner with skew := r.arg 0, releaseSlot := n, lateLimit := r.arg 2 } }

/-- ALIGN_REJOIN (R80). -/
def doAlignRejoin (r : Request) (s : State) : State :=
  match fin? (r.arg 0) 6 with
  | none => refuse r .badArgument s
  | some l =>
    if s.lanes[l].member = .lagging then
      modLane l (fun x => { x with member := .joining, lateCount := 0 }) (reply r .ok [] s)
    else refuse r .badArgument s

end Sys2Proof.Machine
end

