-- ==== Sys2Proof/Machine/CounterCommands.lean ====
section
/-! DEFINITION. SNAP_TAKE, SNAP_READ, SNAP_DROP and COUNT_CLEAR (R168 to R173). -/

namespace Sys2Proof.Machine

/-- The key record of a place (R171 step 2). -/
def keyRecord (e : FlowEntry) : KeyRec := { lane := e.lane, inflow := e.inflow, draining := e.draining }

/-- The lifetime that a SNAP_TAKE's argument selects (R170). -/
def lifetimeOf (n : Nat) : Nat := if n = 0 then Config.defaultLifetime else n

/-- The copy of every counter and key record (R171 steps 1 to 3). -/
def snapshotOf (r : Request) (s : State) : Snapshot :=
  { holder := r.port, cycle := s.timer.cycle, slot := s.timer.slot, cleared := r.arg 0 == 1,
    lifetime := lifetimeOf (r.arg 1), remaining := lifetimeOf (r.arg 1), counters := s.counters,
    keys := s.flows.map (Option.map keyRecord) }

/-- A snapshot exists and its holder is another port (R170). -/
def heldByOther (s : State) (p : Port) : Bool :=
  match s.snapshot with
  | some x => x.holder != p
  | none => false

/-- SNAP_TAKE (R170, R171). -/
def doSnapTake (r : Request) (s : State) : State :=
  if !isYesNo (r.arg 0) then refuse r .badArgument s
  else if !portUp s r.port then refuse r .badArgument s
  else if heldByOther s r.port then refuse r .snapHeld s
  else
    let x := snapshotOf r s
    reply r .ok (o32 x.cycle.toNat ++ [o8 x.slot.val, o8 x.lifetime])
      { s with snapshot := some x, counters := if r.arg 0 = 1 then Counters.zero else s.counters }

/-- The key octets of a flow block (R172). -/
def keyOctets : Option KeyRec → Octets
  | none => [0, 0, 0, 0, 0]
  | some k => [1, o8 k.lane.val] ++ o16 k.inflow.toNat ++ [yn k.draining]

/-- The header block of a snapshot (R172). -/
def headerOctets (x : Snapshot) : Octets :=
  [o8 x.holder.val] ++ o32 x.cycle.toNat ++ [o8 x.slot.val, yn x.cleared, o8 x.lifetime, o8 x.remaining]

/-- A port block in its two parts: positions 1 to 12, and 13 to 16 (R164, R172). -/
def portBlock (c : PortCounters) (part : Nat) : Octets :=
  if part = 0 then countOctets (c.list.take 12) else countOctets (c.list.drop 12)

/-- The block of a snapshot that section, subject and part name, absent when R172 refuses them BAD_ARGUMENT. -/
def blockOctets (x : Snapshot) (section_ subject part : Nat) : Option Octets :=
  match section_ with
  | 0 => if subject = 0 ∧ part = 0 then some (headerOctets x) else none
  | 1 => if part ≤ 1 then (fin? subject 7).map fun p => portBlock x.counters.ports[p] part else none
  | 2 => if part = 0 then (fin? subject 6).map fun l => countOctets x.counters.lanes[l].list else none
  | 3 =>
    if part = 0 then (fin? subject 256).map fun i => keyOctets x.keys[i] ++ countOctets x.counters.flows[i].list
    else none
  | 4 => if part = 0 then (fin? subject 16).map fun g => countOctets x.counters.groups[g].list else none
  | 5 => if subject = 0 ∧ part = 0 then some (countOctets x.counters.unit.list) else none
  | _ => none

/-- Section, subject and part name a block (R172 step 1). -/
def blockExists (section_ subject part : Nat) : Bool :=
  match section_ with
  | 0 => subject == 0 && part == 0
  | 1 => subject ≤ 6 && part ≤ 1
  | 2 => subject ≤ 5 && part == 0
  | 3 => subject ≤ 255 && part == 0
  | 4 => subject ≤ 15 && part == 0
  | 5 => subject == 0 && part == 0
  | _ => false

/-- SNAP_READ (R172). -/
def doSnapRead (r : Request) (s : State) : State :=
  if !blockExists (r.arg 0) (r.arg16 1) (r.arg 3) then refuse r .badArgument s
  else
    match s.snapshot with
    | none => refuse r .noSnapshot s
    | some x =>
      if x.holder = r.port then
        reply r .ok (r.args.take 4 ++ (blockOctets x (r.arg 0) (r.arg16 1) (r.arg 3)).getD []) s
      else refuse r .noSnapshot s

/-- SNAP_DROP (R173). -/
def doSnapDrop (r : Request) (s : State) : State :=
  if s.snapshot.map Snapshot.holder = some r.port then reply r .ok [] { s with snapshot := none }
  else refuse r .noSnapshot s

/-! ### COUNT_CLEAR (R168) -/

/-- The blocks of a section that a subject names: every one for FFFFh (R168). -/
def clearBlocks {α : Type} {n : Nat} (zero : α) (subject : Nat) (v : Vector α n) : Vector α n :=
  if subject = 65535 then Vector.replicate n zero
  else
    match fin? subject n with
    | some i => upd v i (fun _ => zero)
    | none => v

/-- The counters after COUNT_CLEAR (R168). -/
def clearCounters (section_ subject : Nat) (c : Counters) : Counters :=
  match section_ with
  | 1 => { c with ports := clearBlocks {} subject c.ports }
  | 2 => { c with lanes := clearBlocks {} subject c.lanes }
  | 3 => { c with flows := clearBlocks {} subject c.flows }
  | 4 => { c with groups := clearBlocks {} subject c.groups }
  | 5 => { c with unit := {} }
  | _ => Counters.zero

/-- The values that COUNT_CLEAR accepts (R168). -/
def clearOk (section_ subject : Nat) : Bool :=
  match section_ with
  | 1 => subject == 65535 || subject ≤ 6
  | 2 => subject == 65535 || subject ≤ 5
  | 3 => subject == 65535 || subject ≤ 255
  | 4 => subject == 65535 || subject ≤ 15
  | 5 => subject == 65535 || subject == 0
  | 255 => subject == 65535
  | _ => false

/-- COUNT_CLEAR (R168). -/
def doCountClear (r : Request) (s : State) : State :=
  if clearOk (r.arg 0) (r.arg16 1) then
    reply r .ok [] { s with counters := clearCounters (r.arg 0) (r.arg16 1) s.counters }
  else refuse r .badArgument s

end Sys2Proof.Machine
end

