-- ==== Sys2Proof/Machine/CycleCommands.lean ====
section
/-! DEFINITION. CYCLE_SET, CYCLE_ARM and CYCLE_GET (R138 to R140). -/

namespace Sys2Proof.Machine

/-- CYCLE_SET: the OK, and the ABORTED of a running arm after it (R138). -/
def doCycleSet (r : Request) (s : State) : State :=
  match followModeOf (r.arg 0) with
  | none => refuse r .badArgument s
  | some m =>
    if 31 < r.arg 1 then refuse r .badArgument s
    else
      let armed := s.follower.armed
      let s := reply r .ok [] { s with follower := { s.follower with mode := m, window := r.arg 1, armed := false } }
      if armed then complete .follower .aborted [] s else s

/-- CYCLE_ARM (R139). -/
def doCycleArm (r : Request) (s : State) : State :=
  if s.follower.mode ≠ .once then refuse r .badArgument s
  else if s.follower.armed then refuse r .busy s
  else if s.engine.tagInUse r.port r.tag then refuse r .tagInUse s
  else if Config.inFlightPlaces ≤ s.engine.tableSize then refuse r .busy s
  else
    reply r .started []
      (openOperation r .follower { s with follower := { s.follower with armed := true } })

/-- The 12-octet result of CYCLE_GET (R140). -/
def cycleGetResult (s : State) : Octets :=
  [s.follower.mode.code, o8 s.follower.window, yn s.follower.armed, o8 s.timer.slot.val] ++ o32 s.timer.cycle.toNat ++
    o16 s.timer.tick.toNat ++ [yn s.follower.lastPhase.isSome, phaseOctet (s.follower.lastPhase.getD 0)]

/-- CYCLE_GET (R140). -/
def doCycleGet (r : Request) (s : State) : State := reply r .ok (cycleGetResult s) s

end Sys2Proof.Machine
end

