-- ==== Sys2Proof/Machine/FlowCommands.lean ====
section
/-! DEFINITION. The five flow commands (R97 to R103). -/

namespace Sys2Proof.Machine

/-- The fields that FLOW_ADD and FLOW_MODIFY carry, as a new entry (R97, R98). -/
def newEntry (r : Request) (lane : Lane) (group : Group) (stamp : Stamp) : FlowEntry :=
  { lane := lane, inflow := BitVec.ofNat 10 (r.arg16 1), draining := false, group := group,
    outflow := BitVec.ofNat 10 (r.arg16 4), seqCheck := r.arg 6 == 1, expected := none, renumber := r.arg 7 == 1,
    egressSeq := 0, stamp := stamp, budget := if r.arg16 9 = 0 then none else some (r.arg16 9), admitted := 0,
    inQueue := 0 }

/-- The entry of the arguments, absent when a value lies outside its range (R97 step 1). -/
def flowArgs (r : Request) : Option FlowEntry :=
  match fin? (r.arg 0) 6, fin? (r.arg 3) 16, stampOf (r.arg 8) with
  | some l, some g, some x =>
    if r.arg16 1 ≤ 1023 ∧ r.arg16 4 ≤ 1023 ∧ isYesNo (r.arg 6) ∧ isYesNo (r.arg 7) ∧ r.arg16 9 ≤ 4095 then
      some (newEntry r l g x)
    else none
  | _, _, _ => none

/-- The state of the entry in a place is DRAINING. -/
def isDraining (s : State) (i : FlowIdx) : Bool := (s.flows[i].map FlowEntry.draining).getD false

/-- FLOW_ADD (R97, R98). -/
def doFlowAdd (r : Request) (s : State) : State :=
  match flowArgs r with
  | none => refuse r .badArgument s
  | some e =>
    match findKey s e.lane.val e.inflow.toNat with
    | some i => refuse r (if isDraining s i then .keyBusy else .keyExists) s
    | none =>
      match lowestFree s with
      | none => refuse r .tableFull s
      | some i =>
        reply r .ok [o8 i.val]
          (countFlow i (fun _ => {}) { s with flows := upd s.flows i (fun _ => some e) })

/-- The entry after FLOW_MODIFY: the six fields of the arguments, and the expected seq absent when the seq mode
changes (R89, R99). -/
def FlowEntry.modified (new old : FlowEntry) : FlowEntry :=
  { old with
    group := new.group, outflow := new.outflow, seqCheck := new.seqCheck, renumber := new.renumber,
    stamp := new.stamp, budget := new.budget,
    expected := if new.seqCheck = old.seqCheck then old.expected else none }

/-- FLOW_MODIFY (R99). -/
def doFlowModify (r : Request) (s : State) : State :=
  match flowArgs r with
  | none => refuse r .badArgument s
  | some e =>
    match findKey s e.lane.val e.inflow.toNat with
    | none => refuse r .noEntry s
    | some i =>
      if isDraining s i then refuse r .keyBusy s else reply r .ok [] (modFlow i (FlowEntry.modified e) s)

/-- The long-operation checks, then the drain begins (R100, R150). -/
def beginDrain (r : Request) (i : FlowIdx) (s : State) : State :=
  if s.engine.tagInUse r.port r.tag then refuse r .tagInUse s
  else if Config.inFlightPlaces ≤ s.engine.tableSize then refuse r .busy s
  else
    reply r .started [o8 i.val]
      (openOperation r (.flow i) (modFlow i (fun x => { x with draining := true }) s))

/-- FLOW_REMOVE (R100). -/
def doFlowRemove (r : Request) (s : State) : State :=
  match findKey s (r.arg 0) (r.arg16 1) with
  | none => refuse r .noEntry s
  | some i =>
    if isDraining s i then refuse r .keyBusy s
    else if (s.flows[i].map FlowEntry.inQueue).getD 0 = 0 then
      reply r .ok [] { s with flows := upd s.flows i (fun _ => none) }
    else beginDrain r i s

/-- The 22-octet result of FLOW_GET (R102). -/
def FlowEntry.octets (i : FlowIdx) (e : FlowEntry) : Octets :=
  [o8 i.val, o8 e.lane.val] ++ o16 e.inflow.toNat ++ [yn e.draining, o8 e.group.val] ++ o16 e.outflow.toNat ++
    [yn e.seqCheck, yn e.expected.isSome] ++ o16 (e.expected.getD 0).toNat ++ [yn e.renumber] ++
    o16 e.egressSeq.toNat ++ [e.stamp.code] ++ o16 (e.budget.getD 0) ++ o16 e.admitted ++ o16 e.inQueue

/-- The place that FLOW_GET selects: absent when its values are refused BAD_ARGUMENT, and within that absent when no
entry is there (R102). -/
def flowSelected (r : Request) (s : State) : Option (Option FlowIdx) :=
  if r.arg 0 = 0 then
    if r.arg 1 ≤ 5 ∧ r.arg16 2 ≤ 1023 then some (findKey s (r.arg 1) (r.arg16 2)) else none
  else some (fin? (r.arg 1) 256)

/-- FLOW_GET (R102). A selector other than 00h and 01h has been refused with the argument length (R146). -/
def doFlowGet (r : Request) (s : State) : State :=
  match flowSelected r s with
  | none => refuse r .badArgument s
  | some none => refuse r .noEntry s
  | some (some i) =>
    match s.flows[i] with
    | none => refuse r .noEntry s
    | some e => reply r .ok (e.octets i) s

/-- One listed entry (R103). -/
def listedOctets (i : FlowIdx) (e : FlowEntry) : Octets := [o8 i.val, o8 e.lane.val] ++ o16 e.inflow.toNat

/-- The octets of the entries in places from a starting index upward, in index order (R103). -/
def entriesFrom (s : State) (start : Nat) : List Octets :=
  allIndices.filterMap fun i => if start ≤ i.val then s.flows[i].map (listedOctets i) else none

/-- FLOW_LIST (R103). -/
def doFlowList (r : Request) (s : State) : State :=
  let l := entriesFrom s (r.arg 0)
  reply r .ok ([o8 (l.take 8).length, yn (8 < l.length)] ++ (l.take 8).flatten) s

end Sys2Proof.Machine
end

