-- ==== Sys2Proof/Machine/LaneCommands.lean ====
section
/-! DEFINITION. LANE_GET, LANE_SET and LANE_RESTART (R35 to R38). -/

namespace Sys2Proof.Machine

/-- The profile's octets in LANE_GET's result (R35). -/
def Profile.octets (x : Profile) : Octets :=
  [yn x.enabled, x.mode.code, yn x.mgmt] ++ o16 x.quota ++ o16 x.high ++ o16 x.low ++
    [o8 x.limit, yn x.tag.isSome, x.tag.getD 0]

/-- The lane-queue and PAUSE octets of LANE_GET's result, zero for T-in (R35). -/
def queueOctets (s : State) (p : Port) : Octets :=
  match p.lane? with
  | some l => o16 s.lanes[l].queue.length ++ [yn s.lanes[l].high, yn (pauseLine s l)]
  | none => [0, 0, 0, 0]

/-- The 20-octet result of LANE_GET (R35). -/
def laneGetResult (s : State) (p : Port) : Octets :=
  [o8 p.val] ++ s.ports[p].profile.octets ++
    [s.ports[p].rx.st.code, o8 s.ports[p].rx.count, o8 s.ports[p].rx.level] ++ queueOctets s p

/-- LANE_GET (R35). -/
def doLaneGet (r : Request) (s : State) : State :=
  match fin? (r.arg 0) 7 with
  | none => refuse r .badArgument s
  | some p => reply r .ok (laneGetResult s p) s

/-- The relations of the three lane-queue fields (R20). -/
def watermarksOk (quota high low : Nat) : Bool :=
  if quota = 0 then high == 0 && low == 0 else 1 ≤ high && high ≤ quota && low < high

/-- The value checks of LANE_SET (R36). For T-in only enabled and the budget limit are checked. -/
def laneSetOk (r : Request) (p : Port) : Bool :=
  isYesNo (r.arg 1) && 16 ≤ r.arg 10 &&
  (p == tIn ||
    (isYesNo (r.arg 2) && isYesNo (r.arg 3) && isYesNo (r.arg 11) && r.arg16 4 ≤ 1024 &&
      watermarksOk (r.arg16 4) (r.arg16 6) (r.arg16 8)))

/-- The profile that LANE_SET writes: the whole record on a lane, enabled and budget limit on T-in (R36). -/
def newProfile (r : Request) (p : Port) (old : Profile) : Profile :=
  if p = tIn then { old with enabled := r.arg 1 == 1, limit := r.arg 10 }
  else
    { enabled := r.arg 1 == 1, mode := if r.arg 2 = 1 then .aligned else .pass, mgmt := r.arg 3 == 1,
      quota := r.arg16 4, high := r.arg16 6, low := r.arg16 8, limit := r.arg 10,
      tag := if r.arg 11 = 1 then some (octet r.args 12) else none }

/-- LANE_SET acts as a restart: enabled or mode changes (R37). -/
def actsAsRestart (old new : Profile) : Bool := old.enabled != new.enabled || old.mode != new.mode

/-- A port that is not UP goes to HUNT, or to OFF when disabled, with count 0 (R33, R37). -/
def restartSearch (enabled : Bool) (x : Receiver) : Receiver :=
  match x.st with
  | .off => if enabled then Receiver.fresh .hunt else x
  | _ => if enabled then Receiver.fresh .hunt else Receiver.fresh .off

/-- The lane queue of a restarted lane is emptied and its hysteresis state judged under the profile in force (R51). -/
def emptyPortLane (p : Port) (s : State) : State :=
  match p.lane? with
  | some l => emptyLane l s
  | none => s

/-- The restart of a LANE_SET, under the new profile (R37). -/
def laneSetRestart (p : Port) (enabled : Bool) (s : State) : State :=
  emptyPortLane p
    (if portUp s p then leaveUp p (if enabled then .restart else .disabled) s
     else modRx p (restartSearch enabled) s)

/-- A LANE_SET without a restart judges the hysteresis state when quota or watermarks change (R51). -/
def laneSetJudge (p : Port) (old new : Profile) (s : State) : State :=
  match p.lane? with
  | some l =>
    if old.quota != new.quota || old.high != new.high || old.low != new.low then judgeLane l s else s
  | none => s

/-- The cells in a port's lane queue, none for T-in. -/
def portOccupancy (s : State) (p : Port) : Nat :=
  match p.lane? with
  | some l => s.lanes[l].queue.length
  | none => 0

/-- LANE_SET (R36, R37). -/
def doLaneSet (r : Request) (s : State) : State :=
  match fin? (r.arg 0) 7 with
  | none => refuse r .badArgument s
  | some p =>
    let old := s.ports[p].profile
    let new := newProfile r p old
    if !laneSetOk r p then refuse r .badArgument s
    else if p = r.port ∧ new.mgmt = false then refuse r .selfLockout s
    else if p ≠ tIn ∧ actsAsRestart old new = false ∧ new.quota < portOccupancy s p then refuse r .quotaInUse s
    else
      let s := modPort p (fun x => { x with profile := new }) (reply r .ok [] s)
      if actsAsRestart old new then laneSetRestart p new.enabled s else laneSetJudge p old new s

/-- LANE_RESTART (R38). -/
def doLaneRestart (r : Request) (s : State) : State :=
  match fin? (r.arg 0) 7 with
  | none => refuse r .badArgument s
  | some p =>
    match s.ports[p].rx.st with
    | .off => refuse r .badArgument s
    | .up => leaveUp p .restart (reply r .ok [] s)
    | .hunt => modRx p (fun _ => Receiver.fresh .hunt) (reply r .ok [] s)
    | .check => modRx p (fun _ => Receiver.fresh .hunt) (reply r .ok [] s)

end Sys2Proof.Machine
end

