-- ==== Sys2Proof/Machine/NoticeCommands.lean ====
section
/-! DEFINITION. NOTICE_ENABLE and NOTICE_GET (R184 to R186). -/

namespace Sys2Proof.Machine

/-- The kind is among the codes listed. -/
def listed (codes : Octets) (k : NoticeKind) : Bool := codes.contains k.code

/-- The enable set with the listed kinds set to a value (R185). -/
def setKinds (codes : Octets) (value : Bool) (v : Vector Bool 14) : Vector Bool 14 :=
  Vector.ofFn fun i : Fin 14 => if codes.contains (o8 (i.val + 1)) then value else v[i]

/-- The values that NOTICE_ENABLE accepts (R184). -/
def noticeEnableOk (r : Request) : Bool :=
  (r.arg 0 == 1 || r.arg 0 == 2) && 1 ≤ r.arg 1 && r.arg 1 ≤ 14 &&
  (r.args.drop 2).all fun b => 1 ≤ b.toNat && b.toNat ≤ 14

/-- The pending list after the command: REMOVE deletes the records of the listed kinds (R185). -/
def keptRecords (remove : Bool) (codes : Octets) (l : List NoticeRec) : List NoticeRec :=
  if remove then l.filter fun n => !listed codes n.kind else l

/-- NOTICE_ENABLE (R184, R185). -/
def doNoticeEnable (r : Request) (s : State) : State :=
  if noticeEnableOk r then
    let remove := r.arg 0 == 2
    let codes := r.args.drop 2
    let en := setKinds codes (!remove) s.notices.enabled
    let kept := keptRecords remove codes s.notices.waiting
    reply r .ok [o8 (s.notices.waiting.length - kept.length), o8 (en.toList.count true)]
      { s with notices := { enabled := en, waiting := kept } }
  else refuse r .badArgument s

/-- The octets of the oldest pending record in NOTICE_GET's result (R186). -/
def oldestOctets : List NoticeRec → Octets
  | [] => [0, 0, 0, 0, 0]
  | n :: _ => [1, n.kind.code, n.subject] ++ o16 n.occurrences

/-- The 20-octet result of NOTICE_GET (R186). -/
def noticeGetResult (s : State) : Octets :=
  [o8 s.notices.waiting.length] ++ s.notices.enabled.toList.map yn ++ oldestOctets s.notices.waiting

/-- NOTICE_GET (R186). -/
def doNoticeGet (r : Request) (s : State) : State := reply r .ok (noticeGetResult s) s

end Sys2Proof.Machine
end

