-- ==== Sys2Proof/Machine/ScheduleCommands.lean ====
section
/-! DEFINITION. The schedule and group commands (R109 to R119). -/

namespace Sys2Proof.Machine

/-! ### The schedule -/

/-- The slot entries that the argument octets from a position hold, absent when one is outside R106. -/
def entriesOf : Octets → Option (List SlotEntry)
  | k :: l :: rest =>
    match slotEntryOf k.toNat l.toNat, entriesOf rest with
    | some e, some es => some (e :: es)
    | _, _ => none
  | _ => some []

/-- A run of slots: 1 to 16 entries that do not go past slot 63 (R109, R110). -/
def runOk (first count : Nat) : Bool := 1 ≤ count && count ≤ 16 && first ≤ 63 && first + count ≤ 64

/-- A bank with a run of entries written from a slot on. -/
def writeRun (first : Nat) (es : List SlotEntry) (b : Vector SlotEntry 64) : Vector SlotEntry 64 :=
  Vector.ofFn fun i : Fin 64 =>
    if first ≤ i.val then
      match es[i.val - first]? with
      | some e => e
      | none => b[i]
    else b[i]

/-- A bank of the schedule replaced. -/
def Schedule.setBank (c : Schedule) (x : Bank) (v : Vector SlotEntry 64) : Schedule :=
  match x with
  | .a => { c with bankA := v }
  | .b => { c with bankB := v }

/-- SCHED_WRITE (R109). -/
def doSchedWrite (r : Request) (s : State) : State :=
  match entriesOf (r.args.drop 2) with
  | none => refuse r .badArgument s
  | some es =>
    if !runOk (r.arg 0) (r.arg 1) then refuse r .badArgument s
    else if s.sched.swapPending then refuse r .bankLocked s
    else
      let x := s.sched.staged
      reply r .ok []
        { s with sched := s.sched.setBank x (writeRun (r.arg 0) es (s.sched.bank x)) }

/-- The bank of a code (R110). -/
def bankOf : Nat → Option Bank
  | 0 => some .a
  | 1 => some .b
  | _ => none

/-- The result of SCHED_READ (R110). -/
def schedReadResult (s : State) (x : Bank) (first count : Nat) : Octets :=
  [x.code, yn (x == s.sched.active), yn s.sched.swapPending, o8 s.sched.lendPointer.val, o8 first, o8 count] ++
    (((s.sched.bank x).toList.drop first).take count).flatMap SlotEntry.octets

/-- SCHED_READ (R110). -/
def doSchedRead (r : Request) (s : State) : State :=
  match bankOf (r.arg 0) with
  | none => refuse r .badArgument s
  | some x =>
    if runOk (r.arg 1) (r.arg 2) then reply r .ok (schedReadResult s x (r.arg 1) (r.arg 2)) s
    else refuse r .badArgument s

/-- SCHED_SWAP (R111). -/
def doSchedSwap (r : Request) (s : State) : State :=
  if s.sched.swapPending then refuse r .swapPending s
  else if !bankCapable (s.sched.bank s.sched.staged) then refuse r .badSchedule s
  else if s.engine.tagInUse r.port r.tag then refuse r .tagInUse s
  else if Config.inFlightPlaces ≤ s.engine.tableSize then refuse r .busy s
  else
    reply r .started [s.sched.staged.code]
      (openOperation r (.bank s.sched.staged) { s with sched := { s.sched with swapPending := true } })

/-- SCHED_CANCEL (R113). -/
def doSchedCancel (r : Request) (s : State) : State :=
  if s.sched.swapPending then
    complete (.bank s.sched.staged) .aborted []
      (reply r .ok [] { s with sched := { s.sched with swapPending := false } })
  else refuse r .noSwap s

/-! ### The groups -/

/-- GROUP_SET (R117). -/
def doGroupSet (r : Request) (s : State) : State :=
  match fin? (r.arg 0) 16 with
  | none => refuse r .badArgument s
  | some g =>
    if r.arg16 1 < 1 ∨ 1024 < r.arg16 1 ∨ isYesNo (r.arg 3) = false then refuse r .badArgument s
    else if r.arg16 1 < s.groups[g].queue.length then refuse r .quotaInUse s
    else reply r .ok [] (modGroup g (fun q => { q with limit := r.arg16 1, borrow := r.arg 3 == 1 }) s)

/-- GROUP slots naming a group in the active bank (R118). -/
def groupSlots (s : State) (g : Group) : Nat :=
  (s.sched.bank s.sched.active).toList.countP fun e => e.kind == .group g

/-- The 9-octet result of GROUP_GET (R118). -/
def groupGetResult (s : State) (g : Group) : Octets :=
  let q := s.groups[g]
  [o8 g.val] ++ o16 q.limit ++ [yn q.borrow] ++ o16 q.queue.length ++
    [o8 (groupSlots s g), yn (!q.queue.isEmpty), o8 ((q.queue.head?.map fun x => x.entry.val).getD 0)]

/-- GROUP_GET (R118). -/
def doGroupGet (r : Request) (s : State) : State :=
  match fin? (r.arg 0) 16 with
  | none => refuse r .badArgument s
  | some g => reply r .ok (groupGetResult s g) s

/-- One record leaves a flushed queue: its buffer returns, its entry counts it out, and the entry's drain may end
(R119). -/
def flushRecord (x : GroupRec) (s : State) : State :=
  endDrain x.entry (modFlow x.entry (fun e => { e with inQueue := e.inQueue - 1 }) (freeBuffers 1 s))

/-- GROUP_FLUSH: the OK before any DONE, then the records head first (R119). -/
def doGroupFlush (r : Request) (s : State) : State :=
  match fin? (r.arg 0) 16 with
  | none => refuse r .badArgument s
  | some g =>
    let q := s.groups[g].queue
    let s := modGroup g (fun x => { x with queue := [] }) s
    let s := countGroup g (fun k => { k with flushed := plus k.flushed q.length }) s
    q.foldl (fun s x => flushRecord x s) (reply r .ok (o16 q.length) s)

end Sys2Proof.Machine
end

