-- ==== Sys2Proof/Machine/UnitCommands.lean ====
section
/-! DEFINITION. Ownership and unit commands: CLAIM, RELEASE, IDENTIFY, SET_UNIT, UNIT_RESET (chapter 8). Each runs after the
engine's checks of command code, argument length and ownership. -/

namespace Sys2Proof.Machine

/-- The result of IDENTIFY (R159). -/
def identity (unit : Byte) : Octets :=
  [0x0B, 0x3E, 0x5A, 0x02, 0x66, 0x01, unit, 6, 0x04, 0x00, 0x01, 0x00, 16, 64, 4]

/-- IDENTIFY (R159). -/
def doIdentify (r : Request) (s : State) : State := reply r .ok (identity s.engine.unitAddr) s

/-- The lease that a CLAIM's argument selects (R154). -/
def leaseOf (n : Nat) : Nat := if n = 0 then Config.defaultLease else n

/-- The port becomes owner, or renews its own lease, with the lease given (R154). -/
def grant (r : Request) (lease : Nat) (s : State) : State :=
  reply r .ok [o8 r.port.val, o8 lease]
    { s with engine := { s.engine with owner := some { port := r.port, lease := lease, remaining := lease } } }

/-- CLAIM (R154). -/
def doClaim (r : Request) (s : State) : State :=
  if !portUp s r.port || !s.ports[r.port].profile.mgmt then refuse r .badArgument s
  else
    match s.engine.owner with
    | none => grant r (leaseOf (r.arg 0)) s
    | some o =>
      if o.port = r.port then grant r (leaseOf (r.arg 0)) s
      else reply r .owned [o8 o.port.val, o8 o.remaining] s

/-- RELEASE (R155). -/
def doRelease (r : Request) (s : State) : State :=
  reply r .ok [] { s with engine := { s.engine with owner := none } }

/-- SET_UNIT (R160). -/
def doSetUnit (r : Request) (s : State) : State :=
  if r.arg 0 = 255 then refuse r .badArgument s
  else reply r .ok [] { s with engine := { s.engine with unitAddr := octet r.args 0 } }

/-! ### UNIT_RESET: each block's share (R161) -/

/-- The receivers set every budget level to 0 (R40). -/
def resetLevels (s : State) : State :=
  { s with ports := s.ports.map fun x => { x with rx := { x.rx with level := 0 } } }

/-- An UP aligned lane that is IN or LAGGING becomes JOINING; JOINING and WAITING are kept (R82). -/
def Membership.afterReset : Membership → Membership
  | .isIn _ _ => .joining
  | .lagging => .joining
  | m => m

/-- Every lane queue and group queue is emptied and the buffers return (R49, R116). -/
def emptyQueues (s : State) : State :=
  let n := (s.lanes.toList.map fun x => x.queue.length).sum + (s.groups.toList.map fun q => q.queue.length).sum
  let s := freeBuffers n s
  let s := { s with groups := s.groups.map fun q => { q with queue := [] },
                    lanes := s.lanes.map fun x => { x with queue := [] } }
  allLanes.foldl (fun s l => judgeLane l s) s

/-- The aligner clears its window, and the set is EMPTY (R82). -/
def resetAligner (s : State) : State :=
  { s with
    aligner := { s.aligner with running := false, lastReleased := none, window := [] },
    lanes := s.lanes.map fun x => { x with member := x.member.afterReset, lateCount := 0 } }

/-- What UNIT_RESET leaves of a place of the Flow Table (R105). -/
def resetEntry (e : Option FlowEntry) : Option FlowEntry :=
  match e with
  | none => none
  | some x => if x.draining then none else some { x with expected := none, egressSeq := 0, admitted := 0, inQueue := 0 }

/-- The Flow Table's share (R105). -/
def resetFlows (s : State) : State := { s with flows := s.flows.map resetEntry }

/-- The schedule drops a pending swap, the lend pointer is 0, and the follower drops an arm (R114, R129, R142). -/
def resetTimed (s : State) : State :=
  { s with
    sched := { s.sched with swapPending := false, lendPointer := 0 },
    follower := { s.follower with armed := false } }

/-- Every counter is 0, the snapshot is dropped and the pending list is empty (R177, R188). -/
def resetReports (s : State) : State :=
  { s with counters := Counters.zero, snapshot := none, notices := { s.notices with waiting := [] } }

/-- The engine empties its queues and the in-flight table (R161 steps 1 to 4). -/
def resetEngine (s : State) : State :=
  { s with engine := { s.engine with requests := [], replies := [], inFlight := [], held := [] } }

/-- UNIT_RESET: the OK is appended to the emptied reply queue (R161). -/
def doUnitReset (r : Request) (s : State) : State :=
  reply r .ok [] (resetEngine (resetReports (resetTimed (resetFlows (resetAligner (emptyQueues (resetLevels s)))))))

end Sys2Proof.Machine
end

