-- ==== Sys2Proof/Machine/Manage.lean ====
section
/-! DEFINITION. The management engine's take of a request (R144 to R147), and the thirty-two management commands as the
requests of ports. -/

namespace Sys2Proof.Machine

/-- The commands that a command code can name. -/
inductive Command where
  | identify | claim | release | setUnit | unitReset | laneGet | laneSet | laneRestart | alignGet | alignSet
  | alignRejoin | flowAdd | flowModify | flowRemove | flowGet | flowList | schedWrite | schedRead | schedSwap
  | schedCancel | groupSet | groupGet | groupFlush | cycleSet | cycleArm | cycleGet | snapTake | snapRead | snapDrop
  | countClear | noticeEnable | noticeGet
  deriving DecidableEq, Repr

/-- The code of a command, as its rule gives it. -/
def Command.code : Command → Byte
  | .identify => 0x01
  | .claim => 0x02
  | .release => 0x03
  | .setUnit => 0x04
  | .unitReset => 0x05
  | .laneGet => 0x10
  | .laneSet => 0x11
  | .laneRestart => 0x12
  | .alignGet => 0x18
  | .alignSet => 0x19
  | .alignRejoin => 0x1A
  | .flowAdd => 0x20
  | .flowModify => 0x21
  | .flowRemove => 0x22
  | .flowGet => 0x23
  | .flowList => 0x24
  | .schedWrite => 0x30
  | .schedRead => 0x31
  | .schedSwap => 0x32
  | .schedCancel => 0x33
  | .groupSet => 0x34
  | .groupGet => 0x35
  | .groupFlush => 0x36
  | .cycleSet => 0x40
  | .cycleArm => 0x41
  | .cycleGet => 0x42
  | .snapTake => 0x50
  | .snapRead => 0x51
  | .snapDrop => 0x52
  | .countClear => 0x53
  | .noticeEnable => 0x60
  | .noticeGet => 0x61

/-- Every command. -/
def allCommands : List Command :=
  [.identify, .claim, .release, .setUnit, .unitReset, .laneGet, .laneSet, .laneRestart, .alignGet, .alignSet,
   .alignRejoin, .flowAdd, .flowModify, .flowRemove, .flowGet, .flowList, .schedWrite, .schedRead, .schedSwap,
   .schedCancel, .groupSet, .groupGet, .groupFlush, .cycleSet, .cycleArm, .cycleGet, .snapTake, .snapRead, .snapDrop,
   .countClear, .noticeEnable, .noticeGet]

/-- The command of a code, absent for an unknown one (R145 step 1). -/
def commandOf (b : Byte) : Option Command := allCommands.find? (fun c => c.code == b)

/-- The argument length fits the command (R146). -/
def lengthFits (c : Command) (args : Octets) : Bool :=
  match c with
  | .identify | .release | .unitReset | .schedSwap | .schedCancel | .cycleArm | .cycleGet | .snapDrop | .noticeGet =>
    args.length == 0
  | .claim | .setUnit | .laneGet | .laneRestart | .alignGet | .alignRejoin | .flowList | .groupGet | .groupFlush =>
    args.length == 1
  | .cycleSet | .snapTake => args.length == 2
  | .alignSet | .flowRemove | .schedRead | .countClear => args.length == 3
  | .groupSet | .snapRead => args.length == 4
  | .flowAdd | .flowModify => args.length == 11
  | .laneSet => args.length == 13
  | .flowGet => (args.length == 4 && octet args 0 == 0) || (args.length == 2 && octet args 0 == 1)
  | .schedWrite => 2 ≤ args.length && args.length == 2 + 2 * (octet args 1).toNat
  | .noticeEnable => 2 ≤ args.length && args.length == 2 + (octet args 1).toNat

/-- The command is an owner command; SNAP_TAKE is judged by its clear argument (R147, R170). -/
def ownerCommand (c : Command) (args : Octets) : Bool :=
  match c with
  | .identify | .claim | .laneGet | .alignGet | .flowGet | .flowList | .schedRead | .groupGet | .cycleGet | .snapRead
  | .snapDrop | .noticeGet => false
  | .snapTake => octet args 0 != 0
  | .release | .setUnit | .unitReset | .laneSet | .laneRestart | .alignSet | .alignRejoin | .flowAdd | .flowModify
  | .flowRemove | .schedWrite | .schedSwap | .schedCancel | .groupSet | .groupFlush | .cycleSet | .cycleArm
  | .countClear | .noticeEnable => true

/-- The block that owns the state concerned carries out the command and its reply is appended (R144 step 5). -/
def carryOut (c : Command) (r : Request) (s : State) : State :=
  match c with
  | .identify => doIdentify r s
  | .claim => doClaim r s
  | .release => doRelease r s
  | .setUnit => doSetUnit r s
  | .unitReset => doUnitReset r s
  | .laneGet => doLaneGet r s
  | .laneSet => doLaneSet r s
  | .laneRestart => doLaneRestart r s
  | .alignGet => doAlignGet r s
  | .alignSet => doAlignSet r s
  | .alignRejoin => doAlignRejoin r s
  | .flowAdd => doFlowAdd r s
  | .flowModify => doFlowModify r s
  | .flowRemove => doFlowRemove r s
  | .flowGet => doFlowGet r s
  | .flowList => doFlowList r s
  | .schedWrite => doSchedWrite r s
  | .schedRead => doSchedRead r s
  | .schedSwap => doSchedSwap r s
  | .schedCancel => doSchedCancel r s
  | .groupSet => doGroupSet r s
  | .groupGet => doGroupGet r s
  | .groupFlush => doGroupFlush r s
  | .cycleSet => doCycleSet r s
  | .cycleArm => doCycleArm r s
  | .cycleGet => doCycleGet r s
  | .snapTake => doSnapTake r s
  | .snapRead => doSnapRead r s
  | .snapDrop => doSnapDrop r s
  | .countClear => doCountClear r s
  | .noticeEnable => doNoticeEnable r s
  | .noticeGet => doNoticeGet r s

/-- The lease is renewed when the request comes from the owner's port (R144 step 2). -/
def renewLease (p : Port) (s : State) : State :=
  match s.engine.owner with
  | some o =>
    if o.port = p then { s with engine := { s.engine with owner := some { o with remaining := o.lease } } } else s
  | none => s

/-- The checks of a taken request in their order, then its carrying out (R145). -/
def checkRequest (r : Request) (s : State) : State :=
  match commandOf r.code with
  | none => refuse r .badCommand s
  | some c =>
    if !lengthFits c r.args then refuse r .badArgument s
    else if ownerCommand c r.args && s.engine.ownerPort != some r.port then refuse r .notOwner s
    else carryOut c r s

/-- A request is taken: the lease, the checks and the reply (R144 steps 2 to 5). -/
def handle (r : Request) (s : State) : State := checkRequest r (renewLease r.port s)

/-- The engine takes its oldest request when the three conditions of R144 hold, and waits otherwise. -/
def takeRequest (s : State) : State :=
  match s.engine.requests with
  | [] => s
  | r :: rest =>
    if engineReady s then handle r { s with engine := { s.engine with requests := rest } } else s

/-- A request finds a place at the tail of the request queue, or is an overrun (R31 step 3, R32). -/
def enqueueRequest (r : Request) (s : State) : State :=
  if s.engine.requests.length < Config.requestPlaces then
    { s with engine := { s.engine with requests := s.engine.requests ++ [r] } }
  else countPort r.port (fun k => { k with mreqOverrun := bump k.mreqOverrun }) s

/-- A request that has passed its receiver's filters of permission and address reaches the engine. With no request
waiting and the engine ready the take is made in the same instant (R144); otherwise the request waits in the request
queue, or is an overrun (R31, R149). -/
def requestReaches (r : Request) (s : State) : State :=
  if s.engine.requests.isEmpty && engineReady s then handle r s else enqueueRequest r s

/-- A management command of a port, addressed to this unit. A port that is not UP delivers nothing, as while the part is
not running (R162, R189); the request of a port that is not permitted is discarded and counted (R31 step 1). -/
def submit (c : Command) (p : Port) (tag : Byte) (args : Octets) (s : State) : State :=
  if s.phase = .running && portUp s p then
    if s.ports[p].profile.mgmt then requestReaches { port := p, code := c.code, tag := tag, args := args } s
    else countPort p (fun k => { k with mreqNotPermitted := bump k.mreqNotPermitted }) s
  else s

/-! ### The commands -/

/-- REQUEST_TAKE (R144). -/
def execRequestTake (s : State) : Host.Outcome State Fault Refusal := .next (takeRequest s)

/-- IDENTIFY (R159). -/
def execIdentify (p : Port) (tag : Byte) (args : Octets) (s : State) : Host.Outcome State Fault Refusal :=
  .next (submit .identify p tag args s)

/-- CLAIM (R154). -/
def execClaim (p : Port) (tag : Byte) (args : Octets) (s : State) : Host.Outcome State Fault Refusal :=
  .next (submit .claim p tag args s)

/-- RELEASE (R155). -/
def execRelease (p : Port) (tag : Byte) (args : Octets) (s : State) : Host.Outcome State Fault Refusal :=
  .next (submit .release p tag args s)

/-- SET_UNIT (R160). -/
def execSetUnit (p : Port) (tag : Byte) (args : Octets) (s : State) : Host.Outcome State Fault Refusal :=
  .next (submit .setUnit p tag args s)

/-- UNIT_RESET (R161). -/
def execUnitReset (p : Port) (tag : Byte) (args : Octets) (s : State) : Host.Outcome State Fault Refusal :=
  .next (submit .unitReset p tag args s)

/-- LANE_GET (R35). -/
def execLaneGet (p : Port) (tag : Byte) (args : Octets) (s : State) : Host.Outcome State Fault Refusal :=
  .next (submit .laneGet p tag args s)

/-- LANE_SET (R36, R37). -/
def execLaneSet (p : Port) (tag : Byte) (args : Octets) (s : State) : Host.Outcome State Fault Refusal :=
  .next (submit .laneSet p tag args s)

/-- LANE_RESTART (R38). -/
def execLaneRestart (p : Port) (tag : Byte) (args : Octets) (s : State) : Host.Outcome State Fault Refusal :=
  .next (submit .laneRestart p tag args s)

/-- ALIGN_GET (R77). -/
def execAlignGet (p : Port) (tag : Byte) (args : Octets) (s : State) : Host.Outcome State Fault Refusal :=
  .next (submit .alignGet p tag args s)

/-- ALIGN_SET (R78). -/
def execAlignSet (p : Port) (tag : Byte) (args : Octets) (s : State) : Host.Outcome State Fault Refusal :=
  .next (submit .alignSet p tag args s)

/-- ALIGN_REJOIN (R80). -/
def execAlignRejoin (p : Port) (tag : Byte) (args : Octets) (s : State) : Host.Outcome State Fault Refusal :=
  .next (submit .alignRejoin p tag args s)

/-- FLOW_ADD (R97, R98). -/
def execFlowAdd (p : Port) (tag : Byte) (args : Octets) (s : State) : Host.Outcome State Fault Refusal :=
  .next (submit .flowAdd p tag args s)

/-- FLOW_MODIFY (R99). -/
def execFlowModify (p : Port) (tag : Byte) (args : Octets) (s : State) : Host.Outcome State Fault Refusal :=
  .next (submit .flowModify p tag args s)

/-- FLOW_REMOVE (R100). -/
def execFlowRemove (p : Port) (tag : Byte) (args : Octets) (s : State) : Host.Outcome State Fault Refusal :=
  .next (submit .flowRemove p tag args s)

/-- FLOW_GET (R102). -/
def execFlowGet (p : Port) (tag : Byte) (args : Octets) (s : State) : Host.Outcome State Fault Refusal :=
  .next (submit .flowGet p tag args s)

/-- FLOW_LIST (R103). -/
def execFlowList (p : Port) (tag : Byte) (args : Octets) (s : State) : Host.Outcome State Fault Refusal :=
  .next (submit .flowList p tag args s)

/-- SCHED_WRITE (R109). -/
def execSchedWrite (p : Port) (tag : Byte) (args : Octets) (s : State) : Host.Outcome State Fault Refusal :=
  .next (submit .schedWrite p tag args s)

/-- SCHED_READ (R110). -/
def execSchedRead (p : Port) (tag : Byte) (args : Octets) (s : State) : Host.Outcome State Fault Refusal :=
  .next (submit .schedRead p tag args s)

/-- SCHED_SWAP (R111). -/
def execSchedSwap (p : Port) (tag : Byte) (args : Octets) (s : State) : Host.Outcome State Fault Refusal :=
  .next (submit .schedSwap p tag args s)

/-- SCHED_CANCEL (R113). -/
def execSchedCancel (p : Port) (tag : Byte) (args : Octets) (s : State) : Host.Outcome State Fault Refusal :=
  .next (submit .schedCancel p tag args s)

/-- GROUP_SET (R117). -/
def execGroupSet (p : Port) (tag : Byte) (args : Octets) (s : State) : Host.Outcome State Fault Refusal :=
  .next (submit .groupSet p tag args s)

/-- GROUP_GET (R118). -/
def execGroupGet (p : Port) (tag : Byte) (args : Octets) (s : State) : Host.Outcome State Fault Refusal :=
  .next (submit .groupGet p tag args s)

/-- GROUP_FLUSH (R119). -/
def execGroupFlush (p : Port) (tag : Byte) (args : Octets) (s : State) : Host.Outcome State Fault Refusal :=
  .next (submit .groupFlush p tag args s)

/-- CYCLE_SET (R138). -/
def execCycleSet (p : Port) (tag : Byte) (args : Octets) (s : State) : Host.Outcome State Fault Refusal :=
  .next (submit .cycleSet p tag args s)

/-- CYCLE_ARM (R139). -/
def execCycleArm (p : Port) (tag : Byte) (args : Octets) (s : State) : Host.Outcome State Fault Refusal :=
  .next (submit .cycleArm p tag args s)

/-- CYCLE_GET (R140). -/
def execCycleGet (p : Port) (tag : Byte) (args : Octets) (s : State) : Host.Outcome State Fault Refusal :=
  .next (submit .cycleGet p tag args s)

/-- SNAP_TAKE (R170, R171). -/
def execSnapTake (p : Port) (tag : Byte) (args : Octets) (s : State) : Host.Outcome State Fault Refusal :=
  .next (submit .snapTake p tag args s)

/-- SNAP_READ (R172). -/
def execSnapRead (p : Port) (tag : Byte) (args : Octets) (s : State) : Host.Outcome State Fault Refusal :=
  .next (submit .snapRead p tag args s)

/-- SNAP_DROP (R173). -/
def execSnapDrop (p : Port) (tag : Byte) (args : Octets) (s : State) : Host.Outcome State Fault Refusal :=
  .next (submit .snapDrop p tag args s)

/-- COUNT_CLEAR (R168). -/
def execCountClear (p : Port) (tag : Byte) (args : Octets) (s : State) : Host.Outcome State Fault Refusal :=
  .next (submit .countClear p tag args s)

/-- NOTICE_ENABLE (R184, R185). -/
def execNoticeEnable (p : Port) (tag : Byte) (args : Octets) (s : State) : Host.Outcome State Fault Refusal :=
  .next (submit .noticeEnable p tag args s)

/-- NOTICE_GET (R186). -/
def execNoticeGet (p : Port) (tag : Byte) (args : Octets) (s : State) : Host.Outcome State Fault Refusal :=
  .next (submit .noticeGet p tag args s)

end Sys2Proof.Machine
end

