-- ==== Sys2Proof/Machine/Transmit.lean ====
section
/-! DEFINITION. The slot schedule and the trunk transmitter (chapter 6): the swap, the choice for a slot, and the cell that
is built and sent. -/

namespace Sys2Proof.Machine

/-- The entry of the active bank for a slot (R120 step 3). -/
def activeEntry (s : State) (n : Slot) : SlotEntry := (s.sched.bank s.sched.active)[n]

/-- What a slot carries (R121). -/
inductive Choice where
  | head (g : Group) (borrowed : Bool)
  | reply
  | notice
  | fill
  deriving DecidableEq, Repr

/-- Management egress: the oldest reply, otherwise the oldest notice record (R122). DEDUCED (log entry 19): that holds of
the OK of a NOTICE_ENABLE REMOVE too, which waits when a slot start of the same instant is taken after it, where R187
speaks of the next record alone. -/
def mgmtEgress (s : State) : Option Choice :=
  if !s.engine.replies.isEmpty then some .reply
  else if !s.notices.waiting.isEmpty then some .notice
  else none

/-- The groups in the order of a borrower search: p, p + 1, …, 15, 0, …, p − 1 (R123). -/
def searchOrder (p : Group) : List Group := (List.finRange 16).map (fun k => p + k)

/-- A group has borrow permission and holds a record (R123). -/
def mayBorrow (s : State) (g : Group) : Bool := s.groups[g].borrow && !s.groups[g].queue.isEmpty

/-- The borrower (R123). -/
def borrower (s : State) : Option Group := (searchOrder s.sched.lendPointer).find? (mayBorrow s)

/-- A borrower, else FILL (R121). -/
def lentToBorrower (s : State) : Choice :=
  match borrower s with
  | some g => .head g true
  | none => .fill

/-- Management egress, a borrower, else FILL (R121). -/
def lentSlot (s : State) : Choice := (mgmtEgress s).getD (lentToBorrower s)

/-- The choice for a slot with an entry (R121). -/
def chooseFor (s : State) (e : SlotEntry) : Choice :=
  match e.kind with
  | .group g => if !s.groups[g].queue.isEmpty then .head g false else if e.lend then lentSlot s else .fill
  | .mgmt => if e.lend then lentSlot s else (mgmtEgress s).getD .fill
  | .idle => if e.lend then lentSlot s else .fill

/-- What T-out sends now (R1). -/
def putOut (c : Octets) (s : State) : State := { s with trunk := { s.trunk with sending := some c } }

/-- What the transmission of one of its cells leaves of a flow entry (R94 step 2, R95). -/
def FlowEntry.sent (e : FlowEntry) : FlowEntry :=
  { e with inQueue := e.inQueue - 1, egressSeq := if e.renumber then e.egressSeq + 1 else e.egressSeq }

/-- The flow entry's share of a transmission: the header and extension, the counts, and perhaps the end of its drain
(R94 to R96, R101). -/
def rewriteAndSend (r : GroupRec) (s : State) : State :=
  match s.flows[r.entry] with
  | none => putOut fillCell s
  | some e =>
    endDrain r.entry
      (countFlow r.entry
        (fun k =>
          { k with
            transmitted := bump k.transmitted,
            stampSkipped := if stampSkipped e.stamp r.cell then bump k.stampSkipped else k.stampSkipped })
        (modFlow r.entry FlowEntry.sent (putOut (dataOctets e s.timer.cycle s.timer.slot r) s)))

/-- The head of a group queue is taken for the slot (R44, R124). -/
def takeHead (g : Group) (borrowed : Bool) (s : State) : State :=
  match s.groups[g].queue with
  | [] => s
  | r :: rest =>
    let s := modGroup g (fun q => { q with queue := rest }) s
    let s := { s with trunk := { s.trunk with inTransit := some { cell := r.cell, origin := r.origin } } }
    let s :=
      countGroup g (fun k =>
        { k with
          transmitted := bump k.transmitted,
          borrowed := if borrowed then bump k.borrowed else k.borrowed }) s
    let s := if borrowed then { s with sched := { s.sched with lendPointer := g + 1 } } else s
    rewriteAndSend r s

/-- The head reply is sent, and the engine fills the place that it frees from the held order (R125, R152). -/
def sendReply (s : State) : State :=
  match s.engine.replies with
  | [] => s
  | r :: rest =>
    let s := putOut (replyOctets s.engine.unitAddr r) s
    let s := countUnit (fun k => { k with replySent := bump k.replySent }) s
    appendHeld { s with engine := { s.engine with replies := rest } }

/-- The head notice record is sent (R125, R183). -/
def sendNotice (s : State) : State :=
  match s.notices.waiting with
  | [] => s
  | n :: rest =>
    let s := putOut (noticeOctets s.engine.unitAddr n) s
    let s := countUnit (fun k => { k with noticeSent := bump k.noticeSent }) s
    { s with notices := { s.notices with waiting := rest } }

/-- A FILL cell is sent and counted (R126). -/
def sendFill (s : State) : State := putOut fillCell (countUnit (fun k => { k with fillSlots := bump k.fillSlots }) s)

/-- The chosen cell is built and sent (R120 step 5). -/
def send : Choice → State → State
  | .head g borrowed, s => takeHead g borrowed s
  | .reply, s => sendReply s
  | .notice, s => sendNotice s
  | .fill, s => sendFill s

/-- The end of the slot just sent: a DATA cell's buffer returns (R44, R120 step 1). -/
def endSlot (s : State) : State :=
  match s.trunk.inTransit with
  | some _ => freeBuffers 1 { s with trunk := { s.trunk with inTransit := none } }
  | none => s

/-- A pending swap takes effect: the banks exchange roles, the swap state is NONE, DONE is sent (R112). -/
def takeSwap (s : State) : State :=
  if s.sched.swapPending then
    let x := s.sched.staged
    complete (.bank x) .done [x.code] { s with sched := { s.sched with active := x, swapPending := false } }
  else s

/-- The transmitter at a boundary (R120), which makes a pending swap take effect or not (step 2). -/
def transmit (swaps : Bool) (s : State) : State :=
  let s := endSlot s
  let s := if swaps then takeSwap s else s
  send (chooseFor s (activeEntry s s.timer.slot)) s

/-! ### The commands -/

/-- SWAP_TAKE_EFFECT: the schedule's share of a cycle start (R112). -/
def execSwapTakeEffect (s : State) : Host.Outcome State Fault Refusal := .next (takeSwap s)

/-- DRAIN_END: the flow entry's report that its drain has ended (R101). -/
def execDrainEnd (i : FlowIdx) (s : State) : Host.Outcome State Fault Refusal := .next (endDrain i s)

/-- HELD_COMPLETION_APPEND: the engine fills a free place from the held order (R152). -/
def execHeldCompletionAppend (s : State) : Host.Outcome State Fault Refusal := .next (appendHeld s)

end Sys2Proof.Machine
end

