-- ==== Sys2Proof/Machine/Boundary.lean ====
section
/-! DEFINITION. The cycle timer and the reference follower (chapter 7): a CREF pulse, a slot boundary, ticks at the engine and
the Counter Block, the three reset events (R15, R189). -/

namespace Sys2Proof.Machine

/-! ### Ticks (R132, R156, R174) -/

/-- A tick at the management engine (R156). -/
def engineTick (s : State) : State :=
  match s.engine.owner with
  | none => s
  | some o =>
    if o.remaining ≤ 1 then
      raise .ownerLost unitSubject [o8 o.port.val, 0x01] { s with engine := { s.engine with owner := none } }
    else { s with engine := { s.engine with owner := some { o with remaining := o.remaining - 1 } } }

/-- A tick at the Counter Block (R174). -/
def counterTick (s : State) : State :=
  match s.snapshot with
  | none => s
  | some x =>
    if x.remaining ≤ 1 then
      raise .snapExpired unitSubject [o8 x.holder.val]
        (countUnit (fun k => { k with snapExpiries := bump k.snapExpiries }) { s with snapshot := none })
    else { s with snapshot := some { x with remaining := x.remaining - 1 } }

/-- A tick ends the lease or the snapshot, so that it raises a notice. -/
def tickExpires (s : State) : Bool :=
  (match s.engine.owner with
   | some o => o.remaining ≤ 1
   | none => false) ||
  (match s.snapshot with
   | some x => x.remaining ≤ 1
   | none => false)

/-! ### One boundary (R130 to R133) -/

/-- What a boundary is besides the start of a slot (R131 to R133). `swap`: the schedule meets the cycle start in it, and
has not met it with a pulse already (R112, R141). -/
structure Marks where
  cycleStart : Bool
  swap : Bool
  tick : Bool
  release : Bool
  deriving DecidableEq, Repr

/-- The boundary is a release point: its slot number is compared with R as R holds at the boundary (R133). -/
def atReleasePoint (s : State) : Bool := s.timer.slot == s.aligner.releaseSlot

/-- The outcome of the boundary can depend on the order in which the blocks take it: it releases a record, its tick
raises a notice, or a request waits for the place that a reply sent in its slot frees. -/
def contested (m : Marks) (s : State) : Bool :=
  (m.release && releaseCount (lowerDue s.aligner.window) != 0) || (m.tick && tickExpires s) ||
  !s.engine.requests.isEmpty

/-- One block's share of a boundary. -/
def runTask (m : Marks) (t : Config.Task) (s : State) : State :=
  match t with
  | .renew => if m.cycleStart then renewBudgets s else s
  | .tick => if m.tick then counterTick (engineTick s) else s
  | .release => if m.release then releasePoint s else s
  | .transmit => transmit m.swap s
  | .take => takeRequest s

/-- The tasks of a boundary in an order. -/
def runTasks (m : Marks) (ts : List Config.Task) (s : State) : State := ts.foldl (fun s t => runTask m t s) s

/-- The boundary is handed to the blocks. Where its outcome depends on their order the order is a free value (log entry
1). That order also decides between the boundary's tick and a take whose reply place the boundary's own reply frees,
which R158 leaves open. -/
def serve (m : Marks) (s : State) : State :=
  if contested m s then
    runTasks m (Config.boundaryOrder s.orderDraws).tasks { s with orderDraws := s.orderDraws + 1 }
  else runTasks m Config.plainOrder.tasks s

/-- The timer at a boundary: the next slot, or slot 0 where the cycle is cut; a cycle start raises the cycle number and
the tick count (R130, R131, R136). -/
def Timer.next (cut : Bool) (t : Timer) : Timer :=
  let n : Slot := if cut then 0 else t.slot + 1
  if n = 0 then { t with slot := 0, cycle := t.cycle + 1, tick := t.tick + 1 } else { t with slot := n }

/-- The timer as it hands the boundary on: a pulse has moved it already where one was taken (R135). -/
def Timer.handOn (t : Timer) : Timer := if t.begun.isSome then { t with begun := none } else t.next false

/-- The phase error of a pulse at the boundary that would begin slot `n` (R135 step 1). -/
def phaseError (n : Slot) : Int := if n.val < 32 then n.val else (n.val : Int) - 64

/-- The phase error is outside the window W. -/
def outsideWindow (s : State) (p : Int) : Bool := s.follower.window < p.natAbs

/-- A pulse with phase error `p` cuts the cycle (R135, R137). -/
def pulseCuts (s : State) (p : Int) : Bool :=
  match s.follower.mode with
  | .always => outsideWindow s p
  | .once => s.follower.armed && p != 0
  | _ => false

/-- The realigns counter rises and REF_REALIGNED is raised (R135, R136). -/
def noteRealign (p : Int) (s : State) : State :=
  raise .refRealigned unitSubject [phaseOctet p] (countUnit (fun k => { k with realigns := bump k.realigns }) s)

/-- An armed pulse completes the arm (R137). -/
def completeArm (p : Int) (s : State) : State :=
  let s := if p = 0 then s else noteRealign p s
  complete .follower .done [phaseOctet p, yn (p != 0)]
    { s with follower := { s.follower with armed := false, mode := .watch } }

/-- The reference follower takes a pulse with phase error `p` (R135). The timer has moved to the slot that the boundary
begins, so a notice carries its cycle number (R178). -/
def followPulse (p : Int) (s : State) : State :=
  let s := countUnit (fun k => { k with crefPulses := bump k.crefPulses }) s
  let s := { s with follower := { s.follower with lastPhase := some p } }
  match s.follower.mode with
  | .free => s
  | .watch => if outsideWindow s p then raise .refDrift unitSubject [phaseOctet p] s else s
  | .always => if outsideWindow s p then noteRealign p s else s
  | .once => if s.follower.armed then completeArm p s else s

/-- The timer has moved to the slot of a boundary at which a pulse is taken, and has compared the slot number with R
(R133). -/
def markBegun (s : State) : State := { s with timer := { s.timer with begun := some (atReleasePoint s) } }

/-- A CREF pulse is taken at the present boundary: the timer moves to the slot that the boundary begins and the follower
acts, before the boundary is handed on (R135 to R137). What R141 and R127 order by the pulse is settled with it: a
boundary that begins slot 0 makes the swap take effect that is pending now, and no later one, and whether the boundary is
a release point is decided by R as R holds now. -/
def takePulse (s : State) : State :=
  let p := phaseError (s.timer.slot + 1)
  let s := followPulse p (markBegun { s with timer := s.timer.next (pulseCuts s p) })
  if s.timer.slot = 0 then takeSwap s else s

/-- What the boundary is whose slot the timer has reached, where `begun` is what a pulse taken at it has settled. -/
def marksOf (begun : Option Bool) (s : State) : Marks :=
  { cycleStart := s.timer.slot == 0
    swap := s.timer.slot == 0 && begun.isNone
    tick := s.timer.slot == 0 && s.timer.tick == 0
    release := begun.getD (atReleasePoint s) }

/-- A slot boundary of a running part (R120, R130): the timer hands it to the blocks. -/
def boundary (s : State) : State :=
  let moved := { s with timer := s.timer.handOn }
  serve (marksOf s.timer.begun moved) moved

/-! ### Reset and initialisation (R15, R16, R189) -/

/-- RESET_N is low: every block at its power-on state. The model's own fields stay. -/
def resetPart (s : State) : State := { State.reset with pending := s.pending, orderDraws := s.orderDraws }

/-- An enabled port enters HUNT when initialisation ends (R189). -/
def PortState.afterInit (x : PortState) : PortState :=
  if x.profile.enabled then { x with rx := Receiver.fresh .hunt } else x

/-- Initialisation ends: enabled ports enter HUNT and the first boundary begins slot 0 of cycle 0. It is a cycle start
that raises neither the cycle number nor the tick count, and no tick (R131, R189). -/
def endInit (s : State) : State :=
  serve { cycleStart := true, swap := true, tick := false, release := s.aligner.releaseSlot == 0 }
    { s with phase := .running, ports := s.ports.map PortState.afterInit, timer := { slot := 0, cycle := 0, tick := 0 } }

/-- A slot boundary: a running part serves it; initialisation sends FILL, counts its slot times and ends after the last;
in reset there is none (R15, R120, R130). -/
def anyBoundary (s : State) : State :=
  match s.phase with
  | .heldInReset => s
  | .initialising n =>
    if n + 1 < Config.initSlots then putOut fillCell { s with phase := .initialising (n + 1) } else endInit s
  | .running => boundary s

/-! ### The commands -/

/-- RESET_ASSERT (R15, R191). -/
def execResetAssert (s : State) : Host.Outcome State Fault Refusal := .next (resetPart s)

/-- RESET_RELEASE: initialisation begins, the straps are sampled and T-out sends FILL (R15, R16). RESET_N that is
already high has no such edge. -/
def execResetRelease (straps : BitVec 3) (s : State) : Host.Outcome State Fault Refusal :=
  match s.phase with
  | .heldInReset =>
    .next (putOut fillCell
      { s with phase := .initialising 0, engine := { s.engine with unitAddr := straps.zeroExtend 8 } })
  | _ => .next s

/-- INIT_END: the boundary that ends initialisation (R189). DESIGN CHOICE (log entry 4): it stands for the passing of
the slot times that are left. -/
def execInitEnd (s : State) : Host.Outcome State Fault Refusal :=
  match s.phase with
  | .initialising _ => .next (endInit s)
  | _ => .next s

/-- SLOT_BOUNDARY (R120, R130). -/
def execSlotBoundary (s : State) : Host.Outcome State Fault Refusal := .next (anyBoundary s)

/-- The part takes CREF pulses, and has taken none at the present boundary (R17). -/
def takesPulse (s : State) : Bool := s.phase == .running && s.timer.begun.isNone

/-- CREF_PULSE: the pulse's share of the boundary that the next SLOT_BOUNDARY hands on (R17, R135). DESIGN CHOICE (log
entry 11): the two shares are two commands, so that another event of the same instant can fall between them (R141). -/
def execCrefPulse (s : State) : Host.Outcome State Fault Refusal := .next (if takesPulse s then takePulse s else s)

/-- An arm waits for its pulse (R134, R137). -/
def armWaits (s : State) : Bool := takesPulse s && s.follower.mode == .once && s.follower.armed

/-- ARM_COMPLETE: the pulse that completes an arm; with no arm waiting there is none (R137). -/
def execArmComplete (s : State) : Host.Outcome State Fault Refusal := .next (if armWaits s then takePulse s else s)

/-- LEASE_EXPIRY: a tick at the management engine (R132, R156). -/
def execLeaseExpiry (s : State) : Host.Outcome State Fault Refusal := .next (engineTick s)

/-- SNAP_EXPIRY: a tick at the Counter Block (R132, R174). -/
def execSnapExpiry (s : State) : Host.Outcome State Fault Refusal := .next (counterTick s)

end Sys2Proof.Machine
end

