-- ==== Sys2Proof/Machine/Receive.lean ====
section
/-! DEFINITION. The lane receivers (chapter 2): delineation, the tests of a cell in UP, the error budget, dispatch by kind.
A port's link delivers octets; what an octet does depends on the receiver's state. -/

namespace Sys2Proof.Machine

/-! ### The error budget (R26, R27) -/

/-- A charge, and the port's leaving UP when the level reaches the limit (R27). -/
def charge (p : Port) (n : Nat) (s : State) : State :=
  let s := modRx p (fun x => { x with level := min (x.level + n) 255 }) s
  if s.ports[p].profile.limit ≤ s.ports[p].rx.level then leaveUp p .budgetLimit s else s

/-- The credit of a valid cell (R26 step 4). -/
def credit (p : Port) (s : State) : State := modRx p (fun x => { x with level := x.level - 1 }) s

/-! ### Dispatch of valid cells (R28 to R31) -/

/-- A valid MARK (R29). -/
def markArrives (p : Port) (c : Octets) (s : State) : State :=
  let s := countPort p (fun k => { k with markArrivals := bump k.markArrivals }) s
  match p.lane? with
  | some l => if laneAligned s l then alignMark l (markEpoch c) (markClosed c) s else s
  | none => s

/-- The count of a DATA cell that arrives under PAUSE (R53). -/
def countUnderPause (l : Lane) (s : State) : State :=
  if pauseCondition s l then countPort l.port (fun k => { k with dataUnderPause := bump k.dataUnderPause }) s else s

/-- A valid DATA cell (R30). -/
def dataArrives (p : Port) (c : Octets) (s : State) : State :=
  let s := countPort p (fun k => { k with dataArrivals := bump k.dataArrivals }) s
  match p.lane? with
  | some l =>
    let s := countUnderPause l s
    if laneAligned s l then alignData l (dataCell l c) s else classify .pass (dataCell l c) s
  | none => s

/-- The request record of a format-valid MREQ (R9). -/
def requestOf (p : Port) (c : Octets) : Request :=
  { port := p, code := mreqCode c, tag := mreqTag c, args := mreqArgs c }

/-- A valid MREQ passes the filters of permission, address and room (R31), and is taken in the same instant where the
engine can take it (R144). -/
def mreqArrives (p : Port) (c : Octets) (s : State) : State :=
  let s := countPort p (fun k => { k with mreqArrivals := bump k.mreqArrivals }) s
  if !s.ports[p].profile.mgmt then countPort p (fun k => { k with mreqNotPermitted := bump k.mreqNotPermitted }) s
  else if cellUnit c ≠ 255 ∧ cellUnit c ≠ s.engine.unitAddr then
    countPort p (fun k => { k with mreqForeign := bump k.mreqForeign }) s
  else requestReaches (requestOf p c) s

/-- Dispatch by kind (2.4). -/
def dispatchCell (p : Port) (c : Octets) (s : State) : State :=
  if cellKind c = kindFill then countPort p (fun k => { k with fillArrivals := bump k.fillArrivals }) s
  else if cellKind c = kindMark then markArrives p c s
  else if cellKind c = kindData then dataArrives p c s
  else mreqArrives p c s

/-- The source-tag test fails: a MARK whose tag differs from the expected tag that the profile holds (R26 step 3). -/
def tagFails (s : State) (p : Port) (c : Octets) : Bool :=
  p.lane?.isSome && cellKind c == kindMark &&
  (match s.ports[p].profile.tag with
   | some t => markTag c != t
   | none => false)

/-- A receiver in UP judges a cell (R26). -/
def judgeCell (p : Port) (c : Octets) (s : State) : State :=
  if !headerValid c then charge p 16 (countPort p (fun k => { k with headerErrors := bump k.headerErrors }) s)
  else if !formatValid p c then charge p 4 (countPort p (fun k => { k with formatErrors := bump k.formatErrors }) s)
  else if tagFails s p c then charge p 4 (countPort p (fun k => { k with tagErrors := bump k.tagErrors }) s)
  else dispatchCell p c (countPort p (fun k => { k with valid := bump k.valid }) (credit p s))

/-! ### Octets of a port's stream (R21 to R23) -/

/-- One octet at a receiver that searches: eight octets in a row that are header-valid are the candidate boundary, and
the candidate cell's other 56 octets are still to pass (R22). -/
def huntOctet (x : Receiver) (b : Byte) : Receiver :=
  let w := x.octets ++ [b]
  if w.length < 8 then { x with octets := w }
  else if headerValid w then { x with st := .check, count := 1, octets := [], skip := 56 }
  else { x with octets := w.drop 1 }

/-- One octet that cannot end a group: searched in HUNT, passed or kept in CHECK (R22, R23). -/
def searchOctet (x : Receiver) (b : Byte) : Receiver :=
  match x.st with
  | .hunt => huntOctet x b
  | _ => if x.skip = 0 then { x with octets := x.octets ++ [b] } else { x with skip := x.skip - 1 }

/-- A group of 64 octets is complete at a receiver in CHECK: a valid header counts toward UP, and a header that fails
returns the receiver to HUNT, whose search resumes at the group's second octet (R23). -/
def checkGroup (p : Port) (g : Octets) (s : State) : State :=
  if headerValid g then
    if s.ports[p].rx.count + 1 < Config.headersToUp then
      modRx p (fun x => { x with count := x.count + 1, octets := [] }) s
    else enterUp p s
  else modRx p (fun _ => (g.drop 1).foldl searchOctet (Receiver.fresh .hunt)) s

/-- One octet of a port's stream (R21): ignored in OFF, searched in HUNT, gathered into groups of 64 in CHECK and UP.
-/
def rxOctet (p : Port) (b : Byte) (s : State) : State :=
  let x := s.ports[p].rx
  match x.st with
  | .off => s
  | .hunt => modRx p (fun x => huntOctet x b) s
  | .check =>
    if x.skip ≠ 0 then modRx p (fun x => { x with skip := x.skip - 1 }) s
    else if x.octets.length + 1 < 64 then modRx p (fun x => { x with octets := x.octets ++ [b] }) s
    else checkGroup p (x.octets ++ [b]) s
  | .up =>
    if x.octets.length + 1 < 64 then modRx p (fun x => { x with octets := x.octets ++ [b] }) s
    else judgeCell p (x.octets ++ [b]) (modRx p (fun x => { x with octets := [] }) s)

/-- Octets of a port's stream, in the order they come. -/
def rxOctets (p : Port) (o : Octets) (s : State) : State := o.foldl (fun s b => rxOctet p b s) s

/-- A loss-of-signal report (R25). DEDUCED (log entry 7): in UP the level becomes the limit, or stays where it already
stands above a limit that was lowered. -/
def signalLost (p : Port) (s : State) : State :=
  match s.ports[p].rx.st with
  | .off => s
  | .hunt => s
  | .check => modRx p (fun _ => Receiver.fresh .hunt) s
  | .up =>
    leaveUp p .budgetLimit
      (modRx p (fun x => { x with level := max x.level s.ports[p].profile.limit }) s)

/-! ### The commands -/

/-- HEADER_SEARCH (R22). -/
def execHeaderSearch (p : Port) (o : Octets) (s : State) : Host.Outcome State Fault Refusal := .next (rxOctets p o s)

/-- CHECK_CELL (R23, R24). -/
def execCheckCell (p : Port) (o : Octets) (s : State) : Host.Outcome State Fault Refusal := .next (rxOctets p o s)

/-- LOSS_OF_SIGNAL (R25). -/
def execLossOfSignal (p : Port) (s : State) : Host.Outcome State Fault Refusal := .next (signalLost p s)

/-- CELL_ARRIVAL (R26 to R31). -/
def execCellArrival (p : Port) (o : Octets) (s : State) : Host.Outcome State Fault Refusal := .next (rxOctets p o s)

end Sys2Proof.Machine
end

