-- ==== Sys2Proof/Machine/Dispatch.lean ====
section
/-! DEFINITION. exec: one arm per command of the opcode table. -/

namespace Sys2Proof.Machine

def exec (i : Instr) (s : State) : Host.Outcome State Fault Refusal :=
  match i with
  | .resetAssert => Sys2Proof.Machine.execResetAssert s
  | .resetRelease x => Sys2Proof.Machine.execResetRelease x s
  | .initEnd => Sys2Proof.Machine.execInitEnd s
  | .headerSearch p o => Sys2Proof.Machine.execHeaderSearch p o s
  | .checkCell p o => Sys2Proof.Machine.execCheckCell p o s
  | .lossOfSignal p => Sys2Proof.Machine.execLossOfSignal p s
  | .cellArrival p o => Sys2Proof.Machine.execCellArrival p o s
  | .slotBoundary => Sys2Proof.Machine.execSlotBoundary s
  | .leaseExpiry => Sys2Proof.Machine.execLeaseExpiry s
  | .snapExpiry => Sys2Proof.Machine.execSnapExpiry s
  | .swapTakeEffect => Sys2Proof.Machine.execSwapTakeEffect s
  | .drainEnd k => Sys2Proof.Machine.execDrainEnd k s
  | .crefPulse => Sys2Proof.Machine.execCrefPulse s
  | .armComplete => Sys2Proof.Machine.execArmComplete s
  | .requestTake => Sys2Proof.Machine.execRequestTake s
  | .heldCompletionAppend => Sys2Proof.Machine.execHeldCompletionAppend s
  | .identify p t a => Sys2Proof.Machine.execIdentify p t a s
  | .claim p t a => Sys2Proof.Machine.execClaim p t a s
  | .release p t a => Sys2Proof.Machine.execRelease p t a s
  | .setUnit p t a => Sys2Proof.Machine.execSetUnit p t a s
  | .unitReset p t a => Sys2Proof.Machine.execUnitReset p t a s
  | .laneGet p t a => Sys2Proof.Machine.execLaneGet p t a s
  | .laneSet p t a => Sys2Proof.Machine.execLaneSet p t a s
  | .laneRestart p t a => Sys2Proof.Machine.execLaneRestart p t a s
  | .alignGet p t a => Sys2Proof.Machine.execAlignGet p t a s
  | .alignSet p t a => Sys2Proof.Machine.execAlignSet p t a s
  | .alignRejoin p t a => Sys2Proof.Machine.execAlignRejoin p t a s
  | .flowAdd p t a => Sys2Proof.Machine.execFlowAdd p t a s
  | .flowModify p t a => Sys2Proof.Machine.execFlowModify p t a s
  | .flowRemove p t a => Sys2Proof.Machine.execFlowRemove p t a s
  | .flowGet p t a => Sys2Proof.Machine.execFlowGet p t a s
  | .flowList p t a => Sys2Proof.Machine.execFlowList p t a s
  | .schedWrite p t a => Sys2Proof.Machine.execSchedWrite p t a s
  | .schedRead p t a => Sys2Proof.Machine.execSchedRead p t a s
  | .schedSwap p t a => Sys2Proof.Machine.execSchedSwap p t a s
  | .schedCancel p t a => Sys2Proof.Machine.execSchedCancel p t a s
  | .groupSet p t a => Sys2Proof.Machine.execGroupSet p t a s
  | .groupGet p t a => Sys2Proof.Machine.execGroupGet p t a s
  | .groupFlush p t a => Sys2Proof.Machine.execGroupFlush p t a s
  | .cycleSet p t a => Sys2Proof.Machine.execCycleSet p t a s
  | .cycleArm p t a => Sys2Proof.Machine.execCycleArm p t a s
  | .cycleGet p t a => Sys2Proof.Machine.execCycleGet p t a s
  | .snapTake p t a => Sys2Proof.Machine.execSnapTake p t a s
  | .snapRead p t a => Sys2Proof.Machine.execSnapRead p t a s
  | .snapDrop p t a => Sys2Proof.Machine.execSnapDrop p t a s
  | .countClear p t a => Sys2Proof.Machine.execCountClear p t a s
  | .noticeEnable p t a => Sys2Proof.Machine.execNoticeEnable p t a s
  | .noticeGet p t a => Sys2Proof.Machine.execNoticeGet p t a s

end Sys2Proof.Machine
end

