-- ==== Sys2Proof/Safety.lean ====
section
/-! DEFINITION. What a sound state of the part is, law by law as the manual numbers its laws of the device, and the words
in which the statements about commands are written. -/

namespace Sys2Proof.Machine

/-! ### Words of the statements -/

/-- The engine takes a request in the instant in which it comes: none waits, the reply queue has a free place and no
completion is held (R144). -/
def engineFree (s : State) : Prop :=
  s.engine.requests = [] ∧ s.engine.replies.length < 16 ∧ s.engine.held = []

/-- A request of a port reaches the engine and is taken at once: the part runs, the port is UP and permitted (R31,
R189), and the engine is free. -/
def takesAtOnce (s : State) (p : Port) : Prop :=
  s.phase = .running ∧ s.ports[p].rx.st = .up ∧ s.ports[p].profile.mgmt = true ∧ engineFree s

/-- One request waits, from a port that may have left UP since, and the engine can take it (R144). -/
def waitsAlone (s : State) (r : Request) : Prop :=
  s.engine.requests = [r] ∧ s.engine.replies.length < 16 ∧ s.engine.held = []

/-- The request queue with these requests in it. -/
def requesting (l : List Request) (s : State) : State := { s with engine := { s.engine with requests := l } }

/-- The port owns the unit. -/
def ownedBy (s : State) (p : Port) : Prop := s.engine.owner.map Ownership.port = some p

/-- The state after the lease renewal that a take from port `p` makes (R144 step 2). -/
def leaseRenewed (p : Port) (s : State) : State :=
  { s with engine :=
      { s.engine with
        owner := s.engine.owner.map fun o => if o.port = p then { o with remaining := o.lease } else o } }

/-- The state with one reply more at the tail of the reply queue. -/
def answered (p : Port) (code tag : Byte) (st : Status) (result : Octets) (s : State) : State :=
  { s with engine :=
      { s.engine with
        replies := s.engine.replies ++ [{ port := p, code := code, tag := tag, status := st, result := result }] } }

/-- The request that a management command brings (R9), with the command code of its own rule. -/
def requestOfCommand : Instr → Option Request
  | .identify p t a => some ⟨p, 0x01, t, a⟩
  | .claim p t a => some ⟨p, 0x02, t, a⟩
  | .release p t a => some ⟨p, 0x03, t, a⟩
  | .setUnit p t a => some ⟨p, 0x04, t, a⟩
  | .unitReset p t a => some ⟨p, 0x05, t, a⟩
  | .laneGet p t a => some ⟨p, 0x10, t, a⟩
  | .laneSet p t a => some ⟨p, 0x11, t, a⟩
  | .laneRestart p t a => some ⟨p, 0x12, t, a⟩
  | .alignGet p t a => some ⟨p, 0x18, t, a⟩
  | .alignSet p t a => some ⟨p, 0x19, t, a⟩
  | .alignRejoin p t a => some ⟨p, 0x1A, t, a⟩
  | .flowAdd p t a => some ⟨p, 0x20, t, a⟩
  | .flowModify p t a => some ⟨p, 0x21, t, a⟩
  | .flowRemove p t a => some ⟨p, 0x22, t, a⟩
  | .flowGet p t a => some ⟨p, 0x23, t, a⟩
  | .flowList p t a => some ⟨p, 0x24, t, a⟩
  | .schedWrite p t a => some ⟨p, 0x30, t, a⟩
  | .schedRead p t a => some ⟨p, 0x31, t, a⟩
  | .schedSwap p t a => some ⟨p, 0x32, t, a⟩
  | .schedCancel p t a => some ⟨p, 0x33, t, a⟩
  | .groupSet p t a => some ⟨p, 0x34, t, a⟩
  | .groupGet p t a => some ⟨p, 0x35, t, a⟩
  | .groupFlush p t a => some ⟨p, 0x36, t, a⟩
  | .cycleSet p t a => some ⟨p, 0x40, t, a⟩
  | .cycleArm p t a => some ⟨p, 0x41, t, a⟩
  | .cycleGet p t a => some ⟨p, 0x42, t, a⟩
  | .snapTake p t a => some ⟨p, 0x50, t, a⟩
  | .snapRead p t a => some ⟨p, 0x51, t, a⟩
  | .snapDrop p t a => some ⟨p, 0x52, t, a⟩
  | .countClear p t a => some ⟨p, 0x53, t, a⟩
  | .noticeEnable p t a => some ⟨p, 0x60, t, a⟩
  | .noticeGet p t a => some ⟨p, 0x61, t, a⟩
  | .resetAssert | .resetRelease _ | .initEnd | .headerSearch _ _ | .checkCell _ _ | .lossOfSignal _
  | .cellArrival _ _ | .slotBoundary | .leaseExpiry | .snapExpiry | .swapTakeEffect | .drainEnd _ | .crefPulse
  | .armComplete | .requestTake | .heldCompletionAppend => none

/-- The codes of R11 from 10h on: a reply that carries one is a refusal. -/
def Status.refusal : Status → Bool
  | .ok | .started | .done | .aborted => false
  | .badCommand | .badArgument | .notOwner | .owned | .busy | .tagInUse | .noEntry | .keyExists | .keyBusy
  | .tableFull | .quotaInUse | .selfLockout | .bankLocked | .swapPending | .badSchedule | .noSwap | .noSnapshot
  | .snapHeld => true

/-- No record of this kind and subject is pending, and the kind is enabled: a raise opens a record (R181). -/
def opensRecord (s : State) (k : NoticeKind) (subject : Byte) : Prop :=
  s.notices.enabled[k.place] = true ∧ ∀ n ∈ s.notices.waiting, ¬(n.kind = k ∧ n.subject = subject)

/-- The record that a raise opens (R181). -/
def openedRecord (k : NoticeKind) (subject : Byte) (detail : Octets) (cycle : CycleNum) : NoticeRec :=
  { kind := k, subject := subject, occurrences := 1, firstCycle := cycle, detail := detail }

/-- A valid cell on a port: the credit of R26 and the port counters it raises. -/
def credited (p : Port) (f : PortCounters → PortCounters) (s : State) : State :=
  { s with
    ports := upd s.ports p fun x => { x with rx := { x.rx with level := x.rx.level - 1 } }
    counters := { s.counters with ports := upd s.counters.ports p f } }

/-- The counters of a lane raised. -/
def laneCounted (l : Lane) (f : LaneCounters → LaneCounters) (s : State) : State :=
  { s with counters := { s.counters with lanes := upd s.counters.lanes l f } }

/-- The counters of a flow index raised. -/
def flowCounted (i : FlowIdx) (f : FlowCounters → FlowCounters) (s : State) : State :=
  { s with counters := { s.counters with flows := upd s.counters.flows i f } }

/-- What the part keeps of a DATA cell on a lane (R30, R41): octet 0 is 20h with X clear and 28h with X set. -/
def keptCell (l : Lane) (c : Octets) : DataCell :=
  { lane := l, flow := BitVec.ofNat 10 ((octet c 1).toNat * 256 + (octet c 2).toNat),
    seq := BitVec.ofNat 12 ((octet c 3).toNat * 256 + (octet c 4).toNat),
    ext := if octet c 0 = 0x28 then some ((c.drop 8).take 8) else none,
    payload := (c.drop (if octet c 0 = 0x28 then 16 else 8)).take (octet c 5).toNat }

/-- A valid DATA cell comes whole to an UP pass lane. -/
def passLaneData (s : State) (l : Lane) (c : Octets) : Prop :=
  s.ports[l.port].rx.st = .up ∧ s.ports[l.port].rx.octets = [] ∧ c.length = 64 ∧ headerValid c = true ∧
  formatValid l.port c = true ∧ (octet c 0 = 0x20 ∨ octet c 0 = 0x28) ∧ s.ports[l.port].profile.mode = .pass

/-- A header-valid and format-valid cell comes whole to an UP aligned lane. -/
def alignedLaneCell (s : State) (l : Lane) (c : Octets) : Prop :=
  s.ports[l.port].rx.st = .up ∧ s.ports[l.port].rx.octets = [] ∧ c.length = 64 ∧ headerValid c = true ∧
  formatValid l.port c = true ∧ s.ports[l.port].profile.mode = .aligned

/-- The port counters of a DATA cell, with PAUSE asserted or not when it arrives (R30, R53). -/
def dataUnder (paused : Bool) (k : PortCounters) : PortCounters :=
  { k with
    valid := bump k.valid, dataArrivals := bump k.dataArrivals,
    dataUnderPause := if paused then bump k.dataUnderPause else k.dataUnderPause }

/-- The arrival count of a lane in the record of an epoch raised (R67). -/
def arrivalCounted (l : Lane) (e : Epoch) (s : State) : State :=
  { s with aligner := { s.aligner with
      window := s.aligner.window.map fun r =>
        if r.epoch = e then { r with arrivals := upd r.arrivals l fun n => min (n + 1) 65536 } else r } }

/-- The epoch that a MARK opens and the count that it declares (R8). -/
def markedEpoch (c : Octets) : Epoch := BitVec.ofNat 16 ((octet c 8).toNat * 256 + (octet c 9).toNat)
def declaredCount (c : Octets) : Nat := (octet c 10).toNat * 256 + (octet c 11).toNat

/-- The counts of a valid MARK handed to the aligner (R29, R81). -/
def markTaken (l : Lane) (s : State) : State :=
  laneCounted l (fun k => { k with marks := bump k.marks })
    (credited l.port (fun k => { k with valid := bump k.valid, markArrivals := bump k.markArrivals }) s)

/-- A record with every status NA has its due count (R58). -/
def dueWhenEmpty (skew : Nat) (r : EpochRec) : EpochRec :=
  if ∀ l : Lane, r.status[l] = .na then { r with due := some (r.due.getD (skew + 1)) } else r

/-- A record in which a lane is NA with no arrivals (R66, R72, R76). -/
def laneOut (l : Lane) (r : EpochRec) : EpochRec :=
  { r with status := upd r.status l fun _ => .na, arrivals := upd r.arrivals l fun _ => 0 }

/-- A record as a join ahead or a close creates it, with every lane that is IN expected in it (R57), and with its due
count when there is no such lane (R58). -/
def createdRecord (s : State) (e : Epoch) : EpochRec :=
  dueWhenEmpty s.aligner.skew
    { epoch := e, due := none,
      status := s.lanes.map fun x => if x.member.inSet then LaneStatus.expected else LaneStatus.na,
      arrivals := Vector.replicate 6 0 }

/-- A MARK with epoch `e` is joinable on lane `l` in a RUNNING set whose oldest record is `r` (R61). -/
def joinableAt (s : State) (l : Lane) (r : EpochRec) (e : Epoch) : Prop :=
  (e - r.epoch).toNat ≤ 3 ∧ (∀ x, s.aligner.lastReleased = some x → epochAfter e x = true) ∧
  ∀ q ∈ s.aligner.window, q.status[l] = .closed → epochAfter e q.epoch = true

/-- The window after lane `l` has joined it `k` epochs after its oldest record `r` (R62): the records created up to the
joining epoch, the lane EXPECTED from there on, and NA before it except where it is CLOSED. -/
def joinedWindow (s : State) (l : Lane) (r : EpochRec) (k : Nat) : List EpochRec :=
  (List.range (max s.aligner.window.length (k + 1))).map fun j =>
    let q := (s.aligner.window[j]?).getD (createdRecord s (r.epoch + BitVec.ofNat 16 j))
    if j < k then
      dueWhenEmpty s.aligner.skew
        (if q.status[l] = .closed then q else { q with status := upd q.status l fun _ => .na })
    else if j = k then
      { q with status := upd q.status l (fun _ => .expected), arrivals := upd q.arrivals l fun _ => 0 }
    else { q with status := upd q.status l fun _ => .expected }

/-- A cell with sequence number `n` passes the sequence check of an entry (R88). -/
def passesSequence (e : FlowEntry) (n : Seq) : Prop :=
  e.seqCheck = false ∨ e.expected = none ∨ ∃ x, e.expected = some x ∧ (n - x).toNat ≤ 2047

/-- The expected seq that a passing cell leaves, and the gap that it shows (R88). -/
def expectedAfter (e : FlowEntry) (n : Seq) : Option Seq := if e.seqCheck then some (n + 1) else e.expected
def gapShown (e : FlowEntry) (n : Seq) : Nat :=
  match e.seqCheck, e.expected with
  | true, some x => (n - x).toNat
  | _, _ => 0

/-- The budget is absent or not reached (R90). -/
def withinBudget (e : FlowEntry) : Prop := ∀ b, e.budget = some b → e.admitted < b

/-- The next boundary begins a slot after slot 0, with no pulse taken at it: it is no cycle start. -/
def midCycle (s : State) : Prop := s.phase = .running ∧ s.timer.slot.val < 63 ∧ s.timer.begun = none

/-- The next boundary is no cycle start, and no release point or one that finds the window empty. -/
def quietBoundary (s : State) : Prop :=
  midCycle s ∧ (s.timer.slot + 1 ≠ s.aligner.releaseSlot ∨ s.aligner.window = [])

/-- The active bank's entry for a slot. -/
def slotEntry (s : State) (n : Slot) : SlotEntry :=
  match s.sched.active with
  | .a => s.sched.bankA[n]
  | .b => s.sched.bankB[n]

/-- The slot's own claim comes to nothing: it is a GROUP slot whose group is empty, or an IDLE slot (R121). -/
def ownClaimEmpty (s : State) (e : SlotEntry) : Prop :=
  match e.kind with
  | .group g => s.groups[g].queue = []
  | .mgmt => False
  | .idle => True

/-- The slot comes to management egress: MGMT, or lent with its own claim empty (R121). -/
def slotReachesManagement (s : State) (e : SlotEntry) : Prop :=
  e.kind = .mgmt ∨ (e.lend = true ∧ ownClaimEmpty s e)

/-- The slot comes to a borrower: lent, its own claim empty or MGMT, with no reply and no notice record waiting (R121,
R122). -/
def slotIsLent (s : State) (e : SlotEntry) : Prop :=
  e.lend = true ∧ slotReachesManagement s e ∧ s.engine.replies = [] ∧ s.notices.waiting = []

/-- A group with borrow permission that holds a record (R123). -/
def maybeBorrower (s : State) (g : Group) : Prop := s.groups[g].borrow = true ∧ s.groups[g].queue ≠ []

/-- The borrower: the first such group from the lend pointer on, in a ring (R123). -/
def isBorrower (s : State) (g : Group) : Prop :=
  maybeBorrower s g ∧
  ∀ h : Group, (h - s.sched.lendPointer).val < (g - s.sched.lendPointer).val → ¬maybeBorrower s h

/-- The slot finds nothing to carry (R121). -/
def slotFindsNothing (s : State) (e : SlotEntry) : Prop :=
  (e.kind = .mgmt ∨ ownClaimEmpty s e) ∧
  (slotReachesManagement s e → s.engine.replies = [] ∧ s.notices.waiting = []) ∧
  (slotIsLent s e → ∀ g : Group, ¬maybeBorrower s g)

/-- The operation that the target of a RUNNING entry waits for, the only one with this target (R150). -/
def onlyOperation (s : State) (x : Target) (o : Operation) : Prop :=
  o ∈ s.engine.inFlight ∧ o.target = x ∧ ∀ y ∈ s.engine.inFlight, y.target = x → y = o

/-- The end of an operation reported: its completion joins the reply queue where a place is free and none is held, and
the held order otherwise (R151). -/
def reported (o : Operation) (st : Status) (result : Octets) (s : State) : State :=
  if s.engine.replies.length < 16 ∧ s.engine.held = [] then
    answered o.port o.code o.tag st result
      { s with engine := { s.engine with inFlight := s.engine.inFlight.erase o } }
  else
    { s with engine :=
        { s.engine with
          inFlight := s.engine.inFlight.erase o
          held := s.engine.held ++ [{ op := o, status := st, result := result }] } }

/-- An operation begun: its entry in the in-flight table, RUNNING (R150). -/
def begun (p : Port) (code tag : Byte) (x : Target) (s : State) : State :=
  { s with engine :=
      { s.engine with inFlight := s.engine.inFlight ++ [{ port := p, tag := tag, code := code, target := x }] } }

/-- The phase error of a pulse at the next slot boundary (R135). -/
def nextPhase (s : State) : Int :=
  if (s.timer.slot + 1).val < 32 then (s.timer.slot + 1).val else ((s.timer.slot + 1).val : Int) - 64

/-- The timer that a pulse has moved at the present boundary, which cuts the cycle or not (R130, R131, R135, R136). It
holds whether the boundary is a release point, by R as R stands (R133). -/
def movedTimer (cut : Prop) [Decidable cut] (s : State) : Timer :=
  if cut ∨ s.timer.slot = 63 then
    { slot := 0, cycle := s.timer.cycle + 1, tick := s.timer.tick + 1,
      begun := some (decide (s.aligner.releaseSlot = 0)) }
  else
    { slot := s.timer.slot + 1, cycle := s.timer.cycle, tick := s.timer.tick,
      begun := some (decide (s.aligner.releaseSlot = s.timer.slot + 1)) }

/-- A pulse counted and its phase error recorded, and the timer moved as the boundary moves it (R135). -/
def pulseCounted (cut : Prop) [Decidable cut] (s : State) : State :=
  { s with
    timer := movedTimer cut s
    counters := { s.counters with
      unit := { s.counters.unit with crefPulses := bump s.counters.unit.crefPulses } }
    follower := { s.follower with lastPhase := some (nextPhase s) } }

/-- A pulse that realigns: the cycle cut, counted, and raised with the number of the cycle that the boundary begins
(R136). -/
def pulseRealigns (s : State) : State :=
  raise .refRealigned 0xFF [BitVec.ofInt 8 (nextPhase s)]
    { pulseCounted True s with
      counters := { (pulseCounted True s).counters with
        unit := { (pulseCounted True s).counters.unit with realigns := bump s.counters.unit.realigns } } }

/-- The part takes a pulse at the present boundary (R17). -/
def pulseTaken (s : State) : Prop := s.phase = .running ∧ s.timer.begun = none

/-- A pulse taken does what its mode asks and leaves this, but for a swap (R135): a record alone, a REF_DRIFT, or a
cycle cut. -/
def pulseLeaves (s t : State) : Prop :=
  ((s.follower.mode = .free ∨ (s.follower.mode = .once ∧ s.follower.armed = false) ∨
      ((s.follower.mode = .watch ∨ s.follower.mode = .always) ∧ (nextPhase s).natAbs ≤ s.follower.window)) ∧
    t = pulseCounted False s) ∨
  (s.follower.mode = .watch ∧ s.follower.window < (nextPhase s).natAbs ∧
    t = raise .refDrift 0xFF [BitVec.ofInt 8 (nextPhase s)] (pulseCounted False s)) ∨
  (s.follower.mode = .always ∧ s.follower.window < (nextPhase s).natAbs ∧ t = pulseRealigns s)

/-- A pulse that completes an arm leaves this, but for a swap (R137). -/
def armLeaves (s : State) (o : Operation) (t : State) : Prop :=
  (nextPhase s = 0 ∧
    t = reported o .done [0x00, 0x00]
      { pulseCounted False s with
        follower := { (pulseCounted False s).follower with mode := .watch, armed := false } }) ∨
  (nextPhase s ≠ 0 ∧
    t = reported o .done [BitVec.ofInt 8 (nextPhase s), 0x01]
      { pulseRealigns s with
        follower := { (pulseCounted True s).follower with mode := .watch, armed := false } })

/-- A swap waits as the timer stands at a cycle start (R112). -/
def swapWaits (s : State) : Prop := s.timer.slot = 0 ∧ s.sched.swapPending = true

/-- An arm waits for its pulse (R134). -/
def armWaiting (s : State) : Prop := pulseTaken s ∧ s.follower.mode = .once ∧ s.follower.armed = true

/-- The next SLOT_BOUNDARY meets the schedule with a cycle start that no pulse has met it with already (R112, R131). -/
abbrev scheduleStarts (s : State) : Prop := s.timer.begun = none ∧ s.timer.slot = 63

/-- The next SLOT_BOUNDARY hands on a cycle start, and a tick (R131, R132), with the timer moved by a pulse already or
not. -/
abbrev cycleStarts (s : State) : Prop := if s.timer.begun = none then s.timer.slot = 63 else s.timer.slot = 0
abbrev tickFalls (s : State) : Prop :=
  if s.timer.begun = none then s.timer.slot = 63 ∧ s.timer.tick = 4095 else s.timer.slot = 0 ∧ s.timer.tick = 0

/-- The next SLOT_BOUNDARY hands on a release point: by R as it stands, or as R stood when a pulse was taken at the
boundary (R78, R133, R141). -/
abbrev releaseFalls (s : State) : Prop :=
  s.timer.begun = some true ∨ (s.timer.begun = none ∧ s.timer.slot + 1 = s.aligner.releaseSlot)

/-- The next SLOT_BOUNDARY releases no record: it is no release point, or one at which none is due (R70). -/
def releasesNone (s : State) : Prop :=
  releaseFalls s → ∀ r ∈ s.aligner.window, ∀ d, r.due = some d → 2 ≤ d

/-- The next SLOT_BOUNDARY ends neither the lease nor the snapshot (R156, R174). -/
def expiresNone (s : State) : Prop :=
  tickFalls s → (∀ o, s.engine.owner = some o → 2 ≤ o.remaining) ∧ ∀ x, s.snapshot = some x → 2 ≤ x.remaining

/-- The timer that the next SLOT_BOUNDARY hands on (R130, R131). -/
def handedTimer (t : Timer) : Timer :=
  if t.begun ≠ none then { t with begun := none }
  else if t.slot = 63 then { slot := 0, cycle := t.cycle + 1, tick := t.tick + 1, begun := none }
  else { t with slot := t.slot + 1 }

/-- Every present due count is lowered by one (R70 step 1). -/
def dueLowered (w : List EpochRec) : List EpochRec := w.map fun r => { r with due := r.due.map fun d => d - 1 }

/-- What a SLOT_BOUNDARY that releases and expires nothing does before the schedule and the transmitter: the timer, the
budgets at a cycle start, the due counts at a release point, lease and lifetime at a tick (R70, R90, R131, R132). -/
def slotBegun (s : State) : State :=
  { s with
    timer := handedTimer s.timer
    flows := if cycleStarts s then s.flows.map (Option.map fun f => { f with admitted := 0 }) else s.flows
    aligner :=
      if releaseFalls s then { s.aligner with window := dueLowered s.aligner.window } else s.aligner
    engine :=
      if tickFalls s then
        { s.engine with owner := s.engine.owner.map fun o => { o with remaining := o.remaining - 1 } }
      else s.engine
    snapshot :=
      if tickFalls s then s.snapshot.map fun x => { x with remaining := x.remaining - 1 } else s.snapshot }

/-- A pending swap exchanges the banks' roles and is reported DONE with the bank now active (R112). -/
def swapMade (o : Operation) (s : State) : State :=
  match s.sched.active with
  | .a => reported o .done [0x01] { s with sched := { s.sched with active := .b, swapPending := false } }
  | .b => reported o .done [0x00] { s with sched := { s.sched with active := .a, swapPending := false } }

/-- The operation of a pending swap: that of the bank which is not active (R111). -/
def swapOperation (s : State) (o : Operation) : Prop :=
  match s.sched.active with
  | .a => onlyOperation s (.bank .b) o
  | .b => onlyOperation s (.bank .a) o

/-- The next SLOT_BOUNDARY of a running part with no request waiting releases and expires nothing, and the transmitter
reads the entry for its slot from the state `u`: after the swap, where one takes effect (R120 step 2). -/
def slotChosenIn (s u : State) : Prop :=
  s.phase = .running ∧ s.engine.requests = [] ∧ releasesNone s ∧ expiresNone s ∧
  (if scheduleStarts s ∧ s.sched.swapPending = true then
     ∃ o, swapOperation s o ∧ u = swapMade o (slotBegun s)
   else u = slotBegun s)

/-- The argument octets of LANE_SET after the port (R36). -/
def profileArguments (x : Profile) : Octets :=
  ([if x.enabled then 1 else 0,
    match x.mode with
    | .pass => 0
    | .aligned => 1,
    if x.mgmt then 1 else 0] : Octets) ++
    o16 x.quota ++ o16 x.high ++ o16 x.low ++ [BitVec.ofNat 8 x.limit] ++
    (match x.tag with
     | none => [0, 0]
     | some b => [1, b])

/-- A slot entry as two octets (R106). -/
def slotOctets (e : SlotEntry) : Octets :=
  [match e.kind with
   | .idle => 0x00
   | .mgmt => 0x01
   | .group g => BitVec.ofNat 8 (16 + g.val),
   if e.lend then 1 else 0]

/-- The counters of each block in the order of R164 to R166. -/
def portCounts (k : PortCounters) : List Count :=
  [k.valid, k.headerErrors, k.formatErrors, k.tagErrors, k.downs, k.fillArrivals, k.markArrivals, k.dataArrivals,
   k.mreqArrivals, k.mreqNotPermitted, k.mreqForeign, k.mreqOverrun, k.poolDrops, k.quotaDrops, k.dataUnderPause,
   k.unknownFlows]
def laneCounts (k : LaneCounters) : List Count :=
  [k.marks, k.joins, k.slips, k.lates, k.ejections, k.mismatches, k.joiningDiscards, k.lateDiscards]
def flowCounts (k : FlowCounters) : List Count :=
  [k.admitted, k.transmitted, k.seqGap, k.stale, k.overBudget, k.overflow, k.drainDiscards, k.stampSkipped]
def groupCounts (k : GroupCounters) : List Count := [k.enqueued, k.transmitted, k.overflows, k.flushed, k.borrowed]
def unitCounts (k : UnitCounters) : List Count :=
  [k.fillSlots, k.replySent, k.noticeSent, k.fullReleases, k.partialReleases, k.emptyReleases, k.forcedReleases,
   k.crefPulses, k.realigns, k.snapExpiries, k.suppressed]

/-- Section, subject and part name a block of the snapshot (R172). -/
def blockNamed (c : Byte) (n : Nat) (part : Byte) : Prop :=
  (c = 0 ∧ n = 0 ∧ part = 0) ∨ (c = 1 ∧ n ≤ 6 ∧ part.toNat ≤ 1) ∨ (c = 2 ∧ n ≤ 5 ∧ part = 0) ∨
  (c = 3 ∧ n ≤ 255 ∧ part = 0) ∨ (c = 4 ∧ n ≤ 15 ∧ part = 0) ∨ (c = 5 ∧ n = 0 ∧ part = 0)

/-- The argument octets of a flow entry (R97). -/
def flowArguments (e : FlowEntry) : Octets :=
  [BitVec.ofNat 8 e.lane.val] ++ o16 e.inflow.toNat ++ [BitVec.ofNat 8 e.group.val] ++ o16 e.outflow.toNat ++
    ([if e.seqCheck then 1 else 0, if e.renumber then 1 else 0,
      match e.stamp with
      | .keep => 0
      | .add => 1
      | .strip => 2] : Octets) ++
    o16 (e.budget.getD 0)

/-- A budget is absent or 1 to 4095 (R84). -/
def budgetLegal (e : FlowEntry) : Prop := ∀ b, e.budget = some b → 1 ≤ b ∧ b ≤ 4095

/-- The eleven argument octets of FLOW_ADD and FLOW_MODIFY with a value outside its range (R97 step 1). -/
def outsideFlowValues (a : Octets) : Prop :=
  a.length = 11 ∧
  (5 < (octet a 0).toNat ∨ 3 < (octet a 1).toNat ∨ 15 < (octet a 3).toNat ∨ 3 < (octet a 4).toNat ∨
   1 < (octet a 6).toNat ∨ 1 < (octet a 7).toNat ∨ 2 < (octet a 8).toNat ∨ 15 < (octet a 9).toNat)

/-- The place holds an entry with the key of `e`. -/
def holdsKeyOf (s : State) (i : FlowIdx) (e : FlowEntry) : Prop :=
  ∃ x, s.flows[i] = some x ∧ x.lane = e.lane ∧ x.inflow = e.inflow

/-- The operations of the in-flight table, RUNNING ones and held ones (R143). -/
def tableEntries (s : State) : List Operation := s.engine.inFlight ++ s.engine.held.map HeldOp.op

/-- An in-flight entry, RUNNING or held, has this port and tag (R150). -/
def tagRuns (s : State) (p : Port) (tag : Byte) : Prop := ∃ o ∈ tableEntries s, o.port = p ∧ o.tag = tag

/-- The port has left UP, from `s` to `t`, with a cause and a level (R33, R34): its receiver, its counters, the lane
that it is, its statuses in the window, the set, ownership and the snapshot are as those rules and R76 say, and every
other port, lane and block is as it was. The pending list is not spoken of here. -/
def leftUp (p : Port) (cause : DownCause) (s t : State) : Prop :=
  t.ports = upd s.ports p (fun x => { x with rx := Receiver.fresh cause.after }) ∧
  t.counters.ports = upd s.counters.ports p (fun k => { k with downs := bump k.downs }) ∧
  t.counters.lanes = s.counters.lanes ∧ t.counters.flows = s.counters.flows ∧
  t.counters.groups = s.counters.groups ∧
  (match p.lane? with
   | some l =>
     t.free = s.free + s.lanes[l].queue.length ∧
     t.lanes =
       upd s.lanes l (fun x =>
         { queue := [], high := judgedHigh s.ports[p].profile 0 x.high, member := .waiting, lateCount := 0 }) ∧
     t.aligner =
       (if s.aligner.window = [] ∧ ∀ m : Lane, m ≠ l → s.lanes[m].member.inSet = false then
         { s.aligner with running := false, lastReleased := none }
        else
         { s.aligner with
           window := s.aligner.window.map fun r => dueWhenEmpty s.aligner.skew (laneOut l r) })
   | none => t.free = s.free ∧ t.lanes = s.lanes ∧ t.aligner = s.aligner) ∧
  t.engine =
    { s.engine with
      owner := if s.engine.owner.map Ownership.port = some p then none else s.engine.owner } ∧
  t.snapshot = (if s.snapshot.map Snapshot.holder = some p then none else s.snapshot) ∧
  t.notices.enabled = s.notices.enabled ∧ t.flows = s.flows ∧ t.groups = s.groups ∧ t.sched = s.sched ∧
  t.trunk = s.trunk ∧ t.timer = s.timer ∧ t.follower = s.follower ∧ t.phase = s.phase ∧
  t.pending = s.pending ∧ t.orderDraws = s.orderDraws

/-! ### A release, in the words of R71 and R72 -/

/-- A lane gives up its cells of an epoch (R47), with its late count and membership as given. -/
def cellsTaken (l : Lane) (e : Epoch) (member : Membership) (lateCount : Nat) (s : State) : State :=
  { s with lanes := upd s.lanes l fun x =>
      { queue := x.queue.filter fun q => !(q.epoch == e)
        high :=
          judgedHigh s.ports[l.port].profile (x.queue.filter fun q => !(q.epoch == e)).length x.high
        member := member
        lateCount := lateCount } }

/-- A lane that is EXPECTED in the record being released, the oldest, is late for its epoch: its cells of it are
discarded, the late flag is set where this is its current epoch, it is charged, and at the late limit it is ejected
(R72). -/
def lateFor (l : Lane) (e : Epoch) (s : State) : State :=
  let n := min (s.lanes[l].lateCount + 1) 7
  let held := s.lanes[l].queue.countP fun q => q.epoch == e
  let charged (m : Membership) : State :=
    laneCounted l (fun k => { k with lates := bump k.lates })
      (raise .laneLate (BitVec.ofNat 8 l.val) (o16 e.toNat ++ [BitVec.ofNat 8 n])
        { cellsTaken l e m n s with free := s.free + held })
  if s.aligner.lateLimit ≤ n then
    laneCounted l (fun k => { k with ejections := bump k.ejections })
      (raise .laneEjected (BitVec.ofNat 8 l.val) (o16 e.toNat ++ [BitVec.ofNat 8 n])
        { charged .lagging with
          aligner := { s.aligner with
            window :=
              s.aligner.window.take 1 ++
                (s.aligner.window.drop 1).map fun q => dueWhenEmpty s.aligner.skew (laneOut l q) } })
  else
    charged
      (match s.lanes[l].member with
       | .isIn c late => .isIn c (late || decide (c = e))
       | m => m)

/-- A CLOSED lane's cells of a released epoch leave its queue and go to the classifier in arrival order with the epoch,
each with its buffer, and its late count returns to 0 (R47, R71 step 3). -/
def handedOn (l : Lane) (e : Epoch) (s : State) : State :=
  (s.lanes[l].queue.filter fun q => q.epoch == e).foldl (fun u q => classify (.aligned e) q.cell u)
    (cellsTaken l e s.lanes[l].member 0 s)

/-- The unit's counter of a release at a release point, by the statuses that it finds (R71 step 1). -/
def releaseCounted (r : EpochRec) (k : UnitCounters) : UnitCounters :=
  if ∀ l : Lane, r.status[l] = .na then { k with emptyReleases := bump k.emptyReleases }
  else if ∃ l : Lane, r.status[l] = .expected then { k with partialReleases := bump k.partialReleases }
  else { k with fullReleases := bump k.fullReleases }

/-- The oldest record is released (R71): counted as given, the EXPECTED lanes from L0 to L5, the CLOSED lanes from L0 to
L5, the record gone, and the set EMPTY when no record and no IN lane is left (R74). -/
def releasedAs (count : EpochRec → UnitCounters → UnitCounters) (s : State) : State :=
  match s.aligner.window with
  | [] => s
  | r :: _ =>
    let counted : State :=
      { s with counters := { s.counters with unit := count r s.counters.unit } }
    let charged :=
      ([0, 1, 2, 3, 4, 5] : List Lane).foldl
        (fun u l => if r.status[l] = .expected then lateFor l r.epoch u else u) counted
    let handed :=
      ([0, 1, 2, 3, 4, 5] : List Lane).foldl
        (fun u l => if r.status[l] = .closed then handedOn l r.epoch u else u) charged
    if handed.aligner.window.length = 1 ∧ ∀ l : Lane, handed.lanes[l].member.inSet = false then
      { handed with aligner := { handed.aligner with running := false, lastReleased := none, window := [] } }
    else
      { handed with aligner :=
          { handed.aligner with lastReleased := some r.epoch, window := handed.aligner.window.drop 1 } }

/-- The oldest record is released at a release point (R71). -/
def oldestReleased (s : State) : State := releasedAs releaseCounted s

/-- The forced release of the oldest record (R73): WINDOW_FORCED with its epoch and the number of lanes EXPECTED in it,
then its release, counted as forced. -/
def forcedOut (s : State) : State :=
  match s.aligner.window with
  | [] => s
  | r :: _ =>
    releasedAs (fun _ k => { k with forcedReleases := bump k.forcedReleases })
      (raise .windowForced 0xFF
        (o16 r.epoch.toNat ++ [BitVec.ofNat 8 (r.status.toList.countP fun x => decide (x = .expected))]) s)

/-- A MARK cell has closed epoch `e`, whose record holds `n` arrivals of the lane: the status, the comparison, the due
count (R64), and the lane at the successor epoch (R65). -/
def epochClosed (l : Lane) (c : Octets) (e : Epoch) (n : Nat) (s : State) : State :=
  let compared :=
    if declaredCount c = n then markTaken l s
    else
      laneCounted l (fun k => { k with mismatches := bump k.mismatches })
        (raise .epochCountMismatch (BitVec.ofNat 8 l.val)
          (o16 e.toNat ++ o16 (declaredCount c) ++ o16 (min n 65535)) (markTaken l s))
  { compared with
    lanes := upd s.lanes l fun x => { x with member := .isIn (e + 1) false }
    aligner := { s.aligner with
      window := s.aligner.window.map fun r =>
        if r.epoch = e then
          { r with status := upd r.status l (fun _ => .closed), due := some (r.due.getD (s.aligner.skew + 1)) }
        else r } }

/-- A MARK cell that is a slip has been counted (R66 steps 1 to 4): the cells of the lane's epoch `e` discarded, its
statuses NA from that record on, LANE_SLIP raised, and the lane JOINING with its late count kept. -/
def slippedLane (l : Lane) (c : Octets) (e : Epoch) (s : State) : State :=
  laneCounted l (fun k => { k with slips := bump k.slips })
    (raise .laneSlip (BitVec.ofNat 8 l.val) (o16 (e + 1).toNat ++ o16 (markedEpoch c).toNat)
      { cellsTaken l e .joining s.lanes[l].lateCount (markTaken l s) with
        free := s.free + s.lanes[l].queue.countP fun q => q.epoch == e
        aligner := { s.aligner with
          window := s.aligner.window.map fun x =>
            dueWhenEmpty s.aligner.skew
              (if x.epoch = e ∨ (epochAfter x.epoch e = true ∧ x.status[l] = .expected) then laneOut l x else x) } })

/-- A lane has joined a RUNNING set at an epoch, with the window that this leaves (R62). -/
def joinedAt (l : Lane) (e : Epoch) (window : List EpochRec) (s : State) : State :=
  laneCounted l (fun k => { k with joins := bump k.joins })
    { s with
      lanes := upd s.lanes l fun x => { x with member := .isIn e false }
      aligner := { s.aligner with window := window } }

/-! ### A flush (R101, R119) -/

/-- The entries that the records of a queue name, in the order in which each one's last record stands, head first. -/
def byLastRecord : List GroupRec → List FlowIdx
  | [] => []
  | r :: rest => if rest.any fun q => q.entry == r.entry then byLastRecord rest else r.entry :: byLastRecord rest

/-- The records of a group queue that name an entry. -/
def recordsIn (s : State) (g : Group) (i : FlowIdx) : Nat := s.groups[g].queue.countP fun r => r.entry == i

/-- A flush of the group ends the drain of the entry: it is DRAINING, and its queued cells all stand in this group. -/
def flushEndsDrain (s : State) (g : Group) (i : FlowIdx) : Bool :=
  match s.flows[i] with
  | some f => f.draining && f.inQueue == recordsIn s g i
  | none => false

/-- The oldest record is released, `n` times over (R70 step 3). -/
def releasedTimes : Nat → State → State
  | 0, s => s
  | n + 1, s => releasedTimes n (oldestReleased s)

/-- The slot that a mid-cycle boundary begins carries FILL: the buffer of the cell just sent returns, and the slot is
counted (R120, R126). -/
def fillSent (s : State) : State :=
  { s with
    free := s.free + (if s.trunk.inTransit.isSome then 1 else 0)
    trunk := { sending := some (List.replicate 64 0), inTransit := none }
    counters := { s.counters with
      unit := { s.counters.unit with fillSlots := bump s.counters.unit.fillSlots } } }

/-- The notices of the lanes that the forced release of record `r` finds EXPECTED, with the late counts of `s` (R72,
R73). -/
def lateRecords (s : State) (r : EpochRec) : List NoticeRec :=
  ([0, 1, 2, 3, 4, 5] : List Lane).flatMap fun l =>
    let n := min (s.lanes[l].lateCount + 1) 7
    let detail := o16 r.epoch.toNat ++ [BitVec.ofNat 8 n]
    if r.status[l] = .expected then
      openedRecord .laneLate (BitVec.ofNat 8 l.val) detail s.timer.cycle ::
        (if s.aligner.lateLimit ≤ n then
          [openedRecord .laneEjected (BitVec.ofNat 8 l.val) detail s.timer.cycle]
         else [])
    else []

/-! ### The laws of the device -/

/-- Records in the six lane queues. -/
def lanesHold (s : State) : Nat := (s.lanes.toList.map fun x => x.queue.length).sum

/-- Records in the sixteen group queues. -/
def groupsHold (s : State) : Nat := (s.groups.toList.map fun q => q.queue.length).sum

/-- The cell in transmission, zero or one. -/
def inTransmission (s : State) : Nat := if s.trunk.inTransit.isSome then 1 else 0

/-- First law (R41): free buffers, queued cells and the cell in transmission are 1024 together. -/
def buffersAddUp (s : State) : Prop := s.free + lanesHold s + groupsHold s + inTransmission s = 1024

/-- The relations of a lane's quota and watermarks (R19, R20). -/
def Profile.related (x : Profile) : Prop :=
  x.quota ≤ 1024 ∧
  (if x.quota = 0 then x.high = 0 ∧ x.low = 0 else 1 ≤ x.high ∧ x.high ≤ x.quota ∧ x.low < x.high)

/-- The hysteresis state agrees with the occupancy wherever R50 fixes it. -/
def hysteresisAgrees (x : Profile) (occupancy : Nat) (high : Bool) : Prop :=
  (x.quota = 0 → high = true) ∧ (x.quota ≠ 0 → x.high ≤ occupancy → high = true) ∧
  (x.quota ≠ 0 → occupancy ≤ x.low → high = false)

/-- Second law (R46, R115) with R20 and R50: no lane queue holds more than its quota and no group queue more than its
limit, the fields are related as R20 says, and the hysteresis state agrees with the occupancy. -/
def queuesWithinLimits (s : State) : Prop :=
  (∀ l : Lane,
    (s.ports[l.port].profile).related ∧ s.lanes[l].queue.length ≤ s.ports[l.port].profile.quota ∧
    hysteresisAgrees s.ports[l.port].profile s.lanes[l].queue.length s.lanes[l].high) ∧
  (∀ g : Group, s.groups[g].queue.length ≤ s.groups[g].limit ∧ 1 ≤ s.groups[g].limit ∧ s.groups[g].limit ≤ 1024)

/-- Two places hold entries with one key. -/
def sameKey (a b : Option FlowEntry) : Bool :=
  match a, b with
  | some x, some y => x.lane == y.lane && x.inflow == y.inflow
  | _, _ => false

/-- Third law (R83): no two places hold entries with one key. -/
def keysDistinct (s : State) : Prop := ∀ i j : FlowIdx, i ≠ j → sameKey s.flows[i] s.flows[j] = false

/-- Records in the group queues that name an index. -/
def recordsNaming (s : State) (i : FlowIdx) : Nat :=
  (s.groups.toList.map fun q => q.queue.countP fun r => r.entry == i).sum

/-- Fourth law (R85): an entry's in-queue count is the number of queued records that name it, and no record names a free
place. -/
def countsMatchRecords (s : State) : Prop :=
  ∀ i : FlowIdx,
    recordsNaming s i =
      match s.flows[i] with
      | some e => e.inQueue
      | none => 0

/-- The epoch numbers of a window are consecutive, oldest first. -/
def consecutive : List EpochRec → Prop
  | [] => True
  | [_] => True
  | a :: b :: rest => b.epoch = a.epoch + 1 ∧ consecutive (b :: rest)

/-- Fifth law (R57): at most 4 records, with consecutive epoch numbers. -/
def windowOrdered (s : State) : Prop := s.aligner.window.length ≤ 4 ∧ consecutive s.aligner.window

/-- What the set's state says (R56), and seventh law (R71): the oldest record is the successor of the last released
epoch. -/
def setSound (s : State) : Prop :=
  (s.aligner.running = false →
    s.aligner.window = [] ∧ s.aligner.lastReleased = none ∧ ∀ l : Lane, s.lanes[l].member.inSet = false) ∧
  (s.aligner.running = true →
    (s.aligner.window ≠ [] ∨ ∃ l : Lane, s.lanes[l].member.inSet = true) ∧
    (s.aligner.window = [] → s.aligner.lastReleased ≠ none)) ∧
  (∀ x, s.aligner.lastReleased = some x → ∀ r, s.aligner.window.head? = some r → r.epoch = x + 1)

/-- What a lane's membership says of the records (R59 to R68, R72, R76): an IN lane that is not late has a record of its
current epoch and is EXPECTED in it and in every later one, and nowhere else; a late lane is EXPECTED in every record
and its late count is above the number of epochs released since; the other lanes are EXPECTED nowhere, and WAITING and
LAGGING lanes are CLOSED nowhere. -/
def memberSound (s : State) (l : Lane) : Prop :=
  match s.lanes[l].member with
  | .waiting => ∀ r ∈ s.aligner.window, r.status[l] = .na
  | .lagging => ∀ r ∈ s.aligner.window, r.status[l] = .na
  | .joining => ∀ r ∈ s.aligner.window, r.status[l] ≠ .expected
  | .isIn c false =>
    (∃ r ∈ s.aligner.window, r.epoch = c) ∧
    ∀ r ∈ s.aligner.window, r.status[l] = .expected ↔ r.epoch = c ∨ epochAfter r.epoch c = true
  | .isIn c true =>
    (∃ x, s.aligner.lastReleased = some x ∧ (x - c).toNat < s.lanes[l].lateCount) ∧
    ∀ r ∈ s.aligner.window, r.status[l] = .expected

/-- Sixth law (R67): every cell of a lane queue carries an epoch of the window, in which the lane is CLOSED or which is
the current epoch of the lane; and the cells stand in epoch order. -/
def laneQueueOrdered (s : State) (l : Lane) : Prop :=
  (∀ q ∈ s.lanes[l].queue, ∃ r ∈ s.aligner.window,
    r.epoch = q.epoch ∧ (r.status[l] = .closed ∨ s.lanes[l].member = .isIn q.epoch false)) ∧
  s.lanes[l].queue.Pairwise fun a b => a.epoch = b.epoch ∨ epochAfter b.epoch a.epoch = true

/-- A lane that is not WAITING is aligned and UP (R59, R60). -/
def memberQualified (s : State) (l : Lane) : Prop :=
  s.lanes[l].member ≠ .waiting → s.ports[l.port].rx.st = .up ∧ s.ports[l.port].profile.mode = .aligned

/-- The Epoch Aligner's laws together: fifth, sixth and seventh, the set, the members, and the ranges of R55 and R59. -/
def alignerSound (s : State) : Prop :=
  windowOrdered s ∧ setSound s ∧ 1 ≤ s.aligner.lateLimit ∧ s.aligner.lateLimit ≤ 7 ∧ s.aligner.skew ≤ 7 ∧
  ∀ l : Lane, memberSound s l ∧ laneQueueOrdered s l ∧ memberQualified s l ∧ s.lanes[l].lateCount ≤ 7

/-- While the part is not running no request waits, no pulse has been taken and every receiver is OFF (R15, R17, R162).
-/
def quietUntilRunning (s : State) : Prop :=
  s.phase ≠ .running →
    s.engine.requests = [] ∧ s.timer.begun = none ∧ ∀ p : Port, s.ports[p].rx.st = .off

/-- Eighth law (R154), with the lease's ranges (R143): the owner's port is UP and permitted. -/
def ownerQualified (s : State) : Prop :=
  match s.engine.owner with
  | none => True
  | some o =>
    s.ports[o.port].rx.st = .up ∧ s.ports[o.port].profile.mgmt = true ∧ 1 ≤ o.remaining ∧ o.remaining ≤ o.lease ∧
    o.lease ≤ 255

/-- Twelfth law (R169), with the lifetime's ranges: the snapshot's holder is UP. -/
def holderQualified (s : State) : Prop :=
  match s.snapshot with
  | none => True
  | some x =>
    s.ports[x.holder].rx.st = .up ∧ 1 ≤ x.remaining ∧ x.remaining ≤ x.lifetime ∧ x.lifetime ≤ 255

/-- Ninth law (R143), with R144 and R151: the three capacities, no two entries with one port and tag, and completions
held and requests waiting only while the reply queue is full. -/
def engineWithinCapacity (s : State) : Prop :=
  s.engine.requests.length ≤ 8 ∧ s.engine.replies.length ≤ 16 ∧ (tableEntries s).length ≤ 4 ∧
  (tableEntries s).Pairwise (fun a b => ¬(a.port = b.port ∧ a.tag = b.tag)) ∧
  (s.engine.held ≠ [] → s.engine.replies.length = 16) ∧ (s.engine.requests ≠ [] → s.engine.replies.length = 16)

/-- The unit address is 0 to 254 (R143). -/
def unitAddressLegal (s : State) : Prop := s.engine.unitAddr ≠ 255

/-- A place holds a DRAINING entry. -/
def drainsAt (s : State) (i : FlowIdx) : Prop := (s.flows[i].map FlowEntry.draining) = some true

/-- Every RUNNING operation is one that its target block is carrying out, every such operation of a block has its
RUNNING entry, and no target has two (R150). -/
def operationsOwned (s : State) : Prop :=
  (s.engine.inFlight.Pairwise fun a b => a.target ≠ b.target) ∧
  (∀ i : FlowIdx, (∃ o ∈ s.engine.inFlight, o.target = .flow i) ↔ drainsAt s i) ∧
  (∀ x : Bank, (∃ o ∈ s.engine.inFlight, o.target = .bank x) ↔ s.sched.swapPending = true ∧ x = s.sched.staged) ∧
  ((∃ o ∈ s.engine.inFlight, o.target = .follower) ↔ s.follower.armed = true)

/-- Tenth law (R180): at most one record per kind and subject, none of a disabled kind, and occurrences of 1 to 65535.
-/
def noticesSound (s : State) : Prop :=
  (s.notices.waiting.Pairwise fun a b => ¬(a.kind = b.kind ∧ a.subject = b.subject)) ∧
  ∀ n ∈ s.notices.waiting, s.notices.enabled[n.kind.place] = true ∧ 1 ≤ n.occurrences ∧ n.occurrences ≤ 65535

/-- A bank holds an entry that is MGMT or has its lend flag set. -/
def capable (b : Vector SlotEntry 64) : Prop := ∃ n : Slot, b[n].kind = .mgmt ∨ b[n].lend = true

/-- Eleventh law (R107): the active bank is management-capable, and so is a staged bank that a pending swap will make
active. -/
def activeBankCapable (s : State) : Prop :=
  capable (s.sched.bank s.sched.active) ∧ (s.sched.swapPending = true → capable (s.sched.bank s.sched.staged))

/-- The tick count is the cycle number modulo 4096 (R132), an arm is set only in ONCE mode, and the follower's values
are in their ranges (R134). -/
def timeSound (s : State) : Prop :=
  s.timer.tick = s.timer.cycle.setWidth 12 ∧ (s.follower.armed = true → s.follower.mode = .once) ∧
  s.follower.window ≤ 31 ∧ ∀ p, s.follower.lastPhase = some p → -32 ≤ p ∧ p ≤ 31

/-- The receiver table of R21, with how many octets of a search, a group or a cell a receiver can have in hand. -/
def Receiver.sound (x : Receiver) : Prop :=
  match x.st with
  | .off => x.level = 0 ∧ x.count = 0
  | .hunt => x.level = 0 ∧ x.count = 0 ∧ x.octets.length < 8
  | .check => x.level = 0 ∧ 1 ≤ x.count ∧ x.count ≤ 5 ∧ x.octets.length < 64
  | .up => x.level ≤ 255 ∧ x.count = 6 ∧ x.octets.length < 64

/-- The receivers keep R21 and the profiles R19: a running part's port is OFF just when it is disabled, the budget limit
is 16 to 255, and T-in's unused fields stay as they are. -/
def receiversSound (s : State) : Prop :=
  (∀ p : Port,
    (s.ports[p].rx).sound ∧ 16 ≤ s.ports[p].profile.limit ∧ s.ports[p].profile.limit ≤ 255 ∧
    (s.phase = .running → (s.ports[p].rx.st = .off ↔ s.ports[p].profile.enabled = false))) ∧
  s.ports[tIn].profile.mode = .pass ∧ s.ports[tIn].profile.mgmt = true ∧ s.ports[tIn].profile.tag = none

/-- T-out sends no cell while RESET_N is low, and a header-valid one at every other time (R2, R15, R120). -/
def trunkSound (s : State) : Prop :=
  match s.phase, s.trunk.sending with
  | .heldInReset, x => x = none
  | _, none => False
  | _, some c => headerValid c = true

end Sys2Proof.Machine
end

