-- ==== Sys2Proof/Certificates/Slice0/Obligations.lean ====
section
/-! DEFINITION. The statements for the provers. -/

open Sys2Proof Sys2Proof.Machine

/-! ### The part as a whole -/

/-- A step takes the command at the front of the queue and runs it with the queue's rest. With no command waiting the
part idles (the model's choice, log entry 8). -/
def Obligations.StepRunsTheFrontCommand : Prop :=
  (∀ (c : Instr) (rest : List Instr) (s : State),
    step { s with pending := c :: rest } = exec c { s with pending := rest }) ∧
  ∀ s : State, s.pending = [] → step s = .next s

/-- The state right after reset has every law of the device and every other invariant stated below. -/
def Obligations.LawsHoldAtReset : Prop :=
  buffersAddUp State.reset ∧ queuesWithinLimits State.reset ∧ keysDistinct State.reset ∧
  countsMatchRecords State.reset ∧ quietUntilRunning State.reset ∧ alignerSound State.reset ∧
  ownerQualified State.reset ∧ holderQualified State.reset ∧ receiversSound State.reset ∧
  engineWithinCapacity State.reset ∧ unitAddressLegal State.reset ∧ operationsOwned State.reset ∧
  noticesSound State.reset ∧ activeBankCapable State.reset ∧ timeSound State.reset ∧ trunkSound State.reset

/-- RESET_ASSERT holds every block at its power-on state: the values of 2.1, 2.8, 3.4, 4.12, 5.8, 6.7, 7.5, 8.8, 9.5 and
10.7. The unit address, which R16 gives only at the release, is 0 (the model's choice, log entry 2). The slot counter,
which R142 gives at the first boundary after initialisation, is 0 from the reset on (the model's choice, log entry 14).
RESET_RELEASE begins initialisation: the straps become the unit address and T-out sends FILL; a part that is not held in
reset has no such edge. -/
def Obligations.ResetGivesPowerOnStateAndSamplesStraps : Prop :=
  (∀ s : State, ∃ t : State, exec .resetAssert s = .next t ∧
     t.phase = .heldInReset ∧ t.trunk = { sending := none, inTransit := none } ∧
     (∀ l : Lane, t.ports[l.port].profile =
       { enabled := true, mode := .pass, mgmt := false, quota := 160, high := 128, low := 64, limit := 64,
         tag := none }) ∧
     t.ports[tIn].profile =
       { enabled := true, mode := .pass, mgmt := true, quota := 0, high := 0, low := 0, limit := 64, tag := none } ∧
     (∀ p : Port, t.ports[p].rx = { st := .off, level := 0, count := 0, octets := [], skip := 0 }) ∧
     t.timer = { slot := 0, cycle := 0, tick := 0, begun := none } ∧
     t.free = 1024 ∧
     (∀ l : Lane, t.lanes[l] = { queue := [], high := false, member := .waiting, lateCount := 0 } ∧
       pauseLine t l = true) ∧
     t.aligner =
       { skew := 2, releaseSlot := 0, lateLimit := 3, running := false, lastReleased := none, window := [] } ∧
     (∀ i : FlowIdx, t.flows[i] = none) ∧
     (∀ g : Group, t.groups[g] = { queue := [], limit := 128, borrow := decide (g = 0) }) ∧
     t.sched.active = .a ∧ t.sched.swapPending = false ∧ t.sched.lendPointer = 0 ∧
     (∀ n : Slot, t.sched.bankA[n] = { kind := if n = 0 then .mgmt else .group 0, lend := true } ∧
       t.sched.bankB[n] = { kind := .idle, lend := false }) ∧
     t.follower = { mode := .free, window := 2, armed := false, lastPhase := none } ∧
     t.engine = { unitAddr := 0, owner := none, requests := [], replies := [], inFlight := [], held := [] } ∧
     t.counters = Counters.zero ∧ t.snapshot = none ∧
     t.notices = { enabled := Vector.replicate 14 true, waiting := [] } ∧
     t.pending = s.pending ∧ t.orderDraws = s.orderDraws) ∧
  (∀ (s : State) (straps : BitVec 3), s.phase = .heldInReset →
     ∃ u : Byte,
       u.toNat = (straps.getLsbD 2).toNat * 4 + (straps.getLsbD 1).toNat * 2 + (straps.getLsbD 0).toNat ∧
       exec (.resetRelease straps) s =
         .next { s with phase := .initialising 0, engine := { s.engine with unitAddr := u },
                        trunk := { s.trunk with sending := some (List.replicate 64 0) } }) ∧
  ∀ (s : State) (straps : BitVec 3), s.phase ≠ .heldInReset → exec (.resetRelease straps) s = .next s

/-- INIT_END on a part with nothing queued: every enabled port enters HUNT, the timer begins at slot 0 of cycle 0 with
no raise of the cycle number or the tick count, the cycle start renews the budgets, and slot 0 is served and, with
nothing to carry, counted as a FILL slot. That one command ends initialisation is the model's choice (log entry 4). -/
def Obligations.InitEndBeginsSlotZero : Prop :=
  ∀ (s : State) (n : Nat), s.phase = .initialising n → s.engine.requests = [] → s.aligner.window = [] →
    s.sched.swapPending = false →
    s.trunk.inTransit = none → s.engine.replies = [] → s.notices.waiting = [] →
    (∀ g : Group, s.groups[g].queue = []) →
    exec .initEnd s =
      .next { s with
        phase := .running
        ports := s.ports.map fun x =>
          if x.profile.enabled then { x with rx := { st := .hunt, level := 0, count := 0, octets := [], skip := 0 } }
          else x
        timer := { slot := 0, cycle := 0, tick := 0, begun := none }
        flows := s.flows.map (Option.map fun e => { e with admitted := 0 })
        counters :=
          { s.counters with
            unit := { s.counters.unit with fillSlots := bump s.counters.unit.fillSlots } }
        trunk := { sending := some (List.replicate 64 0), inTransit := none } }

/-! ### Receivers -/

/-- HEADER_SEARCH at a receiver in HUNT: with `w` the octets in hand and the new ones, the first header-valid group of
eight is the candidate boundary, found when its eighth octet comes; with none found the last seven octets stay in hand.
A receiver that is OFF takes nothing. That the command carries octets of a stream is the model's choice (log entry 12).
-/
def Obligations.HeaderSearchFindsFirstValidGroup : Prop :=
  ∀ (s : State) (p : Port) (o : Octets), s.ports[p].rx.octets.length ≤ 7 →
    (s.ports[p].rx.st = .hunt →
      (∀ k : Nat, k + 8 = s.ports[p].rx.octets.length + o.length →
        headerValid ((s.ports[p].rx.octets ++ o).drop k) = true →
        (∀ j < k, headerValid (((s.ports[p].rx.octets ++ o).drop j).take 8) = false) →
        exec (.headerSearch p o) s =
          .next { s with ports := upd s.ports p fun x =>
            { x with rx := { x.rx with st := .check, count := 1, octets := [], skip := 56 } } }) ∧
      ((∀ j : Nat, j + 8 ≤ s.ports[p].rx.octets.length + o.length →
          headerValid (((s.ports[p].rx.octets ++ o).drop j).take 8) = false) →
        exec (.headerSearch p o) s =
          .next { s with ports := upd s.ports p fun x =>
            { x with rx := { x.rx with
                octets := (x.rx.octets ++ o).drop ((x.rx.octets ++ o).length - 7) } } })) ∧
    (s.ports[p].rx.st = .off → exec (.headerSearch p o) s = .next s)

/-- CHECK_CELL below the sixth header: the octets of the candidate cell pass undelivered; a group with a valid header
counts; a group whose header fails takes the receiver to HUNT with count 0, and the search goes on at the group's second
octet. The sixth valid header takes the port to UP: level 0, count 6, LANE_UP, and an aligned lane that is WAITING
becomes JOINING. That the command carries octets of a stream, any number of them, each taken in the state that it finds,
so that a failed group's other 63 octets are those of a HEADER_SEARCH, is the model's choice (log entry 12). -/
def Obligations.SixValidHeadersEnterUp : Prop :=
  (∀ (s : State) (p : Port) (g : Octets), s.ports[p].rx.st = .check →
     (g.length ≤ s.ports[p].rx.skip →
       exec (.checkCell p g) s =
         .next { s with ports := upd s.ports p fun x =>
           { x with rx := { x.rx with skip := x.rx.skip - g.length } } }) ∧
     (s.ports[p].rx.skip = 0 → s.ports[p].rx.octets = [] → g.length = 64 →
       (headerValid g = true → s.ports[p].rx.count < 5 →
         exec (.checkCell p g) s =
           .next { s with ports := upd s.ports p fun x => { x with rx := { x.rx with count := x.rx.count + 1 } } }) ∧
       (headerValid g = false →
         exec (.checkCell p g) s =
           exec (.headerSearch p (g.drop 1))
             { s with ports := upd s.ports p fun x =>
               { x with rx := { st := .hunt, level := 0, count := 0, octets := [], skip := 0 } } }))) ∧
  (∀ (s : State) (p : Port) (g : Octets), s.ports[p].rx.st = .check → s.ports[p].rx.skip = 0 →
     s.ports[p].rx.octets = [] → g.length = 64 → headerValid g = true → s.ports[p].rx.count = 5 →
     exec (.checkCell p g) s =
       .next (raise .laneUp (BitVec.ofNat 8 p.val) []
         { s with
           ports := upd s.ports p fun x =>
             { x with rx := { st := .up, level := 0, count := 6, octets := [], skip := 0 } }
           lanes :=
             match p.lane? with
             | some l =>
               upd s.lanes l fun x =>
                 if s.ports[p].profile.mode = .aligned ∧ x.member = .waiting then { x with member := .joining } else x
             | none => s.lanes }))

/-- LOSS_OF_SIGNAL by the receiver's state: nothing in OFF and HUNT; CHECK returns to HUNT; UP goes down with cause 01h
and LANE_DOWN carries the limit as the level (DEDUCED, log entry 7), the LANE_DOWN record before that of OWNER_LOST. -/
def Obligations.LossOfSignalByState : Prop :=
  ∀ (s : State) (p : Port),
    (s.ports[p].rx.st = .off ∨ s.ports[p].rx.st = .hunt → exec (.lossOfSignal p) s = .next s) ∧
    (s.ports[p].rx.st = .check →
      exec (.lossOfSignal p) s =
        .next { s with ports := upd s.ports p fun x =>
          { x with rx := { st := .hunt, level := 0, count := 0, octets := [], skip := 0 } } }) ∧
    (s.ports[p].rx.st = .up → s.ports[p].rx.level ≤ s.ports[p].profile.limit → s.ports[p].profile.limit ≤ 255 →
      ∃ t : State, exec (.lossOfSignal p) s = .next t ∧ leftUp p .budgetLimit s t ∧
        (opensRecord s .laneDown (BitVec.ofNat 8 p.val) → opensRecord s .ownerLost 0xFF →
          t.counters.unit = s.counters.unit ∧
          t.notices.waiting =
            s.notices.waiting ++
            [openedRecord .laneDown (BitVec.ofNat 8 p.val) [0x01, BitVec.ofNat 8 s.ports[p].profile.limit]
              s.timer.cycle] ++
            (if s.engine.owner.map Ownership.port = some p then
              [openedRecord .ownerLost 0xFF [BitVec.ofNat 8 p.val, 0x02] s.timer.cycle]
             else [])))

/-- The kinds and header and body conditions of R3 and R4, octet by octet. -/
def Obligations.FormatConditionsByKind : Prop :=
  ∀ (p : Port) (c : Octets), c.length = 64 →
    (formatValid p c = true ↔
      (octet c 0 = 0x00 ∧ ∀ i, 1 ≤ i → i ≤ 6 → octet c i = 0) ∨
      (p.val ≤ 5 ∧ octet c 0 = 0x10 ∧ ∀ i, 1 ≤ i → i ≤ 6 → octet c i = 0) ∨
      (p.val ≤ 5 ∧ (octet c 1).toNat ≤ 3 ∧ (octet c 3).toNat ≤ 15 ∧ octet c 6 = 0 ∧
        (octet c 0 = 0x20 ∧ (octet c 5).toNat ≤ 56 ∨ octet c 0 = 0x28 ∧ (octet c 5).toNat ≤ 48)) ∨
      (octet c 0 = 0x30 ∧ (∀ i, 1 ≤ i → i ≤ 4 → octet c i = 0) ∧ (octet c 10).toNat ≤ 52 ∧ octet c 11 = 0 ∧
        (octet c 5).toNat = 4 + (octet c 10).toNat))

/-- CELL_ARRIVAL of a cell that fails a test, in the order header, format, source tag: it is charged 16, 4 and 4,
counted and dropped while the level stays below the limit; and a charge of any of the three that reaches the limit takes
the port down with cause 01h. -/
def Obligations.FailedCellsAreCharged : Prop :=
  ∀ (s : State) (p : Port) (c : Octets) (n : Nat) (f : PortCounters → PortCounters), s.ports[p].rx.st = .up →
    s.ports[p].rx.octets = [] → c.length = 64 → s.ports[p].profile.limit ≤ 255 →
    (headerValid c = false ∧ n = 16 ∧ (f = fun k => { k with headerErrors := bump k.headerErrors }) ∨
     headerValid c = true ∧ formatValid p c = false ∧ n = 4 ∧
       (f = fun k => { k with formatErrors := bump k.formatErrors }) ∨
     headerValid c = true ∧ formatValid p c = true ∧ p.val ≤ 5 ∧ octet c 0 = 0x10 ∧
       (∃ tag, s.ports[p].profile.tag = some tag ∧ octet c 12 ≠ tag) ∧ n = 4 ∧
       (f = fun k => { k with tagErrors := bump k.tagErrors })) →
    (s.ports[p].rx.level + n < s.ports[p].profile.limit →
      exec (.cellArrival p c) s =
        .next { s with
          ports := upd s.ports p fun x => { x with rx := { x.rx with level := x.rx.level + n } }
          counters := { s.counters with ports := upd s.counters.ports p f } }) ∧
    (s.ports[p].profile.limit ≤ s.ports[p].rx.level + n →
      ∃ t : State, exec (.cellArrival p c) s = .next t ∧
        leftUp p .budgetLimit { s with counters := { s.counters with ports := upd s.counters.ports p f } } t ∧
        (opensRecord s .laneDown (BitVec.ofNat 8 p.val) → opensRecord s .ownerLost 0xFF →
          t.counters.unit = s.counters.unit ∧
          t.notices.waiting =
            s.notices.waiting ++
            [openedRecord .laneDown (BitVec.ofNat 8 p.val)
              [0x01, BitVec.ofNat 8 (min (s.ports[p].rx.level + n) 255)] s.timer.cycle] ++
            (if s.engine.owner.map Ownership.port = some p then
              [openedRecord .ownerLost 0xFF [BitVec.ofNat 8 p.val, 0x02] s.timer.cycle]
             else [])))

/-- CELL_ARRIVAL of a valid FILL on any port, and of a valid MARK on a pass lane: a credit of one, two counts, nothing
else. CELL_ARRIVAL of a valid MREQ: the filters of permission, address and room in their order; a request that passes
them is taken in the same instant when the engine can take it, and joins the tail of the request queue otherwise. -/
def Obligations.FillMarkAndRequestCellsAreHandled : Prop :=
  (∀ (s : State) (p : Port) (c : Octets), s.ports[p].rx.st = .up → s.ports[p].rx.octets = [] → c.length = 64 →
     headerValid c = true → formatValid p c = true →
     (octet c 0 = 0x00 →
       exec (.cellArrival p c) s =
         .next (credited p (fun k => { k with valid := bump k.valid, fillArrivals := bump k.fillArrivals }) s)) ∧
     (octet c 0 = 0x10 → s.ports[p].profile.mode = .pass →
       (s.ports[p].profile.tag = none ∨ s.ports[p].profile.tag = some (octet c 12)) →
       exec (.cellArrival p c) s =
         .next (credited p (fun k => { k with valid := bump k.valid, markArrivals := bump k.markArrivals }) s))) ∧
  (∀ (s : State) (p : Port) (c : Octets), s.ports[p].rx.st = .up → s.ports[p].rx.octets = [] → c.length = 64 →
     headerValid c = true → formatValid p c = true → octet c 0 = 0x30 →
     (s.ports[p].profile.mgmt = false →
       exec (.cellArrival p c) s =
         .next (credited p (fun k =>
           { k with valid := bump k.valid, mreqArrivals := bump k.mreqArrivals,
                    mreqNotPermitted := bump k.mreqNotPermitted }) s)) ∧
     (s.ports[p].profile.mgmt = true → octet c 6 ≠ 255 → octet c 6 ≠ s.engine.unitAddr →
       exec (.cellArrival p c) s =
         .next (credited p (fun k =>
           { k with valid := bump k.valid, mreqArrivals := bump k.mreqArrivals,
                    mreqForeign := bump k.mreqForeign }) s)) ∧
     (s.ports[p].profile.mgmt = true → (octet c 6 = 255 ∨ octet c 6 = s.engine.unitAddr) →
       ∀ r : Request,
         r = { port := p, code := octet c 8, tag := octet c 9, args := (c.drop 12).take (octet c 10).toNat } →
         (engineFree s →
           exec (.cellArrival p c) s =
             exec .requestTake
               (requesting [r]
                 (credited p (fun k => { k with valid := bump k.valid, mreqArrivals := bump k.mreqArrivals }) s))) ∧
         (8 ≤ s.engine.requests.length →
           exec (.cellArrival p c) s =
             .next (credited p (fun k =>
               { k with valid := bump k.valid, mreqArrivals := bump k.mreqArrivals,
                        mreqOverrun := bump k.mreqOverrun }) s)) ∧
         (¬engineFree s → s.engine.requests.length < 8 →
           exec (.cellArrival p c) s =
             .next
               (requesting (s.engine.requests ++ [r])
                 (credited p (fun k =>
                   { k with valid := bump k.valid, mreqArrivals := bump k.mreqArrivals }) s)))))

/-! ### Classification -/

/-- CELL_ARRIVAL of a valid DATA cell on a pass lane, admitted: its entry is ACTIVE, it passes the sequence check and
the budget, its group has room and a buffer is free. CELL_ARRIVAL of a valid DATA cell on a pass lane, discarded by each
step of the classification in turn. A gap is counted at the sequence check, whatever later steps do (DEDUCED, log entry
13). -/
def Obligations.PassLaneCellIsAdmittedOrDiscarded : Prop :=
  (∀ (s : State) (l : Lane) (c : Octets) (i : FlowIdx) (e : FlowEntry), passLaneData s l c →
     keysDistinct s → s.flows[i] = some e → e.lane = l → e.inflow = (keptCell l c).flow → e.draining = false →
     passesSequence e (keptCell l c).seq → withinBudget e →
     s.groups[e.group].queue.length < s.groups[e.group].limit → 0 < s.free →
     exec (.cellArrival l.port c) s =
       .next { credited l.port (fun k => { k with valid := bump k.valid, dataArrivals := bump k.dataArrivals }) s with
         free := s.free - 1
         flows := upd s.flows i fun _ => some
           { e with expected := expectedAfter e (keptCell l c).seq, inQueue := e.inQueue + 1,
                    admitted := min (e.admitted + 1) 65535 }
         groups := upd s.groups e.group fun q =>
           { q with queue := q.queue ++ [{ cell := keptCell l c, entry := i, origin := .pass }] }
         counters := { s.counters with
           ports := upd s.counters.ports l.port fun k =>
             { k with valid := bump k.valid, dataArrivals := bump k.dataArrivals }
           flows := upd s.counters.flows i fun k =>
             { k with admitted := bump k.admitted, seqGap := plus k.seqGap (gapShown e (keptCell l c).seq) }
           groups := upd s.counters.groups e.group fun k => { k with enqueued := bump k.enqueued } } }) ∧
  (∀ (s : State) (l : Lane) (c : Octets), passLaneData s l c → keysDistinct s →
     ((∀ (i : FlowIdx) (e : FlowEntry), s.flows[i] = some e → ¬(e.lane = l ∧ e.inflow = (keptCell l c).flow)) →
       exec (.cellArrival l.port c) s =
         .next (raise .unknownFlow (BitVec.ofNat 8 l.val) [octet c 1, octet c 2]
           (credited l.port (fun k =>
             { k with valid := bump k.valid, dataArrivals := bump k.dataArrivals,
                      unknownFlows := bump k.unknownFlows }) s))) ∧
     ∀ (i : FlowIdx) (e : FlowEntry), s.flows[i] = some e → e.lane = l → e.inflow = (keptCell l c).flow →
       (e.draining = true →
         exec (.cellArrival l.port c) s =
           .next (flowCounted i (fun k => { k with drainDiscards := bump k.drainDiscards })
             (credited l.port (fun k =>
               { k with valid := bump k.valid, dataArrivals := bump k.dataArrivals }) s))) ∧
       (e.draining = false → ¬passesSequence e (keptCell l c).seq →
         exec (.cellArrival l.port c) s =
           .next (flowCounted i (fun k => { k with stale := bump k.stale })
             (credited l.port (fun k =>
               { k with valid := bump k.valid, dataArrivals := bump k.dataArrivals }) s))) ∧
       (e.draining = false → passesSequence e (keptCell l c).seq →
         (¬withinBudget e →
           exec (.cellArrival l.port c) s =
             .next
               { flowCounted i (fun k =>
                   { k with seqGap := plus k.seqGap (gapShown e (keptCell l c).seq), overBudget := bump k.overBudget })
                   (credited l.port (fun k =>
                     { k with valid := bump k.valid, dataArrivals := bump k.dataArrivals }) s) with
                 flows := upd s.flows i fun _ => some { e with expected := expectedAfter e (keptCell l c).seq } }) ∧
         (withinBudget e → s.groups[e.group].limit ≤ s.groups[e.group].queue.length →
           ∃ t : State, exec (.cellArrival l.port c) s = .next t ∧ t.free = s.free ∧ t.groups = s.groups ∧
             t.flows = upd s.flows i (fun _ => some { e with expected := expectedAfter e (keptCell l c).seq }) ∧
             t.counters.groups =
               upd s.counters.groups e.group (fun k => { k with overflows := bump k.overflows }) ∧
             t.counters.flows = upd s.counters.flows i (fun k =>
               { k with seqGap := plus k.seqGap (gapShown e (keptCell l c).seq), overflow := bump k.overflow }) ∧
             (opensRecord s .groupOverflow (BitVec.ofNat 8 e.group.val) →
               t.notices.waiting = s.notices.waiting ++
                 [openedRecord .groupOverflow (BitVec.ofNat 8 e.group.val)
                   (BitVec.ofNat 8 i.val :: o16 s.groups[e.group].limit) s.timer.cycle])) ∧
         (withinBudget e → s.groups[e.group].queue.length < s.groups[e.group].limit → s.free = 0 →
           ∃ t : State, exec (.cellArrival l.port c) s = .next t ∧ t.free = 0 ∧ t.groups = s.groups ∧
             t.flows = upd s.flows i (fun _ => some { e with expected := expectedAfter e (keptCell l c).seq }) ∧
             t.counters.groups = s.counters.groups ∧
             t.counters.ports = upd s.counters.ports l.port (fun k =>
               { k with valid := bump k.valid, dataArrivals := bump k.dataArrivals,
                        poolDrops := bump k.poolDrops }) ∧
             (opensRecord s .poolExhausted (BitVec.ofNat 8 l.val) →
               t.notices.waiting = s.notices.waiting ++
                 [openedRecord .poolExhausted (BitVec.ofNat 8 l.val) [octet c 1, octet c 2] s.timer.cycle]))))

/-! ### Epoch alignment -/

/-- CELL_ARRIVAL of a valid DATA cell on an aligned lane, by membership and late flag, and by the lane queue's quota
test, the claim of a buffer and the append; a lane whose PAUSE conditions assert the line counts the cell under PAUSE.
-/
def Obligations.AlignedLaneCellByMembership : Prop :=
  ∀ (s : State) (l : Lane) (c : Octets), alignedLaneCell s l c → (octet c 0 = 0x20 ∨ octet c 0 = 0x28) →
    (s.lanes[l].member = .joining →
      exec (.cellArrival l.port c) s =
        .next (laneCounted l (fun k => { k with joiningDiscards := bump k.joiningDiscards })
          (credited l.port (dataUnder s.lanes[l].high) s))) ∧
    ((s.lanes[l].member = .lagging ∨ ∃ e, s.lanes[l].member = .isIn e true) →
      exec (.cellArrival l.port c) s =
        .next (laneCounted l (fun k => { k with lateDiscards := bump k.lateDiscards })
          (credited l.port (dataUnder s.lanes[l].high) s))) ∧
    ∀ e : Epoch, s.lanes[l].member = .isIn e false →
      (s.ports[l.port].profile.quota ≤ s.lanes[l].queue.length →
        exec (.cellArrival l.port c) s =
          .next (arrivalCounted l e
            (credited l.port (fun k =>
              { dataUnder s.lanes[l].high k with quotaDrops := bump k.quotaDrops }) s))) ∧
      (s.lanes[l].queue.length < s.ports[l.port].profile.quota → s.free = 0 →
        exec (.cellArrival l.port c) s =
          .next (raise .poolExhausted (BitVec.ofNat 8 l.val) [octet c 1, octet c 2]
            (arrivalCounted l e
              (credited l.port (fun k =>
                { dataUnder s.lanes[l].high k with poolDrops := bump k.poolDrops }) s)))) ∧
      (s.lanes[l].queue.length < s.ports[l.port].profile.quota → 0 < s.free →
        exec (.cellArrival l.port c) s =
          .next
            { arrivalCounted l e (credited l.port (dataUnder s.lanes[l].high) s) with
              free := s.free - 1
              lanes := upd s.lanes l fun x =>
                { x with
                  queue := x.queue ++ [{ cell := keptCell l c, epoch := e }]
                  high := judgedHigh s.ports[l.port].profile (x.queue.length + 1) x.high } })

/-- CELL_ARRIVAL of a valid MARK on an aligned lane that is WAITING, LAGGING or JOINING: WAITING and LAGGING lanes count
it; on a JOINING lane it starts an EMPTY set, whose record begins with its due count absent (DEDUCED, log entry 5); in a
RUNNING set it joins when it is joinable, ahead of the newest record too, with the records, statuses and due counts that
this gives, and is discarded otherwise; with the window empty it joins at the successor of the last released epoch
alone. -/
def Obligations.MarkOnALaneOutsideTheSet : Prop :=
  ∀ (s : State) (l : Lane) (c : Octets), alignedLaneCell s l c → octet c 0 = 0x10 →
    (s.ports[l.port].profile.tag = none ∨ s.ports[l.port].profile.tag = some (octet c 12)) →
    (s.lanes[l].member = .waiting ∨ s.lanes[l].member = .lagging → exec (.cellArrival l.port c) s = .next (markTaken l s)) ∧
    (s.lanes[l].member = .joining →
      (s.aligner.running = false → (∀ m : Lane, s.lanes[m].member.inSet = false) →
        exec (.cellArrival l.port c) s =
          .next (laneCounted l (fun k => { k with joins := bump k.joins })
            { markTaken l s with
              lanes := upd s.lanes l fun x => { x with member := .isIn (markedEpoch c) false }
              aligner := { s.aligner with
                running := true
                window :=
                  [{ epoch := markedEpoch c, due := none,
                     status := (Vector.replicate 6 LaneStatus.na).set l.val .expected,
                     arrivals := Vector.replicate 6 0 }] } })) ∧
      (s.aligner.running = true →
        (∀ r rest, s.aligner.window = r :: rest →
          (3 < (markedEpoch c - r.epoch).toNat → exec (.cellArrival l.port c) s = .next (markTaken l s)) ∧
          (windowOrdered s → ¬joinableAt s l r (markedEpoch c) →
            exec (.cellArrival l.port c) s = .next (markTaken l s)) ∧
          (windowOrdered s → joinableAt s l r (markedEpoch c) →
            exec (.cellArrival l.port c) s =
              .next (laneCounted l (fun k => { k with joins := bump k.joins })
                { markTaken l s with
                  lanes := upd s.lanes l fun x => { x with member := .isIn (markedEpoch c) false }
                  aligner := { s.aligner with
                    window := joinedWindow s l r (markedEpoch c - r.epoch).toNat } }))) ∧
        (s.aligner.window = [] →
          (s.aligner.lastReleased = some (markedEpoch c - 1) →
            exec (.cellArrival l.port c) s =
              .next (laneCounted l (fun k => { k with joins := bump k.joins })
                { markTaken l s with
                  lanes := upd s.lanes l fun x => { x with member := .isIn (markedEpoch c) false }
                  aligner := { s.aligner with
                    window :=
                      [{ createdRecord s (markedEpoch c) with
                         status := upd (createdRecord s (markedEpoch c)).status l fun _ => .expected }] } })) ∧
          (s.aligner.lastReleased ≠ some (markedEpoch c - 1) →
            exec (.cellArrival l.port c) s = .next (markTaken l s)))))

/-- CELL_ARRIVAL of a valid MARK with the successor epoch on an IN lane that is not late closes the lane's epoch:
CLOSED, the due count D + 1 where there was none, EPOCH_COUNT_MISMATCH when the counts differ; and the lane moves on,
into a record that is there or a new one. With four records in the window the oldest is forced out first:
EPOCH_COUNT_MISMATCH, WINDOW_FORCED, then LANE_LATE and LANE_EJECTED of its late lanes, and it goes as any release
does, counted as forced: EXPECTED lanes lose their cells, are late and may be ejected, CLOSED lanes' cells go to the
classifier; then the new record is created. On a late lane there is no
comparison: the flag stays while the new epoch is released already, and is cleared otherwise. -/
def Obligations.SuccessorMarkClosesEpoch : Prop :=
  (∀ (s : State) (l : Lane) (c : Octets) (e : Epoch), alignedLaneCell s l c → octet c 0 = 0x10 →
    (s.ports[l.port].profile.tag = none ∨ s.ports[l.port].profile.tag = some (octet c 12)) →
    s.lanes[l].member = .isIn e true → markedEpoch c = e + 1 →
    ((∃ x, s.aligner.lastReleased = some x ∧ epochAfter (e + 1) x = false) →
      exec (.cellArrival l.port c) s =
        .next { markTaken l s with lanes := upd s.lanes l fun x => { x with member := .isIn (e + 1) true } }) ∧
    ((∀ x, s.aligner.lastReleased = some x → epochAfter (e + 1) x = true) →
      ((∃ r ∈ s.aligner.window, r.epoch = e + 1) →
        exec (.cellArrival l.port c) s =
          .next { markTaken l s with lanes := upd s.lanes l fun x => { x with member := .isIn (e + 1) false } }) ∧
      ((∀ r ∈ s.aligner.window, r.epoch ≠ e + 1) → s.aligner.window.length < 4 →
        exec (.cellArrival l.port c) s =
          .next { markTaken l s with
            lanes := upd s.lanes l fun x => { x with member := .isIn (e + 1) false }
            aligner := { s.aligner with window := s.aligner.window ++ [createdRecord s (e + 1)] } }))) ∧
  ∀ (s : State) (l : Lane) (c : Octets) (e : Epoch) (n : Nat), alignedLaneCell s l c → octet c 0 = 0x10 →
    (s.ports[l.port].profile.tag = none ∨ s.ports[l.port].profile.tag = some (octet c 12)) →
    s.lanes[l].member = .isIn e false → markedEpoch c = e + 1 →
    (∃ r ∈ s.aligner.window, r.epoch = e) → (∀ r ∈ s.aligner.window, r.epoch = e → r.arrivals[l] = n) →
    (∀ x, s.aligner.lastReleased = some x → epochAfter (e + 1) x = true) →
    ∃ t : State, exec (.cellArrival l.port c) s = .next t ∧
      (s.aligner.window.length < 4 ∨ (∃ r ∈ s.aligner.window, r.epoch = e + 1) →
        t.aligner =
          { s.aligner with
            window :=
              (s.aligner.window.map fun r =>
                if r.epoch = e then
                  { r with status := upd r.status l (fun _ => .closed),
                           due := some (r.due.getD (s.aligner.skew + 1)) }
                else r) ++
              (if s.aligner.window.any (fun r => r.epoch == e + 1) then []
               else
                [{ epoch := e + 1, due := none,
                   status := s.lanes.map fun x => if x.member.inSet then LaneStatus.expected else LaneStatus.na,
                   arrivals := Vector.replicate 6 0 }]) } ∧
        t.lanes = upd s.lanes l (fun x => { x with member := .isIn (e + 1) false }) ∧
        t.counters.lanes =
          upd s.counters.lanes l (fun k =>
            { k with marks := bump k.marks,
                     mismatches := if declaredCount c = n then k.mismatches else bump k.mismatches }) ∧
        (opensRecord s .epochCountMismatch (BitVec.ofNat 8 l.val) →
          t.notices.waiting = s.notices.waiting ++
            (if declaredCount c = n then []
             else
              [openedRecord .epochCountMismatch (BitVec.ofNat 8 l.val)
                (o16 e.toNat ++ o16 (declaredCount c) ++ o16 (min n 65535)) s.timer.cycle])) ∧
        t.free = s.free ∧ t.groups = s.groups ∧ t.flows = s.flows ∧ t.engine = s.engine) ∧
      (s.aligner.window.length = 4 → (∀ r ∈ s.aligner.window, r.epoch ≠ e + 1) →
        t.counters.unit.forcedReleases = bump s.counters.unit.forcedReleases ∧ t.aligner.window.length = 4 ∧
        t.aligner.window.map EpochRec.epoch = (s.aligner.window.drop 1).map EpochRec.epoch ++ [e + 1] ∧
        t.aligner.lastReleased = s.aligner.window.head?.map EpochRec.epoch ∧
        (∀ out : State, out = forcedOut (epochClosed l c e n s) →
          t = { out with aligner := { out.aligner with
            window := out.aligner.window ++
              [{ epoch := e + 1, due := none,
                 status := out.lanes.map fun x => if x.member.inSet then LaneStatus.expected else LaneStatus.na,
                 arrivals := Vector.replicate 6 0 }] } }) ∧
        ∀ r rest, s.aligner.window = r :: rest → windowOrdered s →
          opensRecord s .epochCountMismatch (BitVec.ofNat 8 l.val) → opensRecord s .windowForced 0xFF →
          (∀ m : Lane, opensRecord s .laneLate (BitVec.ofNat 8 m.val) ∧
            opensRecord s .laneEjected (BitVec.ofNat 8 m.val)) →
          (∀ m : Lane, r.status[m] = .closed → ∀ q ∈ s.lanes[m].queue, q.epoch ≠ r.epoch) →
          t.notices.waiting =
            s.notices.waiting ++
            (if declaredCount c = n then []
             else
              [openedRecord .epochCountMismatch (BitVec.ofNat 8 l.val)
                (o16 e.toNat ++ o16 (declaredCount c) ++ o16 (min n 65535)) s.timer.cycle]) ++
            [openedRecord .windowForced 0xFF
              (o16 r.epoch.toNat ++ [BitVec.ofNat 8 (r.status.toList.countP fun x => decide (x = .expected))])
              s.timer.cycle] ++
            lateRecords s r)

/-- CELL_ARRIVAL of a valid MARK with another epoch on an IN lane is a slip: the lane's cells of its epoch are
discarded, its statuses become NA from that record on, LANE_SLIP is raised, and the lane is JOINING, or IN again when
the MARK is joinable: no further from the oldest record than 3, after the last released epoch, and after the newest
record in which the lane is CLOSED. With the window empty the MARK is joinable at the successor of the last released
epoch alone, and a slip that leaves no record and no lane IN leaves the set EMPTY. The arrival count of the slipped
record becomes 0 too (DEDUCED, log entry 6). -/
def Obligations.OtherMarkIsASlip : Prop :=
  (∀ (s : State) (l : Lane) (c : Octets) (e : Epoch) (late : Bool), alignedLaneCell s l c → octet c 0 = 0x10 →
    (s.ports[l.port].profile.tag = none ∨ s.ports[l.port].profile.tag = some (octet c 12)) →
    s.lanes[l].member = .isIn e late → markedEpoch c ≠ e + 1 → s.aligner.running = true →
    ∀ r rest, s.aligner.window = r :: rest →
    ∃ t : State, exec (.cellArrival l.port c) s = .next t ∧
      t.free = s.free + s.lanes[l].queue.countP (fun q => q.epoch == e) ∧
      t.lanes[l].queue = s.lanes[l].queue.filter (fun q => !(q.epoch == e)) ∧
      t.lanes[l].lateCount = s.lanes[l].lateCount ∧ (∀ m : Lane, m ≠ l → t.lanes[m] = s.lanes[m]) ∧
      t.counters.lanes[l].slips = bump s.counters.lanes[l].slips ∧
      t.counters.lanes[l].marks = bump s.counters.lanes[l].marks ∧
      (opensRecord s .laneSlip (BitVec.ofNat 8 l.val) →
        t.notices.waiting = s.notices.waiting ++
          [openedRecord .laneSlip (BitVec.ofNat 8 l.val) (o16 (e + 1).toNat ++ o16 (markedEpoch c).toNat)
            s.timer.cycle]) ∧
      (3 < (markedEpoch c - r.epoch).toNat →
        t.lanes[l].member = .joining ∧ t.counters.lanes[l].joins = s.counters.lanes[l].joins ∧
        t.aligner.window = s.aligner.window.map fun x =>
          dueWhenEmpty s.aligner.skew
            (if x.epoch = e ∨ (epochAfter x.epoch e = true ∧ x.status[l] = .expected) then
              { x with status := upd x.status l (fun _ => .na), arrivals := upd x.arrivals l (fun _ => 0) }
             else x)) ∧
      ((markedEpoch c - r.epoch).toNat ≤ 3 → (∀ x, s.aligner.lastReleased = some x → epochAfter (markedEpoch c) x = true) →
        (∀ x ∈ s.aligner.window, x.status[l] ≠ .closed) →
        t.lanes[l].member = .isIn (markedEpoch c) false ∧
        t.counters.lanes[l].joins = bump s.counters.lanes[l].joins)) ∧
  (∀ (s u : State) (l : Lane) (c : Octets) (e f : Epoch) (late : Bool), alignedLaneCell s l c → octet c 0 = 0x10 →
    (s.ports[l.port].profile.tag = none ∨ s.ports[l.port].profile.tag = some (octet c 12)) →
    s.lanes[l].member = .isIn e late → f = markedEpoch c → f ≠ e + 1 → s.aligner.running = true →
    u = slippedLane l c e s →
    (∀ r rest, u.aligner.window = r :: rest → windowOrdered s →
      (joinableAt u l r f →
        exec (.cellArrival l.port c) s = .next (joinedAt l f (joinedWindow u l r (f - r.epoch).toNat) u)) ∧
      (¬joinableAt u l r f → exec (.cellArrival l.port c) s = .next u)) ∧
    (s.aligner.window = [] →
      (s.aligner.lastReleased = some (f - 1) →
        exec (.cellArrival l.port c) s =
          .next (joinedAt l f
            [{ createdRecord u f with status := upd (createdRecord u f).status l fun _ => .expected }] u)) ∧
      (s.aligner.lastReleased ≠ some (f - 1) →
        ((∃ m : Lane, m ≠ l ∧ s.lanes[m].member.inSet = true) → exec (.cellArrival l.port c) s = .next u) ∧
        ((∀ m : Lane, m ≠ l → s.lanes[m].member.inSet = false) →
          exec (.cellArrival l.port c) s =
            .next { u with aligner := { u.aligner with running := false, lastReleased := none } }))))

/-- SLOT_BOUNDARY at a release point. With one record in the window, due now: it is released and counted by its kind;
each CLOSED lane's queue gives up its cells of the epoch and its late count is 0; each EXPECTED lane loses them, is
late, and is ejected at the late limit; each NA lane is left alone. In a mid-cycle slot that carries FILL, with any
window: every due count falls by one; with none at 0 that is all; otherwise the youngest record at 0 and every older one
are released oldest first, each as `oldestReleased` says: the cells of CLOSED lanes go to the classifier, lane by lane
and in arrival order, with the released epoch. What the classifier does with a released cell: an admitted one moves its
buffer to its group queue with origin ALIGNED(e); a discarded one gives its buffer back; a gap is counted at the
sequence check (DEDUCED, log entry 13). -/
def Obligations.ReleasePointReleasesDueEpoch : Prop :=
  (∀ (s : State) (r : EpochRec), s.phase = .running → s.timer.begun = none → s.engine.requests = [] →
    s.timer.slot + 1 = s.aligner.releaseSlot →
    s.aligner.window = [r] → r.due = some 1 →
    (∀ l : Lane, r.status[l] = .expected → ∃ late, s.lanes[l].member = .isIn r.epoch late) →
    ∃ t : State, exec .slotBoundary s = .next t ∧ t.aligner.window = [] ∧
      (t.aligner.lastReleased = some r.epoch ∨
        t.aligner.lastReleased = none ∧ t.aligner.running = false ∧ ∀ l : Lane, t.lanes[l].member.inSet = false) ∧
      (∀ l : Lane,
        (r.status[l] = .na → t.lanes[l] = s.lanes[l] ∧ t.counters.lanes[l] = s.counters.lanes[l]) ∧
        (r.status[l] = .closed →
          t.lanes[l].queue = s.lanes[l].queue.filter (fun q => !(q.epoch == r.epoch)) ∧
          t.lanes[l].member = s.lanes[l].member ∧ t.lanes[l].lateCount = 0 ∧
          t.counters.lanes[l] = s.counters.lanes[l]) ∧
        (r.status[l] = .expected →
          t.lanes[l].queue = s.lanes[l].queue.filter (fun q => !(q.epoch == r.epoch)) ∧
          t.lanes[l].lateCount = min (s.lanes[l].lateCount + 1) 7 ∧
          t.counters.lanes[l].lates = bump s.counters.lanes[l].lates ∧
          (if s.aligner.lateLimit ≤ min (s.lanes[l].lateCount + 1) 7 then
            t.lanes[l].member = .lagging ∧
            t.counters.lanes[l].ejections = bump s.counters.lanes[l].ejections
           else
            t.lanes[l].member = .isIn r.epoch true ∧
            t.counters.lanes[l].ejections = s.counters.lanes[l].ejections))) ∧
      t.counters.unit.forcedReleases = s.counters.unit.forcedReleases ∧
      (if ∀ l : Lane, r.status[l] = .na then
        t.counters.unit.emptyReleases = bump s.counters.unit.emptyReleases ∧
        t.counters.unit.fullReleases = s.counters.unit.fullReleases ∧
        t.counters.unit.partialReleases = s.counters.unit.partialReleases
       else if ∃ l : Lane, r.status[l] = .expected then
        t.counters.unit.partialReleases = bump s.counters.unit.partialReleases ∧
        t.counters.unit.fullReleases = s.counters.unit.fullReleases ∧
        t.counters.unit.emptyReleases = s.counters.unit.emptyReleases
       else
        t.counters.unit.fullReleases = bump s.counters.unit.fullReleases ∧
        t.counters.unit.partialReleases = s.counters.unit.partialReleases ∧
        t.counters.unit.emptyReleases = s.counters.unit.emptyReleases)) ∧
  (∀ s : State, midCycle s → s.engine.requests = [] → s.timer.slot + 1 = s.aligner.releaseSlot →
    slotEntry s (s.timer.slot + 1) = { kind := .idle, lend := false } →
    ∀ lowered : State,
      lowered = { s with
        timer := { s.timer with slot := s.timer.slot + 1 }
        aligner := { s.aligner with
          window := s.aligner.window.map fun r => { r with due := r.due.map fun d => d - 1 } } } →
      ((∀ r ∈ lowered.aligner.window, r.due ≠ some 0) → exec .slotBoundary s = .next (fillSent lowered)) ∧
      (∀ older y younger, lowered.aligner.window = older ++ y :: younger → y.due = some 0 →
        (∀ r ∈ younger, r.due ≠ some 0) →
        exec .slotBoundary s =
          .next (fillSent
            (releasedTimes (older.length + 1) { lowered with orderDraws := s.orderDraws + 1 })))) ∧
  (∀ (s : State) (e : Epoch) (x : DataCell), keysDistinct s →
    ((∀ (i : FlowIdx) (f : FlowEntry), s.flows[i] = some f → ¬(f.lane = x.lane ∧ f.inflow = x.flow)) →
      classify (.aligned e) x s =
        { raise .unknownFlow (BitVec.ofNat 8 x.lane.val) (o16 x.flow.toNat)
            { s with counters := { s.counters with
              ports := upd s.counters.ports x.lane.port fun k =>
                { k with unknownFlows := bump k.unknownFlows } } } with
          free := s.free + 1 }) ∧
    ∀ (i : FlowIdx) (f : FlowEntry), s.flows[i] = some f → f.lane = x.lane → f.inflow = x.flow →
      (f.draining = true →
        classify (.aligned e) x s =
          { flowCounted i (fun k => { k with drainDiscards := bump k.drainDiscards }) s with free := s.free + 1 }) ∧
      (f.draining = false → ¬passesSequence f x.seq →
        classify (.aligned e) x s =
          { flowCounted i (fun k => { k with stale := bump k.stale }) s with free := s.free + 1 }) ∧
      (f.draining = false → passesSequence f x.seq →
        (¬withinBudget f →
          classify (.aligned e) x s =
            { flowCounted i (fun k =>
                { k with seqGap := plus k.seqGap (gapShown f x.seq), overBudget := bump k.overBudget }) s with
              free := s.free + 1
              flows := upd s.flows i fun _ => some { f with expected := expectedAfter f x.seq } }) ∧
        (withinBudget f → s.groups[f.group].limit ≤ s.groups[f.group].queue.length →
          classify (.aligned e) x s =
            { raise .groupOverflow (BitVec.ofNat 8 f.group.val)
                (BitVec.ofNat 8 i.val :: o16 s.groups[f.group].limit)
                { s with counters := { s.counters with
                  flows := upd s.counters.flows i fun k =>
                    { k with seqGap := plus k.seqGap (gapShown f x.seq), overflow := bump k.overflow }
                  groups := upd s.counters.groups f.group fun k => { k with overflows := bump k.overflows } } } with
              free := s.free + 1
              flows := upd s.flows i fun _ => some { f with expected := expectedAfter f x.seq } }) ∧
        (withinBudget f → s.groups[f.group].queue.length < s.groups[f.group].limit →
          classify (.aligned e) x s =
            { s with
              flows := upd s.flows i fun _ => some
                { f with expected := expectedAfter f x.seq, inQueue := f.inQueue + 1,
                         admitted := min (f.admitted + 1) 65535 }
              groups := upd s.groups f.group fun q =>
                { q with queue := q.queue ++ [{ cell := x, entry := i, origin := .aligned e }] }
              counters := { s.counters with
                flows := upd s.counters.flows i fun k =>
                  { k with admitted := bump k.admitted, seqGap := plus k.seqGap (gapShown f x.seq) }
                groups := upd s.counters.groups f.group fun k => { k with enqueued := bump k.enqueued } } })))

/-! ### Slots -/

/-- SLOT_BOUNDARY whose slot finds nothing to carry: the DATA cell just sent gives back its buffer, and a FILL cell is
sent and counted. SLOT_BOUNDARY whose slot reaches management egress: the oldest reply is sent, and the first held
completion fills its place; with no reply the oldest notice record is sent. Slot 0 is such a slot as any other: the
timer, the budgets, a due count and a tick move first, then a pending swap takes effect, and the entry is that of the
bank now active. All this where no request waits and nothing is released or expires. At a quiet boundary that a request
waits for, the slot is served in the same way and the engine then makes the take that it can, as REQUEST_TAKE does; the
model counts an order drawn (log entry 1). -/
def Obligations.SlotServesManagementOrFill : Prop :=
  (∀ s u : State, slotChosenIn s u → slotFindsNothing u (slotEntry u u.timer.slot) →
     exec .slotBoundary s =
       .next { u with
         free := u.free + inTransmission u
         trunk := { sending := some (List.replicate 64 0), inTransit := none }
         counters :=
           { u.counters with
             unit := { u.counters.unit with fillSlots := bump u.counters.unit.fillSlots } } }) ∧
  (∀ s u : State, slotChosenIn s u → slotReachesManagement u (slotEntry u u.timer.slot) →
     (∀ r rest, u.engine.replies = r :: rest → rest.length < 16 →
       exec .slotBoundary s =
         .next { u with
           free := u.free + inTransmission u
           trunk := { sending := some (replyOctets u.engine.unitAddr r), inTransit := none }
           engine :=
             { u.engine with
               replies := rest ++ (u.engine.held.take 1).map fun h => h.op.completion h.status h.result
               held := u.engine.held.drop 1 }
           counters :=
             { u.counters with
               unit := { u.counters.unit with replySent := bump u.counters.unit.replySent } } }) ∧
     (u.engine.replies = [] → ∀ n rest, u.notices.waiting = n :: rest →
       exec .slotBoundary s =
         .next { u with
           free := u.free + inTransmission u
           trunk := { sending := some (noticeOctets u.engine.unitAddr n), inTransit := none }
           notices := { u.notices with waiting := rest }
           counters :=
             { u.counters with
               unit := { u.counters.unit with noticeSent := bump u.counters.unit.noticeSent } } })) ∧
  (∀ (s : State) (r : Request) (rest : List Request), quietBoundary s → s.engine.requests = r :: rest →
     ∃ t : State, exec .slotBoundary (requesting [] s) = .next t ∧
       exec .slotBoundary s =
         exec .requestTake (requesting (r :: rest) { t with orderDraws := s.orderDraws + 1 }))

/-- SLOT_BOUNDARY whose slot takes the head of a group queue, in the group's own slot or lent to it as borrower: the
cell's header and extension come from its flow entry, whose count falls and whose egress seq advances under RENUMBER; a
lent slot moves the lend pointer past the borrower; the cell's buffer keeps its cell and its origin. The last queued
cell of a DRAINING entry is sent in the same way, and then the entry leaves its place and its DONE is reported. Slot 0
is such a slot as any other, with the budgets renewed and a pending swap made before its entry is read. All this where
no request waits and nothing is released or expires. -/
def Obligations.SlotTakesGroupHead : Prop :=
  ∀ (s u : State) (g : Group) (r : GroupRec) (rest : List GroupRec) (f : FlowEntry) (lent : Bool), slotChosenIn s u →
    u.groups[g].queue = r :: rest → u.flows[r.entry] = some f →
    (if lent then slotIsLent u (slotEntry u u.timer.slot) ∧ isBorrower u g
     else (slotEntry u u.timer.slot).kind = .group g) →
    ∀ left : Option FlowEntry → State,
      (∀ e : Option FlowEntry, left e =
        { u with
          free := u.free + inTransmission u
          trunk :=
            { sending := some (dataOctets f u.timer.cycle u.timer.slot r),
              inTransit := some { cell := r.cell, origin := r.origin } }
          groups := upd u.groups g fun q => { q with queue := rest }
          flows := upd u.flows r.entry fun _ => e
          sched := { u.sched with lendPointer := if lent then g + 1 else u.sched.lendPointer }
          counters :=
            { u.counters with
              flows := upd u.counters.flows r.entry fun k =>
                { k with
                  transmitted := bump k.transmitted
                  stampSkipped :=
                    if f.stamp = .add ∧ r.cell.ext = none ∧ 48 < r.cell.payload.length then bump k.stampSkipped
                    else k.stampSkipped }
              groups := upd u.counters.groups g fun k =>
                { k with transmitted := bump k.transmitted
                         borrowed := if lent then bump k.borrowed else k.borrowed } } }) →
      ((f.draining = true → 2 ≤ f.inQueue) →
        exec .slotBoundary s =
          .next (left (some
            { f with inQueue := f.inQueue - 1,
                     egressSeq := if f.renumber then f.egressSeq + 1 else f.egressSeq }))) ∧
      (f.draining = true → f.inQueue = 1 → ∀ o, onlyOperation u (.flow r.entry) o →
        exec .slotBoundary s = .next (reported o .done [] (left none)))

/-- The layouts of the cells that the part builds: MREPLY, NOTICE and DATA, each of 64 octets with a valid header. -/
def Obligations.EgressCellLayouts : Prop :=
  (∀ (u : Byte) (r : Reply), r.result.length ≤ 52 →
    (replyOctets u r).length = 64 ∧ headerValid (replyOctets u r) = true ∧
    (replyOctets u r).take 7 = [0x40, 0, 0, 0, 0, BitVec.ofNat 8 (4 + r.result.length), u] ∧
    (replyOctets u r).drop 8 =
      [r.code, r.tag, r.status.code, BitVec.ofNat 8 r.port.val] ++ r.result ++ List.replicate (52 - r.result.length) 0) ∧
  (∀ (u : Byte) (n : NoticeRec), n.detail.length ≤ 6 →
    (noticeOctets u n).length = 64 ∧ headerValid (noticeOctets u n) = true ∧
    (noticeOctets u n).take 7 = [0x50, 0, 0, 0, 0, BitVec.ofNat 8 (8 + n.detail.length), u] ∧
    (noticeOctets u n).drop 8 =
      [n.kind.code, n.subject] ++ o16 n.occurrences ++ o32 n.firstCycle.toNat ++ n.detail ++
        List.replicate (48 - n.detail.length) 0) ∧
  (∀ (f : FlowEntry) (y : CycleNum) (n : Slot) (r : GroupRec) (seq : Seq),
    seq = (if f.renumber then f.egressSeq else r.cell.seq) →
    r.cell.payload.length ≤ (if r.cell.ext = none then 56 else 48) → (∀ x, r.cell.ext = some x → x.length = 8) →
    (dataOctets f y n r).length = 64 ∧ headerValid (dataOctets f y n r) = true ∧
    ((f.stamp = .strip ∨ r.cell.ext = none ∧ (f.stamp = .keep ∨ 48 < r.cell.payload.length)) →
      (dataOctets f y n r).take 7 =
        [0x20] ++ o16 f.outflow.toNat ++ o16 seq.toNat ++ [BitVec.ofNat 8 r.cell.payload.length, 0] ∧
      (dataOctets f y n r).drop 8 = r.cell.payload ++ List.replicate (56 - r.cell.payload.length) 0) ∧
    (∀ x, f.stamp = .keep → r.cell.ext = some x →
      (dataOctets f y n r).take 7 =
        [0x28] ++ o16 f.outflow.toNat ++ o16 seq.toNat ++ [BitVec.ofNat 8 r.cell.payload.length, 0] ∧
      (dataOctets f y n r).drop 8 = x ++ r.cell.payload ++ List.replicate (48 - r.cell.payload.length) 0) ∧
    (f.stamp = .add → r.cell.payload.length ≤ 48 →
      (dataOctets f y n r).take 7 =
        [0x28] ++ o16 f.outflow.toNat ++ o16 seq.toNat ++ [BitVec.ofNat 8 r.cell.payload.length, 0] ∧
      (dataOctets f y n r).drop 8 =
        o32 y.toNat ++ [BitVec.ofNat 8 n.val] ++
        (match r.origin with
         | .aligned e => [1] ++ o16 e.toNat
         | .pass => [0, 0, 0]) ++
        r.cell.payload ++ List.replicate (48 - r.cell.payload.length) 0))

/-- SLOT_BOUNDARY moves the timer, where no pulse has moved it at this boundary already: the next slot, and at a cycle
start slot 0 of the next cycle with the tick count raised. With no request waiting: a pending swap takes effect at a
cycle start and at no other boundary, and not at one that a pulse taken before the SCHED_SWAP has begun; a tick counts
the owner's lease and the snapshot's lifetime down; a release point lowers the due counts of a window with none due at
it, by R as it stands or as it stood at the pulse, and no other boundary changes the aligner or a lane; where
nothing is released, a cycle start renews the budget of every flow entry and no other boundary does; ports, banks,
follower and unit address stay. In initialisation it sends FILL and counts the slot time, and the last of the 65,536 is
INIT_END (log entry 4); while RESET_N is low it does nothing. That one command is the whole boundary, but for a pulse
taken at it, is the model's choice (log entries 1, 8 and 11). -/
def Obligations.BoundaryMovesTheTimer : Prop :=
  ∀ s : State,
    (s.phase = .running → ∃ t : State, exec .slotBoundary s = .next t ∧
      t.timer =
        (if s.timer.begun ≠ none then { s.timer with begun := none }
         else if s.timer.slot = 63 then
          { slot := 0, cycle := s.timer.cycle + 1, tick := s.timer.tick + 1, begun := none }
         else { s.timer with slot := s.timer.slot + 1 }) ∧
      t.phase = s.phase ∧ t.pending = s.pending ∧
      (s.engine.requests = [] →
        t.sched.bankA = s.sched.bankA ∧ t.sched.bankB = s.sched.bankB ∧
        (scheduleStarts s → s.sched.swapPending = true →
          t.sched.active ≠ s.sched.active ∧ t.sched.swapPending = false) ∧
        (¬scheduleStarts s ∨ s.sched.swapPending = false →
          t.sched.active = s.sched.active ∧ t.sched.swapPending = s.sched.swapPending) ∧
        (tickFalls s →
          t.engine.owner =
            (s.engine.owner.bind fun o =>
              if o.remaining ≤ 1 then none else some { o with remaining := o.remaining - 1 }) ∧
          t.snapshot =
            (s.snapshot.bind fun x =>
              if x.remaining ≤ 1 then none else some { x with remaining := x.remaining - 1 }) ∧
          t.counters.unit.snapExpiries =
            (if s.snapshot.isSome ∧ t.snapshot = none then bump s.counters.unit.snapExpiries
             else s.counters.unit.snapExpiries)) ∧
        (¬tickFalls s →
          t.engine.owner = s.engine.owner ∧ t.snapshot = s.snapshot ∧
          t.counters.unit.snapExpiries = s.counters.unit.snapExpiries) ∧
        (releaseFalls s → releasesNone s →
          t.lanes = s.lanes ∧ t.aligner = { s.aligner with window := dueLowered s.aligner.window }) ∧
        (¬releaseFalls s → t.lanes = s.lanes ∧ t.aligner = s.aligner) ∧
        (releasesNone s → ∀ i : FlowIdx,
          (s.flows[i] = none → t.flows[i] = none) ∧
          ∀ f, s.flows[i] = some f →
            (f.draining = true ∧ t.flows[i] = none) ∨
            ∃ e, t.flows[i] = some e ∧ e.admitted = (if cycleStarts s then 0 else f.admitted)) ∧
        t.engine.unitAddr = s.engine.unitAddr ∧ t.engine.requests = [] ∧
        t.ports = s.ports ∧ t.follower = s.follower ∧ t.notices.enabled = s.notices.enabled)) ∧
    (∀ n : Nat, s.phase = .initialising n →
      (n + 1 < 65536 →
        exec .slotBoundary s =
          .next { s with phase := .initialising (n + 1),
                         trunk := { s.trunk with sending := some (List.replicate 64 0) } }) ∧
      (65536 ≤ n + 1 → exec .slotBoundary s = exec .initEnd s)) ∧
    (s.phase = .heldInReset → exec .slotBoundary s = .next s)

/-- LEASE_EXPIRY and SNAP_EXPIRY, the two blocks' shares of a tick: nothing with no owner or no snapshot; remaining
ticks falls by one; and at 0 the owner is absent and OWNER_LOST is raised with cause 01h, or the snapshot ends, its
expiry is counted and SNAP_EXPIRED is raised with the former holder. That each share also runs alone is the model's
choice (log entry 9). -/
def Obligations.TicksCountDownLeaseAndLifetime : Prop :=
  ∀ s : State,
    (s.engine.owner = none → exec .leaseExpiry s = .next s) ∧
    (∀ o, s.engine.owner = some o →
      (∀ n, o.remaining = n + 2 →
        exec .leaseExpiry s =
          .next { s with engine := { s.engine with owner := some { o with remaining := n + 1 } } }) ∧
      (o.remaining = 1 →
        exec .leaseExpiry s =
          .next (raise .ownerLost 0xFF [BitVec.ofNat 8 o.port.val, 0x01]
            { s with engine := { s.engine with owner := none } }))) ∧
    (s.snapshot = none → exec .snapExpiry s = .next s) ∧
    (∀ x, s.snapshot = some x →
      (∀ n, x.remaining = n + 2 →
        exec .snapExpiry s = .next { s with snapshot := some { x with remaining := n + 1 } }) ∧
      (x.remaining = 1 →
        exec .snapExpiry s =
          .next (raise .snapExpired 0xFF [BitVec.ofNat 8 x.holder.val]
            { s with
              snapshot := none
              counters := { s.counters with
                unit := { s.counters.unit with snapExpiries := bump s.counters.unit.snapExpiries } } })))

/-- SWAP_TAKE_EFFECT, DRAIN_END and HELD_COMPLETION_APPEND: a pending swap exchanges the banks' roles and is reported
DONE with the bank now active; an entry that is DRAINING with no cell queued leaves its place and is reported DONE; the
first held completion takes a free place. Where the condition fails nothing changes. That each share also runs alone is
the model's choice (log entry 9). -/
def Obligations.BlocksReportTheEndOfOperations : Prop :=
  ∀ s : State,
    (s.sched.swapPending = false → exec .swapTakeEffect s = .next s) ∧
    (s.sched.swapPending = true → ∀ o,
      (s.sched.active = .a → onlyOperation s (.bank .b) o →
        exec .swapTakeEffect s =
          .next (reported o .done [0x01] { s with sched := { s.sched with active := .b, swapPending := false } })) ∧
      (s.sched.active = .b → onlyOperation s (.bank .a) o →
        exec .swapTakeEffect s =
          .next (reported o .done [0x00] { s with sched := { s.sched with active := .a, swapPending := false } }))) ∧
    (∀ i : FlowIdx,
      (∀ e, s.flows[i] = some e → e.draining = true → e.inQueue = 0 → ∀ o, onlyOperation s (.flow i) o →
        exec (.drainEnd i) s = .next (reported o .done [] { s with flows := upd s.flows i fun _ => none })) ∧
      ((∀ e, s.flows[i] = some e → e.draining = true → e.inQueue ≠ 0) → exec (.drainEnd i) s = .next s)) ∧
    (s.engine.held = [] ∨ 16 ≤ s.engine.replies.length → exec .heldCompletionAppend s = .next s) ∧
    (∀ h rest, s.engine.held = h :: rest → s.engine.replies.length < 16 →
      exec .heldCompletionAppend s =
        .next (answered h.op.port h.op.code h.op.tag h.status h.result
          { s with engine := { s.engine with held := rest } }))

/-- CREF_PULSE and ARM_COMPLETE, the pulse's share of a boundary: the pulse is counted, its phase error recorded, and
the timer moved to the slot that the boundary begins; and it acts by follow mode. FREE, an unarmed ONCE and a phase
error inside the window do no more; WATCH outside the window raises REF_DRIFT; ALWAYS outside it cuts the cycle and
raises REF_REALIGNED. An armed ONCE, by either command: the armed flag is clear, the mode is WATCH and DONE gives the
phase error; a phase error that is not 0 cuts the cycle, whatever the window. A swap that is pending then takes effect
where the boundary begins slot 0. The SLOT_BOUNDARY that follows hands the boundary on from there: a SCHED_SWAP taken
between the two waits for the following cycle start, and the boundary is a release point by R as R stood at the pulse. A
part that is not running, or has taken a pulse at this boundary, takes none, and ARM_COMPLETE with no arm waiting
changes nothing. That the pulse's share is a command before the rest of its boundary, with the schedule's share of its
cycle start, is the model's choice (log entries 9 and 11). -/
def Obligations.PulseActsByFollowMode : Prop :=
  (∀ s : State, ¬pulseTaken s → exec .crefPulse s = .next s) ∧
  (∀ s t : State, pulseTaken s → pulseLeaves s t →
     (¬swapWaits t → exec .crefPulse s = .next t) ∧
     (swapWaits t → exec .crefPulse s = exec .swapTakeEffect t)) ∧
  (∀ s : State, ¬armWaiting s → exec .armComplete s = .next s) ∧
  (∀ (s t : State) (o : Operation), armWaiting s → onlyOperation s .follower o → armLeaves s o t →
     ∀ c ∈ [Instr.crefPulse, Instr.armComplete],
       (¬swapWaits t → exec c s = .next t) ∧ (swapWaits t → exec c s = exec .swapTakeEffect t)) ∧
  (∀ s : State, pulseTaken s →
     (scheduleStarts s → s.sched.swapPending = false) →
     exec .slotBoundary s = exec .slotBoundary { s with timer := movedTimer False s }) ∧
  (∀ s : State, s.phase = .running → s.timer.begun ≠ none → s.engine.requests = [] →
     ∃ t : State, exec .slotBoundary s = .next t ∧
       t.sched.active = s.sched.active ∧ t.sched.swapPending = s.sched.swapPending ∧
       (s.timer.begun = some false → t.aligner = s.aligner ∧ t.lanes = s.lanes))

/-! ### Notices -/

/-- A raise: with the kind enabled it opens a record at the tail, or adds to the occurrences of the record of its kind
and subject, up to 65535; with the kind disabled it is counted as suppressed and nothing else. -/
def Obligations.RaiseOpensAddsOrIsSuppressed : Prop :=
  ∀ (s : State) (k : NoticeKind) (subject : Byte) (detail : Octets),
    (opensRecord s k subject →
      raise k subject detail s =
        { s with notices :=
            { s.notices with
              waiting := s.notices.waiting ++ [openedRecord k subject detail s.timer.cycle] } }) ∧
    (s.notices.enabled[k.place] = true → ∀ older n younger, s.notices.waiting = older ++ n :: younger →
      n.kind = k → n.subject = subject → (∀ x ∈ older ++ younger, ¬(x.kind = k ∧ x.subject = subject)) →
      raise k subject detail s =
        { s with notices :=
            { s.notices with
              waiting := older ++ { n with occurrences := min (n.occurrences + 1) 65535 } :: younger } }) ∧
    (s.notices.enabled[k.place] = false →
      raise k subject detail s =
        { s with counters := { s.counters with
            unit := { s.counters.unit with suppressed := bump s.counters.unit.suppressed } } })

/-! ### Requests -/

/-- A management command of a port that is UP and permitted is REQUEST_TAKE on its request when the engine takes at
once; it waits at the tail of the request queue when the engine cannot, and is counted as an overrun when all 8 places
are taken. A command of a port that is not permitted is counted and discarded; one of a port that is not UP, or of a
part that is not running, does nothing (how the command stands for a request of its port is the model's choice, log
entry 10). -/
def Obligations.CommandsAreTakenOrWait : Prop :=
  ∀ (c : Instr) (r : Request) (s : State), requestOfCommand c = some r →
    (takesAtOnce s r.port → exec c s = exec .requestTake (requesting [r] s)) ∧
    (s.phase = .running → s.ports[r.port].rx.st = .up →
      (s.ports[r.port].profile.mgmt = true → ¬engineFree s →
        (s.engine.requests.length < 8 → exec c s = .next (requesting (s.engine.requests ++ [r]) s)) ∧
        (8 ≤ s.engine.requests.length →
          exec c s =
            .next { s with counters := { s.counters with
              ports := upd s.counters.ports r.port fun k => { k with mreqOverrun := bump k.mreqOverrun } } })) ∧
      (s.ports[r.port].profile.mgmt = false →
        exec c s =
          .next { s with counters := { s.counters with
            ports := upd s.counters.ports r.port fun k => { k with mreqNotPermitted := bump k.mreqNotPermitted } } })) ∧
    (s.phase ≠ .running ∨ s.ports[r.port].rx.st ≠ .up → exec c s = .next s)

/-- REQUEST_TAKE waits with no request, with no free place in the reply queue or with a completion held; otherwise it
takes the oldest request: an owner's request renews the lease, and an unknown code is answered BAD_COMMAND. Requests
behind it change nothing in the take, and stay, but for those that a UNIT_RESET empties. -/
def Obligations.TakeNeedsAPlaceAndNoHeldCompletion : Prop :=
  ∀ s : State,
    (s.engine.requests = [] ∨ 16 ≤ s.engine.replies.length ∨ s.engine.held ≠ [] →
      exec .requestTake s = .next s) ∧
    (∀ r rest, s.engine.requests = r :: rest → s.engine.replies.length < 16 → s.engine.held = [] →
      (∀ x ∈ [0x01, 0x02, 0x03, 0x04, 0x05, 0x10, 0x11, 0x12, 0x18, 0x19, 0x1A, 0x20, 0x21, 0x22, 0x23, 0x24, 0x30,
              0x31, 0x32, 0x33, 0x34, 0x35, 0x36, 0x40, 0x41, 0x42, 0x50, 0x51, 0x52, 0x53, 0x60, 0x61],
        r.code ≠ x) →
      exec .requestTake s =
        .next (answered r.port r.code r.tag .badCommand []
          { leaseRenewed r.port s with
            engine := { (leaseRenewed r.port s).engine with requests := rest } })) ∧
    (∀ r rest, s.engine.requests = r :: rest → s.engine.replies.length < 16 → s.engine.held = [] →
      ∃ t : State, exec .requestTake (requesting [r] s) = .next t ∧
        exec .requestTake s =
          .next (requesting (if r.code = 0x05 ∧ r.args = [] ∧ s.engine.owner.map Ownership.port = some r.port then []
             else rest) t))

/-- Every management command with an argument length that does not fit it is answered BAD_ARGUMENT, from any port;
nothing else changes but the lease renewal. The fitting length of SCHED_WRITE and NOTICE_ENABLE follows their count
octet, and that of FLOW_GET its selector. -/
def Obligations.WrongLengthIsBadArgument : Prop :=
  ∀ (s : State) (p : Port) (tag : Byte) (a : Octets), takesAtOnce s p →
    ∀ x ∈ ([(.identify p tag a, a.length = 0), (.claim p tag a, a.length = 1), (.release p tag a, a.length = 0),
        (.setUnit p tag a, a.length = 1), (.unitReset p tag a, a.length = 0), (.laneGet p tag a, a.length = 1),
        (.laneSet p tag a, a.length = 13), (.laneRestart p tag a, a.length = 1), (.alignGet p tag a, a.length = 1),
        (.alignSet p tag a, a.length = 3), (.alignRejoin p tag a, a.length = 1), (.flowAdd p tag a, a.length = 11),
        (.flowModify p tag a, a.length = 11), (.flowRemove p tag a, a.length = 3),
        (.flowGet p tag a, (a.length = 4 ∧ octet a 0 = 0) ∨ (a.length = 2 ∧ octet a 0 = 1)),
        (.flowList p tag a, a.length = 1),
        (.schedWrite p tag a, 2 ≤ a.length ∧ a.length = 2 + 2 * (octet a 1).toNat),
        (.schedRead p tag a, a.length = 3), (.schedSwap p tag a, a.length = 0), (.schedCancel p tag a, a.length = 0),
        (.groupSet p tag a, a.length = 4), (.groupGet p tag a, a.length = 1), (.groupFlush p tag a, a.length = 1),
        (.cycleSet p tag a, a.length = 2), (.cycleArm p tag a, a.length = 0), (.cycleGet p tag a, a.length = 0),
        (.snapTake p tag a, a.length = 2), (.snapRead p tag a, a.length = 4), (.snapDrop p tag a, a.length = 0),
        (.countClear p tag a, a.length = 3),
        (.noticeEnable p tag a, 2 ≤ a.length ∧ a.length = 2 + (octet a 1).toNat),
        (.noticeGet p tag a, a.length = 0)] : List (Instr × Prop)),
      ¬x.2 → ∀ r, requestOfCommand x.1 = some r →
        exec x.1 s = .next (answered p r.code tag .badArgument [] (leaseRenewed p s))

/-- An owner command from a port that does not own the unit is refused NOT_OWNER when its argument length fits, and
BAD_ARGUMENT when it does not; nothing else changes. -/
def Obligations.OwnerCommandsAreRefusedToOthers : Prop :=
  ∀ (s : State) (p : Port) (tag : Byte) (a : Octets), takesAtOnce s p → ¬ownedBy s p →
    (∀ c ∈ [Instr.release p tag a, .unitReset p tag a, .schedSwap p tag a, .schedCancel p tag a, .cycleArm p tag a],
      ∀ r, requestOfCommand c = some r →
      exec c s = .next (answered p r.code tag (if a.length = 0 then .notOwner else .badArgument) [] s)) ∧
    (∀ c ∈ [Instr.setUnit p tag a, .laneRestart p tag a, .alignRejoin p tag a, .groupFlush p tag a],
      ∀ r, requestOfCommand c = some r →
      exec c s = .next (answered p r.code tag (if a.length = 1 then .notOwner else .badArgument) [] s)) ∧
    (∀ c ∈ [Instr.alignSet p tag a, .flowRemove p tag a, .countClear p tag a],
      ∀ r, requestOfCommand c = some r →
      exec c s = .next (answered p r.code tag (if a.length = 3 then .notOwner else .badArgument) [] s)) ∧
    (∀ c ∈ [Instr.flowAdd p tag a, .flowModify p tag a], ∀ r, requestOfCommand c = some r →
      exec c s = .next (answered p r.code tag (if a.length = 11 then .notOwner else .badArgument) [] s)) ∧
    exec (.cycleSet p tag a) s =
      .next (answered p 0x40 tag (if a.length = 2 then .notOwner else .badArgument) [] s) ∧
    exec (.groupSet p tag a) s =
      .next (answered p 0x34 tag (if a.length = 4 then .notOwner else .badArgument) [] s) ∧
    exec (.laneSet p tag a) s =
      .next (answered p 0x11 tag (if a.length = 13 then .notOwner else .badArgument) [] s) ∧
    exec (.schedWrite p tag a) s =
      .next (answered p 0x30 tag
        (if 2 ≤ a.length ∧ a.length = 2 + 2 * (octet a 1).toNat then .notOwner else .badArgument) [] s) ∧
    exec (.noticeEnable p tag a) s =
      .next (answered p 0x60 tag
        (if 2 ≤ a.length ∧ a.length = 2 + (octet a 1).toNat then .notOwner else .badArgument) [] s) ∧
    (octet a 0 ≠ 0 →
      exec (.snapTake p tag a) s =
        .next (answered p 0x50 tag (if a.length = 2 then .notOwner else .badArgument) [] s))

/-! ### Ownership and unit commands -/

/-- IDENTIFY, CYCLE_GET and NOTICE_GET from any port: the results octet by octet, with no change but the lease renewal.
-/
def Obligations.UnitTimerAndNoticesAreReported : Prop :=
  ∀ (s : State) (p : Port) (tag : Byte), takesAtOnce s p →
    exec (.identify p tag []) s =
      .next (answered p 0x01 tag .ok
        [0x0B, 0x3E, 0x5A, 0x02, 0x66, 0x01, s.engine.unitAddr, 6, 0x04, 0x00, 0x01, 0x00, 16, 64, 4]
        (leaseRenewed p s)) ∧
    exec (.cycleGet p tag []) s =
      .next (answered p 0x42 tag .ok
        ([match s.follower.mode with
          | .free => 0x00
          | .watch => 0x01
          | .once => 0x02
          | .always => 0x03,
          BitVec.ofNat 8 s.follower.window, if s.follower.armed then 0x01 else 0x00,
          BitVec.ofNat 8 s.timer.slot.val] ++
          o32 s.timer.cycle.toNat ++ o16 s.timer.tick.toNat ++
          (match s.follower.lastPhase with
           | some x => [0x01, BitVec.ofInt 8 x]
           | none => [0x00, 0x00]))
        (leaseRenewed p s)) ∧
    exec (.noticeGet p tag []) s =
      .next (answered p 0x61 tag .ok
        ([BitVec.ofNat 8 s.notices.waiting.length] ++
          s.notices.enabled.toList.map (fun b => if b then (0x01 : Byte) else 0x00) ++
          (match s.notices.waiting with
           | [] => [0x00, 0x00, 0x00, 0x00, 0x00]
           | n :: _ => [0x01, n.kind.code, n.subject] ++ o16 n.occurrences))
        (leaseRenewed p s))

/-- CLAIM: refused to a port that is not UP or not permitted when its request is taken; it grants the unit, or renews
the claimant's own lease, for 64 ticks or the ticks given; and it is refused OWNED while another port owns the unit,
with that port and its remaining ticks. SET_UNIT: an address of 255 is refused; any other becomes the unit address. -/
def Obligations.ClaimAndSetUnit : Prop :=
  (∀ (s : State) (p : Port) (tag n : Byte), waitsAlone s ⟨p, 0x02, tag, [n]⟩ →
     s.ports[p].rx.st ≠ .up ∨ s.ports[p].profile.mgmt = false →
     exec .requestTake s =
       .next (answered p 0x02 tag .badArgument [] (leaseRenewed p (requesting [] s)))) ∧
  (∀ (s : State) (p : Port) (tag n : Byte), takesAtOnce s p →
     (s.engine.owner = none ∨ ownedBy s p → ∀ lease : Nat, lease = (if n = 0 then 64 else n.toNat) →
       exec (.claim p tag [n]) s =
         .next (answered p 0x02 tag .ok [BitVec.ofNat 8 p.val, BitVec.ofNat 8 lease]
           { s with engine :=
             { s.engine with owner := some { port := p, lease := lease, remaining := lease } } })) ∧
     (∀ o, s.engine.owner = some o → o.port ≠ p →
       exec (.claim p tag [n]) s =
         .next (answered p 0x02 tag .owned [BitVec.ofNat 8 o.port.val, BitVec.ofNat 8 o.remaining] s))) ∧
  (∀ (s : State) (p : Port) (tag u : Byte), takesAtOnce s p → ownedBy s p →
     (u = 255 → exec (.setUnit p tag [u]) s = .next (answered p 0x04 tag .badArgument [] (leaseRenewed p s))) ∧
     (u ≠ 255 →
       exec (.setUnit p tag [u]) s =
         .next (answered p 0x04 tag .ok []
           { leaseRenewed p s with engine := { (leaseRenewed p s).engine with unitAddr := u } })))

/-- RELEASE: OK with an empty result from the owner's port, and the unit has no owner; NOT_OWNER from any other port.
Nothing else changes. -/
def Obligations.ReleaseEndsOwnership : Prop :=
  ∀ (s : State) (p : Port) (tag : Byte), takesAtOnce s p →
    (ownedBy s p →
      exec (.release p tag []) s =
        .next (answered p 0x03 tag .ok [] { s with engine := { s.engine with owner := none } })) ∧
    (¬ownedBy s p → exec (.release p tag []) s = .next (answered p 0x03 tag .notOwner [] s))

/-- UNIT_RESET: what each block resets and what it keeps. -/
def Obligations.UnitResetKeepsConfiguration : Prop :=
  ∀ (s : State) (p : Port) (tag : Byte), takesAtOnce s p → ownedBy s p →
    exec (.unitReset p tag []) s =
      .next { s with
        ports := s.ports.map fun x => { x with rx := { x.rx with level := 0 } }
        free := s.free + (lanesHold s + groupsHold s)
        lanes := Vector.ofFn fun l : Lane =>
          { queue := [], high := judgedHigh s.ports[l.port].profile 0 s.lanes[l].high,
            member :=
              (match s.lanes[l].member with
               | .isIn _ _ => .joining
               | .lagging => .joining
               | .joining => .joining
               | .waiting => .waiting),
            lateCount := 0 }
        groups := s.groups.map fun q => { q with queue := [] }
        aligner := { s.aligner with running := false, lastReleased := none, window := [] }
        flows := s.flows.map fun e => e.bind fun x =>
          if x.draining then none else some { x with expected := none, egressSeq := 0, admitted := 0, inQueue := 0 }
        sched := { s.sched with swapPending := false, lendPointer := 0 }
        follower := { s.follower with armed := false }
        counters := Counters.zero
        snapshot := none
        notices := { s.notices with waiting := [] }
        engine :=
          { unitAddr := s.engine.unitAddr, owner := (leaseRenewed p s).engine.owner, requests := [],
            replies := [{ port := p, code := 0x05, tag := tag, status := .ok, result := [] }],
            inFlight := [], held := [] } }

/-! ### Lane commands -/

/-- LANE_GET: the 20 octets of a port's profile and state, with the PAUSE line by its two conditions and zeros in the
lane-queue and PAUSE fields of T-in; a port above 6 is refused. That the PAUSE octet follows the conditions as they
stand at the take, with no wait for a clock edge, is the model's choice (log entry 3). -/
def Obligations.LaneGetReportsThePort : Prop :=
  ∀ (s : State) (p : Port) (tag : Byte), takesAtOnce s p →
    (∀ n : Byte, 6 < n.toNat →
      exec (.laneGet p tag [n]) s = .next (answered p 0x10 tag .badArgument [] (leaseRenewed p s))) ∧
    ∀ q : Port,
      exec (.laneGet p tag [BitVec.ofNat 8 q.val]) s =
        .next (answered p 0x10 tag .ok
          ([BitVec.ofNat 8 q.val, if s.ports[q].profile.enabled then 1 else 0,
            match s.ports[q].profile.mode with
            | .pass => 0
            | .aligned => 1,
            if s.ports[q].profile.mgmt then 1 else 0] ++
            o16 s.ports[q].profile.quota ++ o16 s.ports[q].profile.high ++ o16 s.ports[q].profile.low ++
            [BitVec.ofNat 8 s.ports[q].profile.limit] ++
            (match s.ports[q].profile.tag with
             | none => [0, 0]
             | some x => [1, x]) ++
            [match s.ports[q].rx.st with
             | .off => 0
             | .hunt => 1
             | .check => 2
             | .up => 3,
             BitVec.ofNat 8 s.ports[q].rx.count, BitVec.ofNat 8 s.ports[q].rx.level] ++
            (match q.lane? with
             | none => [0, 0, 0, 0]
             | some l =>
               o16 s.lanes[l].queue.length ++
               ([if s.lanes[l].high then 1 else 0,
                 if s.ports[q].rx.st ≠ .up ∨ (s.ports[q].profile.mode = .aligned ∧ s.lanes[l].high = true) then 1
                 else 0] : Octets)))
          (leaseRenewed p s))

/-- LANE_SET on a lane, with a record whose values are legal: SELF_LOCKOUT, then QUOTA_IN_USE where it is no restart;
without a restart the record is replaced and the hysteresis state judged where quota or watermarks change; as a restart
a port not UP begins its search anew or is OFF, and one that is UP leaves UP after the OK. LANE_SET refused BAD_ARGUMENT
by each of its value checks, and LANE_SET on T-in, which takes enabled and the budget limit alone, and restarts or
disables T-in where enabled changes. That a search that begins anew has no octets in hand is DEDUCED (log entry 12). -/
def Obligations.LaneSetChecksAndReplacesTheRecord : Prop :=
  (∀ (s : State) (p : Port) (tag : Byte) (l : Lane) (x y : Profile), takesAtOnce s p → ownedBy s p →
     x.related → 16 ≤ x.limit → x.limit ≤ 255 → y = s.ports[l.port].profile →
     ∀ a : Octets, a = BitVec.ofNat 8 l.val :: profileArguments x →
     (p = l.port → x.mgmt = false →
       exec (.laneSet p tag a) s = .next (answered p 0x11 tag .selfLockout [] (leaseRenewed p s))) ∧
     (¬(p = l.port ∧ x.mgmt = false) →
       (x.enabled = y.enabled → x.mode = y.mode →
         (x.quota < s.lanes[l].queue.length →
           exec (.laneSet p tag a) s = .next (answered p 0x11 tag .quotaInUse [] (leaseRenewed p s))) ∧
         (s.lanes[l].queue.length ≤ x.quota →
           exec (.laneSet p tag a) s =
             .next (answered p 0x11 tag .ok []
               { leaseRenewed p s with
                 ports := upd s.ports l.port fun z => { z with profile := x }
                 lanes := upd s.lanes l fun z =>
                   { z with high :=
                       if x.quota = y.quota ∧ x.high = y.high ∧ x.low = y.low then z.high
                       else judgedHigh x z.queue.length z.high } }))) ∧
       (¬(x.enabled = y.enabled ∧ x.mode = y.mode) →
         (s.ports[l.port].rx.st ≠ .up →
           exec (.laneSet p tag a) s =
             .next (answered p 0x11 tag .ok []
               { leaseRenewed p s with
                 free := s.free + s.lanes[l].queue.length
                 ports := upd s.ports l.port fun z =>
                   { profile := x
                     rx :=
                       if x.enabled then Receiver.fresh .hunt
                       else if z.rx.st = .off then z.rx
                       else Receiver.fresh .off }
                 lanes := upd s.lanes l fun z => { z with queue := [], high := judgedHigh x 0 z.high } })) ∧
         (s.ports[l.port].rx.st = .up →
           ∃ t : State, exec (.laneSet p tag a) s = .next t ∧
             leftUp l.port (if x.enabled then .restart else .disabled)
               (answered p 0x11 tag .ok []
                 { leaseRenewed p s with ports := upd s.ports l.port fun z => { z with profile := x } }) t ∧
             (opensRecord s .laneDown (BitVec.ofNat 8 l.val) → opensRecord s .ownerLost 0xFF →
               t.notices.waiting =
                 s.notices.waiting ++
                 [openedRecord .laneDown (BitVec.ofNat 8 l.val)
                   [if x.enabled then 0x02 else 0x03, BitVec.ofNat 8 s.ports[l.port].rx.level] s.timer.cycle] ++
                 (if p = l.port then [openedRecord .ownerLost 0xFF [BitVec.ofNat 8 p.val, 0x02] s.timer.cycle]
                  else [])))))) ∧
  (∀ (s : State) (p : Port) (tag : Byte), takesAtOnce s p → ownedBy s p →
     (∀ a : Octets, a.length = 13 →
       (6 < (octet a 0).toNat ∨ 1 < (octet a 1).toNat ∨ (octet a 10).toNat < 16 ∨
         ((octet a 0).toNat ≤ 5 ∧
           (1 < (octet a 2).toNat ∨ 1 < (octet a 3).toNat ∨ 1 < (octet a 11).toNat ∨
             ∃ x : Profile, x.quota = (octet a 4).toNat * 256 + (octet a 5).toNat ∧
               x.high = (octet a 6).toNat * 256 + (octet a 7).toNat ∧
               x.low = (octet a 8).toNat * 256 + (octet a 9).toNat ∧ ¬x.related)) →
         exec (.laneSet p tag a) s = .next (answered p 0x11 tag .badArgument [] (leaseRenewed p s)))) ∧
     (∀ (ignored after : Octets) (limit : Byte), ignored.length = 8 → after.length = 2 → 16 ≤ limit.toNat →
       s.ports[tIn].profile.mgmt = true →
       exec (.laneSet p tag
           (6 :: (if s.ports[tIn].profile.enabled then 1 else 0) :: (ignored ++ limit :: after))) s =
         .next (answered p 0x11 tag .ok []
           { leaseRenewed p s with
             ports := upd s.ports tIn fun z => { z with profile := { z.profile with limit := limit.toNat } } }))) ∧
  (∀ (s : State) (p : Port) (tag : Byte) (on : Bool) (ignored after : Octets) (limit : Byte), takesAtOnce s p →
     ownedBy s p → ignored.length = 8 → after.length = 2 → 16 ≤ limit.toNat → s.ports[tIn].profile.mgmt = true →
     s.ports[tIn].profile.enabled ≠ on →
     ∀ (a : Octets) (x : Profile), a = 6 :: (if on then 1 else 0) :: (ignored ++ limit :: after) →
       x = { s.ports[tIn].profile with enabled := on, limit := limit.toNat } →
       (s.ports[tIn].rx.st ≠ .up →
         exec (.laneSet p tag a) s =
           .next (answered p 0x11 tag .ok []
             { leaseRenewed p s with
               ports := upd s.ports tIn fun z =>
                 { profile := x
                   rx :=
                     if on then Receiver.fresh .hunt
                     else if z.rx.st = .off then z.rx
                     else Receiver.fresh .off } })) ∧
       (s.ports[tIn].rx.st = .up →
         ∃ t : State, exec (.laneSet p tag a) s = .next t ∧
           leftUp tIn (if on then .restart else .disabled)
             (answered p 0x11 tag .ok []
               { leaseRenewed p s with ports := upd s.ports tIn fun z => { z with profile := x } }) t ∧
           (opensRecord s .laneDown 6 → opensRecord s .ownerLost 0xFF →
             t.notices.waiting =
               s.notices.waiting ++
               [openedRecord .laneDown 6
                 [if on then 0x02 else 0x03, BitVec.ofNat 8 s.ports[tIn].rx.level] s.timer.cycle] ++
               (if p = tIn then [openedRecord .ownerLost 0xFF [6, 0x02] s.timer.cycle] else []))))

/-- LANE_RESTART: refused for a port above 6 and a port that is OFF; a port in HUNT or CHECK begins its search anew; an
UP port leaves UP with cause 02h after the OK. That a search that begins anew has no octets in hand is DEDUCED (log
entry 12). -/
def Obligations.LaneRestartBeginsAnew : Prop :=
  ∀ (s : State) (p : Port) (tag : Byte), takesAtOnce s p → ownedBy s p →
    (∀ n : Byte, 6 < n.toNat →
      exec (.laneRestart p tag [n]) s = .next (answered p 0x12 tag .badArgument [] (leaseRenewed p s))) ∧
    ∀ q : Port,
      (s.ports[q].rx.st = .off →
        exec (.laneRestart p tag [BitVec.ofNat 8 q.val]) s =
          .next (answered p 0x12 tag .badArgument [] (leaseRenewed p s))) ∧
      (s.ports[q].rx.st = .hunt ∨ s.ports[q].rx.st = .check →
        exec (.laneRestart p tag [BitVec.ofNat 8 q.val]) s =
          .next (answered p 0x12 tag .ok []
            { leaseRenewed p s with
              ports := upd s.ports q fun z => { z with rx := Receiver.fresh .hunt } })) ∧
      (s.ports[q].rx.st = .up →
        ∃ t : State, exec (.laneRestart p tag [BitVec.ofNat 8 q.val]) s = .next t ∧
          leftUp q .restart (answered p 0x12 tag .ok [] (leaseRenewed p s)) t ∧
          (opensRecord s .laneDown (BitVec.ofNat 8 q.val) → opensRecord s .ownerLost 0xFF →
            t.notices.waiting =
              s.notices.waiting ++
              [openedRecord .laneDown (BitVec.ofNat 8 q.val) [0x02, BitVec.ofNat 8 s.ports[q].rx.level]
                s.timer.cycle] ++
              (if p = q then [openedRecord .ownerLost 0xFF [BitVec.ofNat 8 p.val, 0x02] s.timer.cycle] else [])))

/-! ### Alignment commands -/

/-- ALIGN_GET: the summary, the records of the window by position with zeros beyond it, and the refusal of a section
above 04h. ALIGN_SET replaces the three parameters or refuses all of them; ALIGN_REJOIN takes a LAGGING lane to
JOINING with late count 0 and refuses any other lane. -/
def Obligations.AlignGetSetAndRejoin : Prop :=
  (∀ (s : State) (p : Port) (tag n : Byte), takesAtOnce s p →
     (4 < n.toNat → exec (.alignGet p tag [n]) s = .next (answered p 0x18 tag .badArgument [] (leaseRenewed p s))) ∧
     (n = 0 →
       exec (.alignGet p tag [n]) s =
         .next (answered p 0x18 tag .ok
           ([BitVec.ofNat 8 s.aligner.skew, BitVec.ofNat 8 s.aligner.releaseSlot.val,
             BitVec.ofNat 8 s.aligner.lateLimit, if s.aligner.running then 1 else 0] ++
             (match s.aligner.lastReleased with
              | none => [0, 0, 0]
              | some e => 1 :: o16 e.toNat) ++
             [BitVec.ofNat 8 s.aligner.window.length] ++
             (match s.aligner.window with
              | [] => [0, 0]
              | r :: _ => o16 r.epoch.toNat) ++
             s.lanes.toList.flatMap fun x =>
               (match x.member with
                | .waiting => [0, 0, 0, 0]
                | .joining => [1, 0, 0, 0]
                | .isIn c late => [2] ++ o16 c.toNat ++ [if late then 1 else 0]
                | .lagging => [3, 0, 0, 0]) ++
               [BitVec.ofNat 8 x.lateCount])
           (leaseRenewed p s))) ∧
     (∀ k : Nat, n.toNat = k + 1 → k < 4 →
       (s.aligner.window.length ≤ k →
         exec (.alignGet p tag [n]) s =
           .next (answered p 0x18 tag .ok (List.replicate 22 0) (leaseRenewed p s))) ∧
       (∀ r, s.aligner.window[k]? = some r →
         exec (.alignGet p tag [n]) s =
           .next (answered p 0x18 tag .ok
             ([1] ++ o16 r.epoch.toNat ++ [BitVec.ofNat 8 (r.due.getD 0)] ++
               r.status.toList.map (fun x =>
                 match x with
                 | .na => (0 : Byte)
                 | .expected => 1
                 | .closed => 2) ++
               r.arrivals.toList.flatMap fun a => o16 (min a 65535))
             (leaseRenewed p s))))) ∧
  (∀ (s : State) (p : Port) (tag : Byte), takesAtOnce s p → ownedBy s p →
     (∀ d n m : Byte,
       (7 < d.toNat ∨ 63 < n.toNat ∨ m.toNat < 1 ∨ 7 < m.toNat →
         exec (.alignSet p tag [d, n, m]) s =
           .next (answered p 0x19 tag .badArgument [] (leaseRenewed p s))) ∧
       (d.toNat ≤ 7 → 1 ≤ m.toNat → m.toNat ≤ 7 → ∀ k : Slot, n.toNat = k.val →
         exec (.alignSet p tag [d, n, m]) s =
           .next (answered p 0x19 tag .ok []
             { leaseRenewed p s with
               aligner := { s.aligner with skew := d.toNat, releaseSlot := k, lateLimit := m.toNat } }))) ∧
     (∀ n : Byte, 5 < n.toNat →
       exec (.alignRejoin p tag [n]) s = .next (answered p 0x1A tag .badArgument [] (leaseRenewed p s))) ∧
     ∀ l : Lane,
       (s.lanes[l].member ≠ .lagging →
         exec (.alignRejoin p tag [BitVec.ofNat 8 l.val]) s =
           .next (answered p 0x1A tag .badArgument [] (leaseRenewed p s))) ∧
       (s.lanes[l].member = .lagging →
         exec (.alignRejoin p tag [BitVec.ofNat 8 l.val]) s =
           .next (answered p 0x1A tag .ok []
             { leaseRenewed p s with
               lanes := upd s.lanes l fun x => { x with member := .joining, lateCount := 0 } })))

/-! ### Flow commands -/

/-- FLOW_ADD: refused BAD_ARGUMENT for a value outside its range, for a key that an entry holds, by that entry's state,
and for a full table; otherwise the entry takes the lowest-numbered free place, with its counters at 0. -/
def Obligations.FlowAddTakesTheLowestFreePlace : Prop :=
  (∀ (s : State) (p : Port) (tag : Byte) (a : Octets), takesAtOnce s p → ownedBy s p → outsideFlowValues a →
    exec (.flowAdd p tag a) s = .next (answered p 0x20 tag .badArgument [] (leaseRenewed p s))) ∧
  ∀ (s : State) (p : Port) (tag : Byte) (e : FlowEntry), takesAtOnce s p → ownedBy s p → keysDistinct s →
    budgetLegal e →
    (∀ (i : FlowIdx) (x : FlowEntry), s.flows[i] = some x → x.lane = e.lane → x.inflow = e.inflow →
      exec (.flowAdd p tag (flowArguments e)) s =
        .next (answered p 0x20 tag (if x.draining then .keyBusy else .keyExists) [] (leaseRenewed p s))) ∧
    ((∀ i : FlowIdx, ¬holdsKeyOf s i e) →
      ((∀ i : FlowIdx, s.flows[i] ≠ none) →
        exec (.flowAdd p tag (flowArguments e)) s =
          .next (answered p 0x20 tag .tableFull [] (leaseRenewed p s))) ∧
      (∀ i : FlowIdx, s.flows[i] = none → (∀ j : FlowIdx, j < i → s.flows[j] ≠ none) →
        exec (.flowAdd p tag (flowArguments e)) s =
          .next (answered p 0x20 tag .ok [BitVec.ofNat 8 i.val]
            { leaseRenewed p s with
              flows := upd s.flows i fun _ => some
                { e with draining := false, expected := none, egressSeq := 0, admitted := 0, inQueue := 0 }
              counters := { s.counters with flows := upd s.counters.flows i fun _ => {} } })))

/-- FLOW_MODIFY: refused BAD_ARGUMENT for a value outside its range, for a key that no entry holds and for a DRAINING
entry; otherwise six fields are replaced, the expected seq becomes absent where the seq mode changes, and everything
else of the entry is kept. FLOW_REMOVE: refused for a key that no entry holds, one that no entry can hold among them,
and for a DRAINING entry; an entry with no cells queued leaves its place; any other begins to drain as a long operation,
unless its port and tag are in use or the in-flight table is full. -/
def Obligations.FlowModifyAndRemove : Prop :=
  (∀ (s : State) (p : Port) (tag : Byte) (a : Octets), takesAtOnce s p → ownedBy s p → outsideFlowValues a →
    exec (.flowModify p tag a) s = .next (answered p 0x21 tag .badArgument [] (leaseRenewed p s))) ∧
  (∀ (s : State) (p : Port) (tag : Byte) (e : FlowEntry), takesAtOnce s p → ownedBy s p → keysDistinct s →
     budgetLegal e →
     ((∀ i : FlowIdx, ¬holdsKeyOf s i e) →
       exec (.flowModify p tag (flowArguments e)) s =
         .next (answered p 0x21 tag .noEntry [] (leaseRenewed p s))) ∧
     (∀ (i : FlowIdx) (x : FlowEntry), s.flows[i] = some x → x.lane = e.lane → x.inflow = e.inflow →
       (x.draining = true →
         exec (.flowModify p tag (flowArguments e)) s =
           .next (answered p 0x21 tag .keyBusy [] (leaseRenewed p s))) ∧
       (x.draining = false →
         exec (.flowModify p tag (flowArguments e)) s =
           .next (answered p 0x21 tag .ok []
             { leaseRenewed p s with
               flows := upd s.flows i fun _ => some
                 { x with
                   group := e.group, outflow := e.outflow, seqCheck := e.seqCheck, renumber := e.renumber,
                   stamp := e.stamp, budget := e.budget,
                   expected := if e.seqCheck = x.seqCheck then x.expected else none } })))) ∧
  (∀ (s : State) (p : Port) (tag : Byte), takesAtOnce s p → ownedBy s p → keysDistinct s →
     (∀ a : Octets, a.length = 3 → (5 < (octet a 0).toNat ∨ 3 < (octet a 1).toNat) →
       exec (.flowRemove p tag a) s = .next (answered p 0x22 tag .noEntry [] (leaseRenewed p s))) ∧
     (∀ e : FlowEntry, (∀ i : FlowIdx, ¬holdsKeyOf s i e) →
       exec (.flowRemove p tag ((flowArguments e).take 3)) s =
         .next (answered p 0x22 tag .noEntry [] (leaseRenewed p s))) ∧
     (∀ (i : FlowIdx) (x : FlowEntry), s.flows[i] = some x →
       (x.draining = true →
         exec (.flowRemove p tag ((flowArguments x).take 3)) s =
           .next (answered p 0x22 tag .keyBusy [] (leaseRenewed p s))) ∧
       (x.draining = false → x.inQueue = 0 →
         exec (.flowRemove p tag ((flowArguments x).take 3)) s =
           .next (answered p 0x22 tag .ok []
             { leaseRenewed p s with flows := upd s.flows i fun _ => none })) ∧
       (x.draining = false → 1 ≤ x.inQueue →
         (tagRuns s p tag →
           exec (.flowRemove p tag ((flowArguments x).take 3)) s =
             .next (answered p 0x22 tag .tagInUse [] (leaseRenewed p s))) ∧
         (¬tagRuns s p tag → 4 ≤ (tableEntries s).length →
           exec (.flowRemove p tag ((flowArguments x).take 3)) s =
             .next (answered p 0x22 tag .busy [] (leaseRenewed p s))) ∧
         (¬tagRuns s p tag → (tableEntries s).length < 4 →
           exec (.flowRemove p tag ((flowArguments x).take 3)) s =
             .next (answered p 0x22 tag .started [BitVec.ofNat 8 i.val]
               (begun p 0x22 tag (.flow i)
                 { leaseRenewed p s with
                   flows := upd s.flows i fun _ => some { x with draining := true } }))))))

/-- FLOW_GET by key and by index, with its refusals, and FLOW_LIST: the entries in places from an index on, at most
eight, and whether more lie above. -/
def Obligations.FlowGetAndFlowListReport : Prop :=
  ∀ (s : State) (p : Port) (tag : Byte), takesAtOnce s p →
    (∀ a : Octets,
      ¬((a.length = 4 ∧ octet a 0 = 0) ∨ (a.length = 2 ∧ octet a 0 = 1)) ∨
        (octet a 0 = 0 ∧ (5 < (octet a 1).toNat ∨ 3 < (octet a 2).toNat)) →
      exec (.flowGet p tag a) s = .next (answered p 0x23 tag .badArgument [] (leaseRenewed p s))) ∧
    (∀ e : FlowEntry, (∀ i : FlowIdx, ¬holdsKeyOf s i e) →
      exec (.flowGet p tag (0 :: (flowArguments e).take 3)) s =
        .next (answered p 0x23 tag .noEntry [] (leaseRenewed p s))) ∧
    (∀ i : FlowIdx,
      (s.flows[i] = none →
        exec (.flowGet p tag [1, BitVec.ofNat 8 i.val]) s =
          .next (answered p 0x23 tag .noEntry [] (leaseRenewed p s))) ∧
      (∀ e, s.flows[i] = some e → keysDistinct s → ∀ a : Octets,
        a = [1, BitVec.ofNat 8 i.val] ∨ a = 0 :: (flowArguments e).take 3 →
        exec (.flowGet p tag a) s =
          .next (answered p 0x23 tag .ok
            ([BitVec.ofNat 8 i.val, BitVec.ofNat 8 e.lane.val] ++ o16 e.inflow.toNat ++
              ([if e.draining then 1 else 0, BitVec.ofNat 8 e.group.val] : Octets) ++ o16 e.outflow.toNat ++
              ([if e.seqCheck then 1 else 0] : Octets) ++
              (match e.expected with
               | none => ([0, 0, 0] : Octets)
               | some n => 1 :: o16 n.toNat) ++
              ([if e.renumber then 1 else 0] : Octets) ++ o16 e.egressSeq.toNat ++
              ([match e.stamp with
                | .keep => 0
                | .add => 1
                | .strip => 2] : Octets) ++
              o16 (e.budget.getD 0) ++ o16 e.admitted ++ o16 e.inQueue)
            (leaseRenewed p s)))) ∧
    (∀ (n : Byte) (found : List (FlowIdx × FlowEntry)),
      (found.Pairwise fun x y => x.1 < y.1) →
      (∀ i e, (i, e) ∈ found ↔ n.toNat ≤ i.val ∧ s.flows[i] = some e) →
      exec (.flowList p tag [n]) s =
        .next (answered p 0x24 tag .ok
          ([BitVec.ofNat 8 (min found.length 8), if 8 < found.length then 1 else 0] ++
            (found.take 8).flatMap fun x =>
              [BitVec.ofNat 8 x.1.val, BitVec.ofNat 8 x.2.lane.val] ++ o16 x.2.inflow.toNat)
          (leaseRenewed p s)))

/-! ### Schedule and group commands -/

/-- SCHED_WRITE of a run of legal entries: locked out while a swap is pending, otherwise written whole into the staged
bank; and SCHED_READ of a run of either bank. Runs outside 1 to 16 entries or past slot 63, and runs with an entry whose
kind or lend octet is outside R106, are refused. -/
def Obligations.SchedWriteAndRead : Prop :=
  ∀ (s : State) (p : Port) (tag : Byte), takesAtOnce s p →
    (∀ (first : Byte) (before after : Octets) (kind lend : Byte), ownedBy s p → 2 ∣ before.length → 2 ∣ after.length →
      before.length + after.length ≤ 48 → (1 < kind.toNat ∧ kind.toNat < 16 ∨ 31 < kind.toNat ∨ 1 < lend.toNat) →
      ∀ a : Octets,
        a = first :: BitVec.ofNat 8 (before.length / 2 + 1 + after.length / 2) :: (before ++ kind :: lend :: after) →
        exec (.schedWrite p tag a) s = .next (answered p 0x30 tag .badArgument [] (leaseRenewed p s))) ∧
    (∀ (first : Byte) (es : List SlotEntry) (a : Octets), ownedBy s p → es.length ≤ 25 →
      a = first :: BitVec.ofNat 8 es.length :: es.flatMap slotOctets →
      (es.length = 0 ∨ 16 < es.length ∨ 64 < first.toNat + es.length →
        exec (.schedWrite p tag a) s = .next (answered p 0x30 tag .badArgument [] (leaseRenewed p s))) ∧
      (1 ≤ es.length → es.length ≤ 16 → first.toNat + es.length ≤ 64 →
        (s.sched.swapPending = true →
          exec (.schedWrite p tag a) s = .next (answered p 0x30 tag .bankLocked [] (leaseRenewed p s))) ∧
        (s.sched.swapPending = false → ∀ written : Vector SlotEntry 64 → Vector SlotEntry 64,
          (∀ b (n : Slot), (written b)[n] =
            if first.toNat ≤ n.val then (es[n.val - first.toNat]?).getD b[n] else b[n]) →
          exec (.schedWrite p tag a) s =
            .next (answered p 0x30 tag .ok []
              { leaseRenewed p s with
                sched :=
                  match s.sched.active with
                  | .a => { s.sched with bankB := written s.sched.bankB }
                  | .b => { s.sched with bankA := written s.sched.bankA } })))) ∧
    (∀ x n k : Byte,
      (1 < x.toNat ∨ k.toNat < 1 ∨ 16 < k.toNat ∨ 64 < n.toNat + k.toNat →
        exec (.schedRead p tag [x, n, k]) s = .next (answered p 0x31 tag .badArgument [] (leaseRenewed p s))) ∧
      (x.toNat ≤ 1 → 1 ≤ k.toNat → k.toNat ≤ 16 → n.toNat + k.toNat ≤ 64 →
        exec (.schedRead p tag [x, n, k]) s =
          .next (answered p 0x31 tag .ok
            ([x, if (x = 0 ∧ s.sched.active = .a) ∨ (x = 1 ∧ s.sched.active = .b) then 1 else 0,
              if s.sched.swapPending then 1 else 0, BitVec.ofNat 8 s.sched.lendPointer.val, n, k] ++
              (((if x = 0 then s.sched.bankA else s.sched.bankB).toList.drop n.toNat).take k.toNat).flatMap
                slotOctets)
            (leaseRenewed p s))))

/-- SCHED_SWAP by its four refusals in their order and its STARTED with the staged bank; SCHED_CANCEL: NO_SWAP, or the
swap is dropped and the OK stands before the ABORTED. -/
def Obligations.SchedSwapAndCancel : Prop :=
  ∀ (s : State) (p : Port) (tag : Byte), takesAtOnce s p → ownedBy s p →
    (s.sched.swapPending = true →
      exec (.schedSwap p tag []) s = .next (answered p 0x32 tag .swapPending [] (leaseRenewed p s)) ∧
      ∀ (x : Bank) (o : Operation), x ≠ s.sched.active → onlyOperation s (.bank x) o →
        exec (.schedCancel p tag []) s =
          .next (reported o .aborted []
            (answered p 0x33 tag .ok []
              { leaseRenewed p s with sched := { s.sched with swapPending := false } }))) ∧
    (s.sched.swapPending = false →
      exec (.schedCancel p tag []) s = .next (answered p 0x33 tag .noSwap [] (leaseRenewed p s)) ∧
      ∀ (x : Bank) (v : Vector SlotEntry 64), x ≠ s.sched.active →
        v = (if x = .a then s.sched.bankA else s.sched.bankB) →
        (¬capable v →
          exec (.schedSwap p tag []) s = .next (answered p 0x32 tag .badSchedule [] (leaseRenewed p s))) ∧
        (capable v → tagRuns s p tag →
          exec (.schedSwap p tag []) s = .next (answered p 0x32 tag .tagInUse [] (leaseRenewed p s))) ∧
        (capable v → ¬tagRuns s p tag → 4 ≤ (tableEntries s).length →
          exec (.schedSwap p tag []) s = .next (answered p 0x32 tag .busy [] (leaseRenewed p s))) ∧
        (capable v → ¬tagRuns s p tag → (tableEntries s).length < 4 →
          exec (.schedSwap p tag []) s =
            .next (answered p 0x32 tag .started [if x = .a then 0 else 1]
              (begun p 0x32 tag (.bank x)
                { leaseRenewed p s with sched := { s.sched with swapPending := true } }))))

/-- GROUP_SET: refused outside its values and below the occupancy, otherwise limit and borrow permission are replaced;
and GROUP_GET: the nine octets of a group. -/
def Obligations.GroupSetAndGet : Prop :=
  ∀ (s : State) (p : Port) (tag : Byte), takesAtOnce s p →
    (∀ g h l b : Byte, ownedBy s p →
      (15 < g.toNat ∨ h.toNat * 256 + l.toNat < 1 ∨ 1024 < h.toNat * 256 + l.toNat ∨ 1 < b.toNat →
        exec (.groupSet p tag [g, h, l, b]) s =
          .next (answered p 0x34 tag .badArgument [] (leaseRenewed p s))) ∧
      (∀ k : Group, g.toNat = k.val → 1 ≤ h.toNat * 256 + l.toNat → h.toNat * 256 + l.toNat ≤ 1024 → b.toNat ≤ 1 →
        (h.toNat * 256 + l.toNat < s.groups[k].queue.length →
          exec (.groupSet p tag [g, h, l, b]) s =
            .next (answered p 0x34 tag .quotaInUse [] (leaseRenewed p s))) ∧
        (s.groups[k].queue.length ≤ h.toNat * 256 + l.toNat →
          exec (.groupSet p tag [g, h, l, b]) s =
            .next (answered p 0x34 tag .ok []
              { leaseRenewed p s with
                groups := upd s.groups k fun q =>
                  { q with limit := h.toNat * 256 + l.toNat, borrow := decide (b = 1) } })))) ∧
    (∀ g : Byte, 15 < g.toNat →
      exec (.groupGet p tag [g]) s = .next (answered p 0x35 tag .badArgument [] (leaseRenewed p s))) ∧
    ∀ k : Group,
      exec (.groupGet p tag [BitVec.ofNat 8 k.val]) s =
        .next (answered p 0x35 tag .ok
          ([BitVec.ofNat 8 k.val] ++ o16 s.groups[k].limit ++ [if s.groups[k].borrow then 1 else 0] ++
            o16 s.groups[k].queue.length ++
            [BitVec.ofNat 8 ((match s.sched.active with
               | .a => s.sched.bankA
               | .b => s.sched.bankB).toList.countP fun (e : SlotEntry) => decide (e.kind = SlotKind.group k))] ++
            (match s.groups[k].queue with
             | [] => [0, 0]
             | r :: _ => [1, BitVec.ofNat 8 r.entry.val]))
          (leaseRenewed p s))

/-- GROUP_FLUSH of a group whose records' entries are all ACTIVE: every record leaves, each buffer returns, each
entry counts its records out, and the OK carries their number, which the flushed counter takes up. GROUP_FLUSH of a
group that holds all the queued cells of one DRAINING entry and no others: the drain ends, and its DONE stands after
the OK. GROUP_FLUSH of any mix of entries: a DRAINING entry with cells in another group queue counts its records out and
goes on draining; the drain of each entry whose last queued cells stand in the group ends; and the DONEs follow the OK
in the order in which each entry's last record stood in the queue, head first. -/
def Obligations.GroupFlushEmptiesTheQueue : Prop :=
  (∀ (s : State) (p : Port) (tag : Byte), takesAtOnce s p → ownedBy s p →
     (∀ g : Byte, 15 < g.toNat →
       exec (.groupFlush p tag [g]) s = .next (answered p 0x36 tag .badArgument [] (leaseRenewed p s))) ∧
     ∀ g : Group, (∀ r ∈ s.groups[g].queue, ∃ e, s.flows[r.entry] = some e ∧ e.draining = false) →
       exec (.groupFlush p tag [BitVec.ofNat 8 g.val]) s =
         .next (answered p 0x36 tag .ok (o16 s.groups[g].queue.length)
           { leaseRenewed p s with
             free := s.free + s.groups[g].queue.length
             groups := upd s.groups g fun q => { q with queue := [] }
             flows := Vector.ofFn fun i : FlowIdx =>
               (s.flows[i]).map fun e =>
                 { e with inQueue := e.inQueue - s.groups[g].queue.countP fun r => r.entry == i }
             counters := { s.counters with
               groups := upd s.counters.groups g fun k =>
                 { k with flushed := plus k.flushed s.groups[g].queue.length } } })) ∧
  (∀ (s : State) (p : Port) (tag : Byte) (g : Group) (i : FlowIdx) (e : FlowEntry) (o : Operation),
     takesAtOnce s p → ownedBy s p → s.groups[g].queue ≠ [] → (∀ r ∈ s.groups[g].queue, r.entry = i) →
     s.flows[i] = some e → e.draining = true → e.inQueue = s.groups[g].queue.length →
     onlyOperation s (.flow i) o →
     exec (.groupFlush p tag [BitVec.ofNat 8 g.val]) s =
       .next (reported o .done []
         (answered p 0x36 tag .ok (o16 s.groups[g].queue.length)
           { leaseRenewed p s with
             free := s.free + s.groups[g].queue.length
             groups := upd s.groups g fun q => { q with queue := [] }
             flows := upd s.flows i fun _ => none
             counters := { s.counters with
               groups := upd s.counters.groups g fun k =>
                 { k with flushed := plus k.flushed s.groups[g].queue.length } } }))) ∧
  (∀ (s : State) (p : Port) (tag : Byte) (g : Group) (operation : FlowIdx → Operation),
     takesAtOnce s p → ownedBy s p →
     (∀ (i : FlowIdx) (f : FlowEntry), s.flows[i] = some f → f.draining = true → recordsIn s g i ≤ f.inQueue) →
     ∀ ended : List FlowIdx, ended = (byLastRecord s.groups[g].queue).filter (flushEndsDrain s g) →
     (∀ i ∈ ended, onlyOperation s (.flow i) (operation i)) →
     exec (.groupFlush p tag [BitVec.ofNat 8 g.val]) s =
       .next (ended.foldl (fun t i => reported (operation i) .done [] t)
         (answered p 0x36 tag .ok (o16 s.groups[g].queue.length)
           { leaseRenewed p s with
             free := s.free + s.groups[g].queue.length
             groups := upd s.groups g fun q => { q with queue := [] }
             flows := Vector.ofFn fun i : FlowIdx =>
               if i ∈ ended then none
               else (s.flows[i]).map fun f => { f with inQueue := f.inQueue - recordsIn s g i }
             counters := { s.counters with
               groups := upd s.counters.groups g fun k =>
                 { k with flushed := plus k.flushed s.groups[g].queue.length } } })))

/-! ### Timer commands -/

/-- CYCLE_SET: refused outside its values; otherwise mode and window are replaced, and a waiting arm is dropped and
reported ABORTED after the OK. CYCLE_ARM by its four refusals in their order, and its STARTED. -/
def Obligations.CycleSetAndArm : Prop :=
  (∀ (s : State) (p : Port) (tag m w : Byte), takesAtOnce s p → ownedBy s p →
     (3 < m.toNat ∨ 31 < w.toNat →
       exec (.cycleSet p tag [m, w]) s = .next (answered p 0x40 tag .badArgument [] (leaseRenewed p s))) ∧
     (∀ mode : FollowMode,
       (mode = .free ∧ m = 0) ∨ (mode = .watch ∧ m = 1) ∨ (mode = .once ∧ m = 2) ∨ (mode = .always ∧ m = 3) →
       w.toNat ≤ 31 →
       (s.follower.armed = false →
         exec (.cycleSet p tag [m, w]) s =
           .next (answered p 0x40 tag .ok []
             { leaseRenewed p s with follower := { s.follower with mode := mode, window := w.toNat } })) ∧
       (s.follower.armed = true → ∀ o, onlyOperation s .follower o →
         exec (.cycleSet p tag [m, w]) s =
           .next (reported o .aborted []
             (answered p 0x40 tag .ok []
               { leaseRenewed p s with
                 follower := { s.follower with mode := mode, window := w.toNat, armed := false } }))))) ∧
  (∀ (s : State) (p : Port) (tag : Byte), takesAtOnce s p → ownedBy s p →
     (s.follower.mode ≠ .once →
       exec (.cycleArm p tag []) s = .next (answered p 0x41 tag .badArgument [] (leaseRenewed p s))) ∧
     (s.follower.mode = .once →
       (s.follower.armed = true →
         exec (.cycleArm p tag []) s = .next (answered p 0x41 tag .busy [] (leaseRenewed p s))) ∧
       (s.follower.armed = false →
         (tagRuns s p tag →
           exec (.cycleArm p tag []) s = .next (answered p 0x41 tag .tagInUse [] (leaseRenewed p s))) ∧
         (¬tagRuns s p tag → 4 ≤ (tableEntries s).length →
           exec (.cycleArm p tag []) s = .next (answered p 0x41 tag .busy [] (leaseRenewed p s))) ∧
         (¬tagRuns s p tag → (tableEntries s).length < 4 →
           exec (.cycleArm p tag []) s =
             .next (answered p 0x41 tag .started []
               (begun p 0x41 tag .follower
                 { leaseRenewed p s with follower := { s.follower with armed := true } }))))))

/-! ### Counter and notice commands -/

/-- SNAP_TAKE: refused outside its values, to a port that is not UP when its request is taken and while another port
holds a snapshot; otherwise every counter and every key record is copied, and with clear set, a command of the owner's,
the live counters return to 0. -/
def Obligations.SnapTakeCopiesEveryCounter : Prop :=
  (∀ (s : State) (p : Port) (tag n : Byte) (clear : Bool),
    waitsAlone s ⟨p, 0x50, tag, [if clear then 1 else 0, n]⟩ → (clear = true → ownedBy s p) →
    s.ports[p].rx.st ≠ .up →
    exec .requestTake s =
      .next (answered p 0x50 tag .badArgument [] (leaseRenewed p (requesting [] s)))) ∧
  ∀ (s : State) (p : Port) (tag n : Byte) (clear : Bool), takesAtOnce s p → (clear = true → ownedBy s p) →
    (∀ c : Byte, 1 < c.toNat → ownedBy s p →
      exec (.snapTake p tag [c, n]) s = .next (answered p 0x50 tag .badArgument [] (leaseRenewed p s))) ∧
    (∀ x, s.snapshot = some x → x.holder ≠ p →
        exec (.snapTake p tag [if clear then 1 else 0, n]) s =
          .next (answered p 0x50 tag .snapHeld [] (leaseRenewed p s))) ∧
      (s.snapshot = none ∨ s.snapshot.map Snapshot.holder = some p →
        ∀ life : Nat, life = (if n = 0 then 8 else n.toNat) →
        exec (.snapTake p tag [if clear then 1 else 0, n]) s =
          .next (answered p 0x50 tag .ok
            (o32 s.timer.cycle.toNat ++ [BitVec.ofNat 8 s.timer.slot.val, BitVec.ofNat 8 life])
            { leaseRenewed p s with
              snapshot := some
                { holder := p, cycle := s.timer.cycle, slot := s.timer.slot, cleared := clear, lifetime := life,
                  remaining := life, counters := s.counters,
                  keys := s.flows.map fun f =>
                    f.map fun e => { lane := e.lane, inflow := e.inflow, draining := e.draining } }
              counters := if clear then Counters.zero else s.counters }))

/-- SNAP_READ: refused for a block that there is not, then to any port but the holder; otherwise the block named, after
the four argument octets. -/
def Obligations.SnapReadGivesTheBlock : Prop :=
  ∀ (s : State) (p : Port) (tag : Byte) (c h l part : Byte), takesAtOnce s p →
    ∀ n : Nat, n = h.toNat * 256 + l.toNat →
    (¬blockNamed c n part →
      exec (.snapRead p tag [c, h, l, part]) s =
        .next (answered p 0x51 tag .badArgument [] (leaseRenewed p s))) ∧
    (blockNamed c n part → s.snapshot.map Snapshot.holder ≠ some p →
      exec (.snapRead p tag [c, h, l, part]) s =
        .next (answered p 0x51 tag .noSnapshot [] (leaseRenewed p s))) ∧
    ∀ x, s.snapshot = some x → x.holder = p → ∀ block : Octets,
      (c = 0 → n = 0 → part = 0 →
        block = [BitVec.ofNat 8 p.val] ++ o32 x.cycle.toNat ++
          ([BitVec.ofNat 8 x.slot.val, if x.cleared then 1 else 0, BitVec.ofNat 8 x.lifetime,
            BitVec.ofNat 8 x.remaining] : Octets) →
        exec (.snapRead p tag [c, h, l, part]) s =
          .next (answered p 0x51 tag .ok ([c, h, l, part] ++ block) (leaseRenewed p s))) ∧
      (∀ q : Port, c = 1 → n = q.val → part.toNat ≤ 1 →
        block =
          (if part = 0 then (portCounts x.counters.ports[q]).take 12
           else (portCounts x.counters.ports[q]).drop 12).flatMap (fun k => o32 k.toNat) →
        exec (.snapRead p tag [c, h, l, part]) s =
          .next (answered p 0x51 tag .ok ([c, h, l, part] ++ block) (leaseRenewed p s))) ∧
      (∀ q : Lane, c = 2 → n = q.val → part = 0 →
        block = (laneCounts x.counters.lanes[q]).flatMap (fun k => o32 k.toNat) →
        exec (.snapRead p tag [c, h, l, part]) s =
          .next (answered p 0x51 tag .ok ([c, h, l, part] ++ block) (leaseRenewed p s))) ∧
      (∀ i : FlowIdx, c = 3 → n = i.val → part = 0 →
        block =
          (match x.keys[i] with
           | none => [0, 0, 0, 0, 0]
           | some k => [1, BitVec.ofNat 8 k.lane.val] ++ o16 k.inflow.toNat ++ [if k.draining then 1 else 0]) ++
          (flowCounts x.counters.flows[i]).flatMap (fun k => o32 k.toNat) →
        exec (.snapRead p tag [c, h, l, part]) s =
          .next (answered p 0x51 tag .ok ([c, h, l, part] ++ block) (leaseRenewed p s))) ∧
      (∀ g : Group, c = 4 → n = g.val → part = 0 →
        block = (groupCounts x.counters.groups[g]).flatMap (fun k => o32 k.toNat) →
        exec (.snapRead p tag [c, h, l, part]) s =
          .next (answered p 0x51 tag .ok ([c, h, l, part] ++ block) (leaseRenewed p s))) ∧
      (c = 5 → n = 0 → part = 0 →
        block = (unitCounts x.counters.unit).flatMap (fun k => o32 k.toNat) →
        exec (.snapRead p tag [c, h, l, part]) s =
          .next (answered p 0x51 tag .ok ([c, h, l, part] ++ block) (leaseRenewed p s)))

/-- SNAP_DROP: OK with an empty result from the holder, and the area is empty; NO_SNAPSHOT from any other port and with
the area empty. Nothing else changes but the lease renewal. -/
def Obligations.SnapDropEndsTheSnapshot : Prop :=
  ∀ (s : State) (p : Port) (tag : Byte), takesAtOnce s p →
    (s.snapshot = none ∨ (∃ x, s.snapshot = some x ∧ x.holder ≠ p) →
      exec (.snapDrop p tag []) s = .next (answered p 0x52 tag .noSnapshot [] (leaseRenewed p s))) ∧
    (∀ x, s.snapshot = some x → x.holder = p →
      exec (.snapDrop p tag []) s =
        .next (answered p 0x52 tag .ok [] { leaseRenewed p s with snapshot := none }))

/-- COUNT_CLEAR: refused outside its sections and subjects; otherwise the named block, the whole section or every
section returns to 0, and no other counter moves. -/
def Obligations.CountClearZeroesWhatItNames : Prop :=
  ∀ (s : State) (p : Port) (tag c h l : Byte), takesAtOnce s p → ownedBy s p →
    ∀ n : Nat, n = h.toNat * 256 + l.toNat →
    (¬((c = 1 ∧ n ≤ 6) ∨ (c = 2 ∧ n ≤ 5) ∨ (c = 3 ∧ n ≤ 255) ∨ (c = 4 ∧ n ≤ 15) ∨ (c = 5 ∧ n = 0) ∨
        (1 ≤ c.toNat ∧ c.toNat ≤ 5 ∧ n = 65535) ∨ (c = 255 ∧ n = 65535)) →
      exec (.countClear p tag [c, h, l]) s =
        .next (answered p 0x53 tag .badArgument [] (leaseRenewed p s))) ∧
    (∀ k : Counters,
      (∃ q : Port, c = 1 ∧ n = q.val ∧ k = { s.counters with ports := upd s.counters.ports q fun _ => {} }) ∨
      (∃ q : Lane, c = 2 ∧ n = q.val ∧ k = { s.counters with lanes := upd s.counters.lanes q fun _ => {} }) ∨
      (∃ i : FlowIdx, c = 3 ∧ n = i.val ∧ k = { s.counters with flows := upd s.counters.flows i fun _ => {} }) ∨
      (∃ g : Group, c = 4 ∧ n = g.val ∧ k = { s.counters with groups := upd s.counters.groups g fun _ => {} }) ∨
      (c = 5 ∧ (n = 0 ∨ n = 65535) ∧ k = { s.counters with unit := {} }) ∨
      (c = 1 ∧ n = 65535 ∧ k = { s.counters with ports := Vector.replicate 7 {} }) ∨
      (c = 2 ∧ n = 65535 ∧ k = { s.counters with lanes := Vector.replicate 6 {} }) ∨
      (c = 3 ∧ n = 65535 ∧ k = { s.counters with flows := Vector.replicate 256 {} }) ∨
      (c = 4 ∧ n = 65535 ∧ k = { s.counters with groups := Vector.replicate 16 {} }) ∨
      (c = 255 ∧ n = 65535 ∧ k = Counters.zero) →
      exec (.countClear p tag [c, h, l]) s =
        .next (answered p 0x53 tag .ok [] { leaseRenewed p s with counters := k }))

/-- NOTICE_ENABLE: refused outside its values; ADD enables the listed kinds, REMOVE disables them and deletes their
records; the OK gives how many records went and how many kinds are enabled now. -/
def Obligations.NoticeEnableMovesTheSet : Prop :=
  ∀ (s : State) (p : Port) (tag op : Byte) (codes : Octets), takesAtOnce s p → ownedBy s p → codes.length ≤ 50 →
    ((op ≠ 1 ∧ op ≠ 2) ∨ codes.length = 0 ∨ 14 < codes.length ∨ (∃ b ∈ codes, b.toNat < 1 ∨ 14 < b.toNat) →
      exec (.noticeEnable p tag (op :: BitVec.ofNat 8 codes.length :: codes)) s =
        .next (answered p 0x60 tag .badArgument [] (leaseRenewed p s))) ∧
    (op = 1 ∨ op = 2 → 1 ≤ codes.length → codes.length ≤ 14 → (∀ b ∈ codes, 1 ≤ b.toNat ∧ b.toNat ≤ 14) →
      ∀ (after : Vector Bool 14) (left : List NoticeRec),
        (∀ k : Fin 14, after[k] = if BitVec.ofNat 8 (k.val + 1) ∈ codes then decide (op = 1) else s.notices.enabled[k]) →
        left = (if op = 2 then s.notices.waiting.filter (fun r => decide (r.kind.code ∉ codes)) else s.notices.waiting) →
        exec (.noticeEnable p tag (op :: BitVec.ofNat 8 codes.length :: codes)) s =
          .next (answered p 0x60 tag .ok
            [BitVec.ofNat 8 (s.notices.waiting.length - left.length), BitVec.ofNat 8 (after.toList.count true)]
            { leaseRenewed p s with notices := { enabled := after, waiting := left } }))

/-! ### Laws that every step keeps -/

/-- R11: a request that is refused changes nothing but the lease of an owner that sends it, the request queue that it
leaves and the reply queue that its refusal joins. -/
def Obligations.RefusedRequestChangesOnlyTheLease : Prop :=
  ∀ (s t : State) (r : Request) (rest : List Request) (x : Reply) (more : List Reply),
    s.engine.requests = r :: rest → s.engine.replies.length < 16 → s.engine.held = [] →
    exec .requestTake s = .next t → t.engine.replies = s.engine.replies ++ x :: more → x.status.refusal = true →
    more = [] ∧ x.port = r.port ∧ x.code = r.code ∧ x.tag = r.tag ∧ (x.status ≠ .owned → x.result = []) ∧
    t =
      { leaseRenewed r.port s with
        engine := { (leaseRenewed r.port s).engine with requests := rest, replies := s.engine.replies ++ [x] } }

/-- First law: free buffers, queued cells and the cell in transmission stay 1024 together. -/
def Obligations.EveryStepKeepsBuffers : Prop :=
  ∀ s t : State, buffersAddUp s → step s = .next t → buffersAddUp t

/-- Second law, with the relations of quota and watermarks and the hysteresis state. -/
def Obligations.EveryStepKeepsQueuesWithinLimits : Prop :=
  ∀ s t : State, queuesWithinLimits s → step s = .next t → queuesWithinLimits t

/-- Third and fourth laws: no two entries with one key, and the in-queue counts match the queued records. -/
def Obligations.EveryStepKeepsFlowEntriesSound : Prop :=
  ∀ s t : State, keysDistinct s ∧ countsMatchRecords s → step s = .next t → keysDistinct t ∧ countsMatchRecords t

/-- Fifth, sixth and seventh laws with the set and the members of the Epoch Aligner. -/
def Obligations.EveryStepKeepsTheAlignerSound : Prop :=
  ∀ s t : State, quietUntilRunning s ∧ alignerSound s → step s = .next t → quietUntilRunning t ∧ alignerSound t

/-- Eighth and twelfth laws: the owner is UP and permitted, and the snapshot's holder is UP. -/
def Obligations.EveryStepKeepsOwnerAndHolderQualified : Prop :=
  ∀ s t : State, quietUntilRunning s ∧ ownerQualified s ∧ holderQualified s → step s = .next t →
    quietUntilRunning t ∧ ownerQualified t ∧ holderQualified t

/-- Ninth law: the capacities of the management engine, one operation per port and tag, completions held only while the
reply queue is full; and the unit address is never 255. -/
def Obligations.EveryStepKeepsTheEngineWithinCapacity : Prop :=
  ∀ s t : State, engineWithinCapacity s ∧ unitAddressLegal s → step s = .next t →
    engineWithinCapacity t ∧ unitAddressLegal t

/-- Every RUNNING operation is one that its block is carrying out, and every such operation has its entry. -/
def Obligations.EveryStepKeepsOperationsOwned : Prop :=
  ∀ s t : State, operationsOwned s → step s = .next t → operationsOwned t

/-- Tenth law: one pending record per kind and subject, none of a disabled kind. -/
def Obligations.EveryStepKeepsNoticesSound : Prop :=
  ∀ s t : State, noticesSound s → step s = .next t → noticesSound t

/-- Eleventh law, the tick count, and what T-out sends: the active bank is management-capable, the tick count is the
cycle number modulo 4096, and every cell sent has a valid header. -/
def Obligations.EveryStepKeepsScheduleTimeAndTrunk : Prop :=
  ∀ s t : State, activeBankCapable s ∧ timeSound s ∧ trunkSound s → step s = .next t →
    activeBankCapable t ∧ timeSound t ∧ trunkSound t

/-- The receivers keep the table of R21 and the profiles the ranges of R19. -/
def Obligations.EveryStepKeepsReceiversSound : Prop :=
  ∀ s t : State, quietUntilRunning s ∧ receiversSound s → step s = .next t → quietUntilRunning t ∧ receiversSound t
end

