-- ==== Sys2Proof/Laws/Words.lean ====
section
/-! SUPPORT. Lemmas about rows of like things with one changed, and about the header check. -/

namespace Sys2Proof

variable {α β : Type} {n : Nat}

@[simp] theorem upd_get_self (v : Vector α n) (i : Fin n) (f : α → α) :
    (upd v i f)[i.val] = f v[i.val] := by
  simp [upd]

theorem upd_get_ne (v : Vector α n) {i : Fin n} {j : Nat} (f : α → α) (hj : j < n) (h : j ≠ i.val) :
    (upd v i f)[j] = v[j] := by
  simp [upd, h.symm]

/-- The whole of what `upd` does, place by place. -/
theorem upd_get (v : Vector α n) (i j : Fin n) (f : α → α) :
    (upd v i f)[j] = if j = i then f v[j] else v[j] := by
  by_cases h : j = i
  · subst h; simp
  · have h' : j.val ≠ i.val := fun e => h (Fin.ext e)
    simp [upd_get_ne v f j.isLt h', h]

@[simp] theorem upd_id (v : Vector α n) (i : Fin n) : upd v i (fun x => x) = v := by
  simp [upd]

/-- A change that leaves the place as it is changes nothing. -/
theorem upd_same (v : Vector α n) (i : Fin n) (f : α → α) (h : f v[i.val] = v[i.val]) : upd v i f = v := by
  simp [upd, h]

/-- Changes that agree on the place give one row. -/
theorem upd_congr (v : Vector α n) (i : Fin n) (f g : α → α) (h : f v[i.val] = g v[i.val]) :
    upd v i f = upd v i g := by
  simp [upd, h]

@[simp] theorem upd_upd (v : Vector α n) (i : Fin n) (f g : α → α) : upd (upd v i f) i g = upd v i (fun x => g (f x)) := by
  simp [upd]

/-- A reading that `f` does not change is the same in every place. -/
theorem upd_get_map (v : Vector α n) (i j : Fin n) (f : α → α) (g : α → β) (h : ∀ x, g (f x) = g x) :
    g (upd v i f)[j] = g v[j] := by
  rw [upd_get]; split <;> simp [h]

/-- A row as a list, with one place changed. -/
theorem upd_toList (v : Vector α n) (i : Fin n) (f : α → α) :
    (upd v i f).toList = v.toList.set i.val (f v[i.val]) := by
  apply List.ext_getElem
  · simp
  · intro k h1 h2
    simp [upd, List.getElem_set, Vector.getElem_set]

theorem list_sum_set (l : List α) (k : Nat) (hk : k < l.length) (y : α) (g : α → Nat) :
    ((l.set k y).map g).sum + g l[k] = (l.map g).sum + g y := by
  induction l generalizing k with
  | nil => simp at hk
  | cons x l ih =>
    cases k with
    | zero => simp; omega
    | succ k =>
      have h := ih k (by simpa using hk)
      simp only [List.set_cons_succ, List.map_cons, List.sum_cons, List.getElem_cons_succ]
      omega

/-- A total over the places changes by what the changed place changes. -/
theorem sum_upd (v : Vector α n) (i : Fin n) (f : α → α) (g : α → Nat) :
    ((upd v i f).toList.map g).sum + g v[i.val] = (v.toList.map g).sum + g (f v[i.val]) := by
  rw [upd_toList]
  have := list_sum_set v.toList i.val (by simp) (f v[i.val]) g
  simpa using this

namespace Machine

/-- The check of a header and its check octet together is zero, so an egress cell is header-valid. -/
theorem headerValid_of_check (h b : Octets) (h7 : h.length = 7) : headerValid (h ++ [crc8 h] ++ b) = true := by
  have ht : (h ++ [crc8 h] ++ b).take 7 = h := by simp [← h7]
  simp only [headerValid, ht, octet]
  simp [List.getD, h7]
  omega

theorem buildCell_valid (k : Nat) (x : Bool) (fl : FlowNum) (sq : Seq) (n : Nat) (u : Byte) (b : Octets) :
    headerValid (buildCell k x fl sq n u b) = true := by
  have := headerValid_of_check ([o8 (k * 16 + (if x then 8 else 0))] ++ o16 fl.toNat ++ o16 sq.toNat ++ [o8 n, u])
    (b ++ List.replicate (56 - b.length) 0) (by simp [o16])
  simpa [buildCell, List.append_assoc] using this

theorem fillCell_valid : headerValid fillCell = true := by decide +kernel

end Machine

end Sys2Proof
end

