-- ==== Sys2Proof/Laws/State.lean ====
section
/-! SUPPORT. What each update of the state changes and what it leaves, field by field. -/

namespace Sys2Proof.Machine

/-! ### Counting -/

@[simp] theorem countPort_frame (p : Port) (f : PortCounters → PortCounters) (s : State) :
    (countPort p f s).pending = s.pending ∧ (countPort p f s).orderDraws = s.orderDraws ∧
    (countPort p f s).phase = s.phase ∧ (countPort p f s).ports = s.ports ∧ (countPort p f s).free = s.free ∧
    (countPort p f s).lanes = s.lanes ∧ (countPort p f s).aligner = s.aligner ∧ (countPort p f s).flows = s.flows ∧
    (countPort p f s).groups = s.groups ∧ (countPort p f s).sched = s.sched ∧ (countPort p f s).trunk = s.trunk ∧
    (countPort p f s).timer = s.timer ∧ (countPort p f s).follower = s.follower ∧
    (countPort p f s).engine = s.engine ∧ (countPort p f s).snapshot = s.snapshot ∧
    (countPort p f s).notices = s.notices ∧ (countPort p f s).counters.lanes = s.counters.lanes ∧
    (countPort p f s).counters.flows = s.counters.flows ∧ (countPort p f s).counters.groups = s.counters.groups ∧
    (countPort p f s).counters.unit = s.counters.unit ∧
    (countPort p f s).counters.ports = upd s.counters.ports p f := by
  simp [countPort]

@[simp] theorem countLane_frame (l : Lane) (f : LaneCounters → LaneCounters) (s : State) :
    (countLane l f s).pending = s.pending ∧ (countLane l f s).orderDraws = s.orderDraws ∧
    (countLane l f s).phase = s.phase ∧ (countLane l f s).ports = s.ports ∧ (countLane l f s).free = s.free ∧
    (countLane l f s).lanes = s.lanes ∧ (countLane l f s).aligner = s.aligner ∧ (countLane l f s).flows = s.flows ∧
    (countLane l f s).groups = s.groups ∧ (countLane l f s).sched = s.sched ∧ (countLane l f s).trunk = s.trunk ∧
    (countLane l f s).timer = s.timer ∧ (countLane l f s).follower = s.follower ∧
    (countLane l f s).engine = s.engine ∧ (countLane l f s).snapshot = s.snapshot ∧
    (countLane l f s).notices = s.notices ∧ (countLane l f s).counters.ports = s.counters.ports ∧
    (countLane l f s).counters.flows = s.counters.flows ∧ (countLane l f s).counters.groups = s.counters.groups ∧
    (countLane l f s).counters.unit = s.counters.unit ∧
    (countLane l f s).counters.lanes = upd s.counters.lanes l f := by
  simp [countLane]

@[simp] theorem countFlow_frame (i : FlowIdx) (f : FlowCounters → FlowCounters) (s : State) :
    (countFlow i f s).pending = s.pending ∧ (countFlow i f s).orderDraws = s.orderDraws ∧
    (countFlow i f s).phase = s.phase ∧ (countFlow i f s).ports = s.ports ∧ (countFlow i f s).free = s.free ∧
    (countFlow i f s).lanes = s.lanes ∧ (countFlow i f s).aligner = s.aligner ∧ (countFlow i f s).flows = s.flows ∧
    (countFlow i f s).groups = s.groups ∧ (countFlow i f s).sched = s.sched ∧ (countFlow i f s).trunk = s.trunk ∧
    (countFlow i f s).timer = s.timer ∧ (countFlow i f s).follower = s.follower ∧
    (countFlow i f s).engine = s.engine ∧ (countFlow i f s).snapshot = s.snapshot ∧
    (countFlow i f s).notices = s.notices ∧ (countFlow i f s).counters.ports = s.counters.ports ∧
    (countFlow i f s).counters.lanes = s.counters.lanes ∧ (countFlow i f s).counters.groups = s.counters.groups ∧
    (countFlow i f s).counters.unit = s.counters.unit ∧
    (countFlow i f s).counters.flows = upd s.counters.flows i f := by
  simp [countFlow]

@[simp] theorem countGroup_frame (g : Group) (f : GroupCounters → GroupCounters) (s : State) :
    (countGroup g f s).pending = s.pending ∧ (countGroup g f s).orderDraws = s.orderDraws ∧
    (countGroup g f s).phase = s.phase ∧ (countGroup g f s).ports = s.ports ∧ (countGroup g f s).free = s.free ∧
    (countGroup g f s).lanes = s.lanes ∧ (countGroup g f s).aligner = s.aligner ∧
    (countGroup g f s).flows = s.flows ∧ (countGroup g f s).groups = s.groups ∧
    (countGroup g f s).sched = s.sched ∧ (countGroup g f s).trunk = s.trunk ∧ (countGroup g f s).timer = s.timer ∧
    (countGroup g f s).follower = s.follower ∧ (countGroup g f s).engine = s.engine ∧
    (countGroup g f s).snapshot = s.snapshot ∧ (countGroup g f s).notices = s.notices ∧
    (countGroup g f s).counters.ports = s.counters.ports ∧ (countGroup g f s).counters.lanes = s.counters.lanes ∧
    (countGroup g f s).counters.flows = s.counters.flows ∧ (countGroup g f s).counters.unit = s.counters.unit ∧
    (countGroup g f s).counters.groups = upd s.counters.groups g f := by
  simp [countGroup]

@[simp] theorem countUnit_frame (f : UnitCounters → UnitCounters) (s : State) :
    (countUnit f s).pending = s.pending ∧ (countUnit f s).orderDraws = s.orderDraws ∧
    (countUnit f s).phase = s.phase ∧ (countUnit f s).ports = s.ports ∧ (countUnit f s).free = s.free ∧
    (countUnit f s).lanes = s.lanes ∧ (countUnit f s).aligner = s.aligner ∧ (countUnit f s).flows = s.flows ∧
    (countUnit f s).groups = s.groups ∧ (countUnit f s).sched = s.sched ∧ (countUnit f s).trunk = s.trunk ∧
    (countUnit f s).timer = s.timer ∧ (countUnit f s).follower = s.follower ∧ (countUnit f s).engine = s.engine ∧
    (countUnit f s).snapshot = s.snapshot ∧ (countUnit f s).notices = s.notices ∧
    (countUnit f s).counters.ports = s.counters.ports ∧ (countUnit f s).counters.lanes = s.counters.lanes ∧
    (countUnit f s).counters.flows = s.counters.flows ∧ (countUnit f s).counters.groups = s.counters.groups ∧
    (countUnit f s).counters.unit = f s.counters.unit := by
  simp [countUnit]

/-! ### Places of the state -/

@[simp] theorem modPort_frame (p : Port) (f : PortState → PortState) (s : State) :
    (modPort p f s).pending = s.pending ∧ (modPort p f s).orderDraws = s.orderDraws ∧
    (modPort p f s).phase = s.phase ∧ (modPort p f s).free = s.free ∧ (modPort p f s).lanes = s.lanes ∧
    (modPort p f s).aligner = s.aligner ∧ (modPort p f s).flows = s.flows ∧ (modPort p f s).groups = s.groups ∧
    (modPort p f s).sched = s.sched ∧ (modPort p f s).trunk = s.trunk ∧ (modPort p f s).timer = s.timer ∧
    (modPort p f s).follower = s.follower ∧ (modPort p f s).engine = s.engine ∧
    (modPort p f s).counters = s.counters ∧ (modPort p f s).snapshot = s.snapshot ∧
    (modPort p f s).notices = s.notices ∧ (modPort p f s).ports = upd s.ports p f := by
  simp [modPort]

@[simp] theorem modRx_frame (p : Port) (f : Receiver → Receiver) (s : State) :
    (modRx p f s).pending = s.pending ∧ (modRx p f s).orderDraws = s.orderDraws ∧ (modRx p f s).phase = s.phase ∧
    (modRx p f s).free = s.free ∧ (modRx p f s).lanes = s.lanes ∧ (modRx p f s).aligner = s.aligner ∧
    (modRx p f s).flows = s.flows ∧ (modRx p f s).groups = s.groups ∧ (modRx p f s).sched = s.sched ∧
    (modRx p f s).trunk = s.trunk ∧ (modRx p f s).timer = s.timer ∧ (modRx p f s).follower = s.follower ∧
    (modRx p f s).engine = s.engine ∧ (modRx p f s).counters = s.counters ∧ (modRx p f s).snapshot = s.snapshot ∧
    (modRx p f s).notices = s.notices ∧
    (modRx p f s).ports = upd s.ports p (fun x => { x with rx := f x.rx }) := by
  simp [modRx]

@[simp] theorem modLane_frame (l : Lane) (f : LaneState → LaneState) (s : State) :
    (modLane l f s).pending = s.pending ∧ (modLane l f s).orderDraws = s.orderDraws ∧
    (modLane l f s).phase = s.phase ∧ (modLane l f s).ports = s.ports ∧ (modLane l f s).free = s.free ∧
    (modLane l f s).aligner = s.aligner ∧ (modLane l f s).flows = s.flows ∧ (modLane l f s).groups = s.groups ∧
    (modLane l f s).sched = s.sched ∧ (modLane l f s).trunk = s.trunk ∧ (modLane l f s).timer = s.timer ∧
    (modLane l f s).follower = s.follower ∧ (modLane l f s).engine = s.engine ∧
    (modLane l f s).counters = s.counters ∧ (modLane l f s).snapshot = s.snapshot ∧
    (modLane l f s).notices = s.notices ∧ (modLane l f s).lanes = upd s.lanes l f := by
  simp [modLane]

@[simp] theorem modGroup_frame (g : Group) (f : GroupState → GroupState) (s : State) :
    (modGroup g f s).pending = s.pending ∧ (modGroup g f s).orderDraws = s.orderDraws ∧
    (modGroup g f s).phase = s.phase ∧ (modGroup g f s).ports = s.ports ∧ (modGroup g f s).free = s.free ∧
    (modGroup g f s).lanes = s.lanes ∧ (modGroup g f s).aligner = s.aligner ∧ (modGroup g f s).flows = s.flows ∧
    (modGroup g f s).sched = s.sched ∧ (modGroup g f s).trunk = s.trunk ∧ (modGroup g f s).timer = s.timer ∧
    (modGroup g f s).follower = s.follower ∧ (modGroup g f s).engine = s.engine ∧
    (modGroup g f s).counters = s.counters ∧ (modGroup g f s).snapshot = s.snapshot ∧
    (modGroup g f s).notices = s.notices ∧ (modGroup g f s).groups = upd s.groups g f := by
  simp [modGroup]

@[simp] theorem modFlow_frame (i : FlowIdx) (f : FlowEntry → FlowEntry) (s : State) :
    (modFlow i f s).pending = s.pending ∧ (modFlow i f s).orderDraws = s.orderDraws ∧
    (modFlow i f s).phase = s.phase ∧ (modFlow i f s).ports = s.ports ∧ (modFlow i f s).free = s.free ∧
    (modFlow i f s).lanes = s.lanes ∧ (modFlow i f s).aligner = s.aligner ∧ (modFlow i f s).groups = s.groups ∧
    (modFlow i f s).sched = s.sched ∧ (modFlow i f s).trunk = s.trunk ∧ (modFlow i f s).timer = s.timer ∧
    (modFlow i f s).follower = s.follower ∧ (modFlow i f s).engine = s.engine ∧
    (modFlow i f s).counters = s.counters ∧ (modFlow i f s).snapshot = s.snapshot ∧
    (modFlow i f s).notices = s.notices ∧ (modFlow i f s).flows = upd s.flows i (Option.map f) := by
  simp [modFlow]

@[simp] theorem modWindow_frame (f : List EpochRec → List EpochRec) (s : State) :
    (modWindow f s).pending = s.pending ∧ (modWindow f s).orderDraws = s.orderDraws ∧
    (modWindow f s).phase = s.phase ∧ (modWindow f s).ports = s.ports ∧ (modWindow f s).free = s.free ∧
    (modWindow f s).lanes = s.lanes ∧ (modWindow f s).flows = s.flows ∧ (modWindow f s).groups = s.groups ∧
    (modWindow f s).sched = s.sched ∧ (modWindow f s).trunk = s.trunk ∧ (modWindow f s).timer = s.timer ∧
    (modWindow f s).follower = s.follower ∧ (modWindow f s).engine = s.engine ∧
    (modWindow f s).counters = s.counters ∧ (modWindow f s).snapshot = s.snapshot ∧
    (modWindow f s).notices = s.notices ∧ (modWindow f s).aligner.skew = s.aligner.skew ∧
    (modWindow f s).aligner.releaseSlot = s.aligner.releaseSlot ∧
    (modWindow f s).aligner.lateLimit = s.aligner.lateLimit ∧ (modWindow f s).aligner.running = s.aligner.running ∧
    (modWindow f s).aligner.lastReleased = s.aligner.lastReleased ∧
    (modWindow f s).aligner.window = f s.aligner.window := by
  simp [modWindow]

@[simp] theorem freeBuffers_frame (n : Nat) (s : State) :
    (freeBuffers n s).pending = s.pending ∧ (freeBuffers n s).orderDraws = s.orderDraws ∧
    (freeBuffers n s).phase = s.phase ∧ (freeBuffers n s).ports = s.ports ∧ (freeBuffers n s).lanes = s.lanes ∧
    (freeBuffers n s).aligner = s.aligner ∧ (freeBuffers n s).flows = s.flows ∧
    (freeBuffers n s).groups = s.groups ∧ (freeBuffers n s).sched = s.sched ∧ (freeBuffers n s).trunk = s.trunk ∧
    (freeBuffers n s).timer = s.timer ∧ (freeBuffers n s).follower = s.follower ∧
    (freeBuffers n s).engine = s.engine ∧ (freeBuffers n s).counters = s.counters ∧
    (freeBuffers n s).snapshot = s.snapshot ∧ (freeBuffers n s).notices = s.notices ∧
    (freeBuffers n s).free = s.free + n := by
  simp [freeBuffers]

/-! ### Replies -/

@[simp] theorem reply_frame (r : Request) (st : Status) (o : Octets) (s : State) :
    (reply r st o s).pending = s.pending ∧ (reply r st o s).orderDraws = s.orderDraws ∧
    (reply r st o s).phase = s.phase ∧ (reply r st o s).ports = s.ports ∧ (reply r st o s).free = s.free ∧
    (reply r st o s).lanes = s.lanes ∧ (reply r st o s).aligner = s.aligner ∧ (reply r st o s).flows = s.flows ∧
    (reply r st o s).groups = s.groups ∧ (reply r st o s).sched = s.sched ∧ (reply r st o s).trunk = s.trunk ∧
    (reply r st o s).timer = s.timer ∧ (reply r st o s).follower = s.follower ∧
    (reply r st o s).counters = s.counters ∧ (reply r st o s).snapshot = s.snapshot ∧
    (reply r st o s).notices = s.notices ∧ (reply r st o s).engine.unitAddr = s.engine.unitAddr ∧
    (reply r st o s).engine.owner = s.engine.owner ∧ (reply r st o s).engine.requests = s.engine.requests ∧
    (reply r st o s).engine.inFlight = s.engine.inFlight ∧ (reply r st o s).engine.held = s.engine.held ∧
    (reply r st o s).engine.replies = s.engine.replies ++ [{ port := r.port, code := r.code, tag := r.tag, status := st, result := o }] := by
  simp [reply]

@[simp] theorem openOperation_frame (r : Request) (t : Target) (s : State) :
    (openOperation r t s).pending = s.pending ∧ (openOperation r t s).orderDraws = s.orderDraws ∧
    (openOperation r t s).phase = s.phase ∧ (openOperation r t s).ports = s.ports ∧
    (openOperation r t s).free = s.free ∧ (openOperation r t s).lanes = s.lanes ∧
    (openOperation r t s).aligner = s.aligner ∧ (openOperation r t s).flows = s.flows ∧
    (openOperation r t s).groups = s.groups ∧ (openOperation r t s).sched = s.sched ∧
    (openOperation r t s).trunk = s.trunk ∧ (openOperation r t s).timer = s.timer ∧
    (openOperation r t s).follower = s.follower ∧ (openOperation r t s).counters = s.counters ∧
    (openOperation r t s).snapshot = s.snapshot ∧ (openOperation r t s).notices = s.notices ∧
    (openOperation r t s).engine.unitAddr = s.engine.unitAddr ∧
    (openOperation r t s).engine.owner = s.engine.owner ∧
    (openOperation r t s).engine.requests = s.engine.requests ∧
    (openOperation r t s).engine.replies = s.engine.replies ∧ (openOperation r t s).engine.held = s.engine.held ∧
    (openOperation r t s).engine.inFlight = s.engine.inFlight ++ [{ port := r.port, tag := r.tag, code := r.code, target := t }] := by
  simp [openOperation]

@[simp] theorem refuse_eq (r : Request) (st : Status) (s : State) : refuse r st s = reply r st [] s := rfl

end Sys2Proof.Machine
end

