-- ==== Sys2Proof/Laws/Ops.lean ====
section
/-! SUPPORT. What each operation that the blocks share can do: raising a notice, completing an operation, judging and
emptying a lane queue. -/

namespace Sys2Proof.Machine

/-! ### Notices -/

@[simp] theorem raise_frame (k : NoticeKind) (x : Byte) (d : Octets) (s : State) :
    (raise k x d s).pending = s.pending ∧ (raise k x d s).orderDraws = s.orderDraws ∧
    (raise k x d s).phase = s.phase ∧ (raise k x d s).ports = s.ports ∧ (raise k x d s).free = s.free ∧
    (raise k x d s).lanes = s.lanes ∧ (raise k x d s).aligner = s.aligner ∧ (raise k x d s).flows = s.flows ∧
    (raise k x d s).groups = s.groups ∧ (raise k x d s).sched = s.sched ∧ (raise k x d s).trunk = s.trunk ∧
    (raise k x d s).timer = s.timer ∧ (raise k x d s).follower = s.follower ∧ (raise k x d s).engine = s.engine ∧
    (raise k x d s).snapshot = s.snapshot ∧ (raise k x d s).notices.enabled = s.notices.enabled ∧
    (raise k x d s).counters.ports = s.counters.ports ∧ (raise k x d s).counters.lanes = s.counters.lanes ∧
    (raise k x d s).counters.flows = s.counters.flows ∧ (raise k x d s).counters.groups = s.counters.groups := by
  unfold raise
  split <;> simp

/-- A raise of an enabled kind changes the pending list alone (R181). -/
theorem raise_enabled (k : NoticeKind) (x : Byte) (d : Octets) (s : State) (h : s.notices.enabled[k.place] = true) :
    raise k x d s =
      { s with notices :=
          { s.notices with waiting := applyRaise k x d s.timer.cycle s.notices.waiting } } := by
  simp only [raise, h, if_true]

/-- A raise of a disabled kind changes the suppressed counter alone (R179). -/
theorem raise_disabled (k : NoticeKind) (x : Byte) (d : Octets) (s : State) (h : s.notices.enabled[k.place] = false) :
    raise k x d s = countUnit (fun c => { c with suppressed := bump c.suppressed }) s := by
  simp only [raise, h, Bool.false_eq_true, if_false]

/-! ### Completions -/

@[simp] theorem complete_frame (t : Target) (st : Status) (o : Octets) (s : State) :
    (complete t st o s).pending = s.pending ∧ (complete t st o s).orderDraws = s.orderDraws ∧
    (complete t st o s).phase = s.phase ∧ (complete t st o s).ports = s.ports ∧ (complete t st o s).free = s.free ∧
    (complete t st o s).lanes = s.lanes ∧ (complete t st o s).aligner = s.aligner ∧
    (complete t st o s).flows = s.flows ∧ (complete t st o s).groups = s.groups ∧
    (complete t st o s).sched = s.sched ∧ (complete t st o s).trunk = s.trunk ∧
    (complete t st o s).timer = s.timer ∧ (complete t st o s).follower = s.follower ∧
    (complete t st o s).counters = s.counters ∧ (complete t st o s).snapshot = s.snapshot ∧
    (complete t st o s).notices = s.notices ∧ (complete t st o s).engine.unitAddr = s.engine.unitAddr ∧
    (complete t st o s).engine.owner = s.engine.owner ∧
    (complete t st o s).engine.requests = s.engine.requests := by
  unfold complete
  split
  · simp
  · split <;> simp

/-- All that the end of an operation can do (R151): nothing when no operation names the target; otherwise its entry
leaves the running ones, and its completion is queued when the engine is ready and held last when it is not. -/
theorem complete_cases (t : Target) (st : Status) (o : Octets) (s : State) :
    ((∀ x ∈ s.engine.inFlight, x.target ≠ t) ∧ complete t st o s = s) ∨
    ∃ x ∈ s.engine.inFlight, x.target = t ∧
      ((engineReady s = true ∧
          complete t st o s =
            { s with engine :=
                { s.engine with
                  inFlight := s.engine.inFlight.erase x, replies := s.engine.replies ++ [x.completion st o] } }) ∨
       (engineReady s = false ∧
          complete t st o s =
            { s with engine :=
                { s.engine with
                  inFlight := s.engine.inFlight.erase x,
                  held := s.engine.held ++ [{ op := x, status := st, result := o }] } })) := by
  unfold complete
  split
  · next h => left; simpa using h
  · next x h =>
    right
    refine ⟨x, List.mem_of_find?_eq_some h, by simpa using List.find?_some h, ?_⟩
    by_cases e : engineReady s = true
    · simp [e]
    · simp [e]

@[simp] theorem appendHeld_frame (s : State) :
    (appendHeld s).pending = s.pending ∧ (appendHeld s).orderDraws = s.orderDraws ∧
    (appendHeld s).phase = s.phase ∧ (appendHeld s).ports = s.ports ∧ (appendHeld s).free = s.free ∧
    (appendHeld s).lanes = s.lanes ∧ (appendHeld s).aligner = s.aligner ∧ (appendHeld s).flows = s.flows ∧
    (appendHeld s).groups = s.groups ∧ (appendHeld s).sched = s.sched ∧ (appendHeld s).trunk = s.trunk ∧
    (appendHeld s).timer = s.timer ∧ (appendHeld s).follower = s.follower ∧ (appendHeld s).counters = s.counters ∧
    (appendHeld s).snapshot = s.snapshot ∧ (appendHeld s).notices = s.notices ∧
    (appendHeld s).engine.unitAddr = s.engine.unitAddr ∧ (appendHeld s).engine.owner = s.engine.owner ∧
    (appendHeld s).engine.requests = s.engine.requests ∧ (appendHeld s).engine.inFlight = s.engine.inFlight := by
  unfold appendHeld
  split
  · simp
  · split <;> simp

/-- All that filling a free place from the held order can do (R152). -/
theorem appendHeld_cases (s : State) :
    ((s.engine.held = [] ∨ 16 ≤ s.engine.replies.length) ∧ appendHeld s = s) ∨
    ∃ h rest, s.engine.held = h :: rest ∧ s.engine.replies.length < 16 ∧
      appendHeld s =
        { s with engine :=
            { s.engine with
              replies := s.engine.replies ++ [h.op.completion h.status h.result], held := rest } } := by
  unfold appendHeld
  split
  · next h => left; exact ⟨.inl h, rfl⟩
  · next h rest e =>
    by_cases c : s.engine.replies.length < Config.replyPlaces
    · right; exact ⟨h, rest, e, c, by simp [c]⟩
    · left; exact ⟨.inr (by simpa [Config.replyPlaces] using c), by simp [c]⟩

/-! ### Lane queues -/

@[simp] theorem judgeLane_frame (l : Lane) (s : State) :
    (judgeLane l s).pending = s.pending ∧ (judgeLane l s).orderDraws = s.orderDraws ∧
    (judgeLane l s).phase = s.phase ∧ (judgeLane l s).ports = s.ports ∧ (judgeLane l s).free = s.free ∧
    (judgeLane l s).aligner = s.aligner ∧ (judgeLane l s).flows = s.flows ∧ (judgeLane l s).groups = s.groups ∧
    (judgeLane l s).sched = s.sched ∧ (judgeLane l s).trunk = s.trunk ∧ (judgeLane l s).timer = s.timer ∧
    (judgeLane l s).follower = s.follower ∧ (judgeLane l s).engine = s.engine ∧
    (judgeLane l s).counters = s.counters ∧ (judgeLane l s).snapshot = s.snapshot ∧
    (judgeLane l s).notices = s.notices ∧
    (judgeLane l s).lanes = upd s.lanes l (fun x => { x with high := judgedHigh s.ports[l.port].profile x.queue.length x.high }) := by
  simp [judgeLane]

@[simp] theorem emptyLane_frame (l : Lane) (s : State) :
    (emptyLane l s).pending = s.pending ∧ (emptyLane l s).orderDraws = s.orderDraws ∧
    (emptyLane l s).phase = s.phase ∧ (emptyLane l s).ports = s.ports ∧ (emptyLane l s).aligner = s.aligner ∧
    (emptyLane l s).flows = s.flows ∧ (emptyLane l s).groups = s.groups ∧ (emptyLane l s).sched = s.sched ∧
    (emptyLane l s).trunk = s.trunk ∧ (emptyLane l s).timer = s.timer ∧ (emptyLane l s).follower = s.follower ∧
    (emptyLane l s).engine = s.engine ∧ (emptyLane l s).counters = s.counters ∧
    (emptyLane l s).snapshot = s.snapshot ∧ (emptyLane l s).notices = s.notices ∧
    (emptyLane l s).free = s.free + s.lanes[l].queue.length ∧
    (emptyLane l s).lanes = upd s.lanes l (fun x => { x with queue := [], high := judgedHigh s.ports[l.port].profile 0 x.high }) := by
  simp [emptyLane]

@[simp] theorem takeOut_frame (l : Lane) (e : Epoch) (s : State) :
    (takeOut l e s).pending = s.pending ∧ (takeOut l e s).orderDraws = s.orderDraws ∧
    (takeOut l e s).phase = s.phase ∧ (takeOut l e s).ports = s.ports ∧ (takeOut l e s).free = s.free ∧
    (takeOut l e s).aligner = s.aligner ∧ (takeOut l e s).flows = s.flows ∧ (takeOut l e s).groups = s.groups ∧
    (takeOut l e s).sched = s.sched ∧ (takeOut l e s).trunk = s.trunk ∧ (takeOut l e s).timer = s.timer ∧
    (takeOut l e s).follower = s.follower ∧ (takeOut l e s).engine = s.engine ∧
    (takeOut l e s).counters = s.counters ∧ (takeOut l e s).snapshot = s.snapshot ∧
    (takeOut l e s).notices = s.notices ∧
    (takeOut l e s).lanes = upd s.lanes l (fun x => { x with queue := x.queue.filter (fun r => !(r.epoch == e)), high := judgedHigh s.ports[l.port].profile (x.queue.filter (fun r => !(r.epoch == e))).length x.high }) := by
  simp [takeOut]

@[simp] theorem discardEpoch_frame (l : Lane) (e : Epoch) (s : State) :
    (discardEpoch l e s).pending = s.pending ∧ (discardEpoch l e s).orderDraws = s.orderDraws ∧
    (discardEpoch l e s).phase = s.phase ∧ (discardEpoch l e s).ports = s.ports ∧
    (discardEpoch l e s).aligner = s.aligner ∧ (discardEpoch l e s).flows = s.flows ∧
    (discardEpoch l e s).groups = s.groups ∧ (discardEpoch l e s).sched = s.sched ∧
    (discardEpoch l e s).trunk = s.trunk ∧ (discardEpoch l e s).timer = s.timer ∧
    (discardEpoch l e s).follower = s.follower ∧ (discardEpoch l e s).engine = s.engine ∧
    (discardEpoch l e s).counters = s.counters ∧ (discardEpoch l e s).snapshot = s.snapshot ∧
    (discardEpoch l e s).notices = s.notices ∧ (discardEpoch l e s).free = s.free + (epochRecs s l e).length ∧
    (discardEpoch l e s).lanes = (takeOut l e s).lanes := by
  simp [discardEpoch]

@[simp] theorem laneAppend_frame (l : Lane) (e : Epoch) (c : DataCell) (s : State) :
    (laneAppend l e c s).pending = s.pending ∧ (laneAppend l e c s).orderDraws = s.orderDraws ∧
    (laneAppend l e c s).phase = s.phase ∧ (laneAppend l e c s).ports = s.ports ∧
    (laneAppend l e c s).aligner = s.aligner ∧ (laneAppend l e c s).flows = s.flows ∧
    (laneAppend l e c s).groups = s.groups ∧ (laneAppend l e c s).sched = s.sched ∧
    (laneAppend l e c s).trunk = s.trunk ∧ (laneAppend l e c s).timer = s.timer ∧
    (laneAppend l e c s).follower = s.follower ∧ (laneAppend l e c s).engine = s.engine ∧
    (laneAppend l e c s).snapshot = s.snapshot ∧ (laneAppend l e c s).notices.enabled = s.notices.enabled ∧
    (laneAppend l e c s).counters.lanes = s.counters.lanes ∧
    (laneAppend l e c s).counters.flows = s.counters.flows ∧
    (laneAppend l e c s).counters.groups = s.counters.groups := by
  unfold laneAppend
  split
  · simp
  · split <;> simp

end Sys2Proof.Machine
end

