-- ==== Sys2Proof/Laws/Classify.lean ====
section
/-! SUPPORT. What the Flow Table and the classifier can do. -/

namespace Sys2Proof.Machine

/-! ### Places and keys -/

/-- A key that is found stands in the place found (R86). -/
theorem findKey_some {s : State} {lane inflow : Nat} {i : FlowIdx} (h : findKey s lane inflow = some i) :
    ∃ e, s.flows[i] = some e ∧ e.lane.val = lane ∧ e.inflow.toNat = inflow := by
  have h' := List.find?_some h
  revert h'
  cases e : s.flows[i] with
  | none => simp [holdsKey]
  | some x => intro h'; exact ⟨x, rfl, by simpa [holdsKey] using h'⟩

/-- A key that is not found stands in no place. -/
theorem findKey_none {s : State} {lane inflow : Nat} (h : findKey s lane inflow = none) (i : FlowIdx) (e : FlowEntry)
    (he : s.flows[i] = some e) : ¬(e.lane.val = lane ∧ e.inflow.toNat = inflow) := by
  have h' := List.find?_eq_none.mp h i (by simp [allIndices])
  rw [he] at h'
  simpa [holdsKey] using h'

/-- The lowest free place is free, and every place below it holds an entry (R83). -/
theorem lowestFree_some {s : State} {i : FlowIdx} (h : lowestFree s = some i) :
    s.flows[i] = none ∧ ∀ j : FlowIdx, j < i → s.flows[j] ≠ none := by
  obtain ⟨h1, l, r, h2, h3⟩ := List.find?_eq_some_iff_append.mp h
  refine ⟨by simpa using h1, fun j hj => ?_⟩
  have hm : j ∈ l := by
    have hs : (l ++ i :: r).Pairwise (· < ·) := by rw [← h2]; exact List.pairwise_lt_finRange 256
    have hj' : j ∈ l ++ i :: r := by rw [← h2]; simp [allIndices]
    rcases List.mem_append.mp hj' with m | m
    · exact m
    · rcases List.mem_cons.mp m with m | m
      · exact absurd hj (by simp [m])
      · have := (List.pairwise_cons.mp (List.pairwise_append.mp hs).2.1).1 j m
        exact absurd hj (lt_asymm this)
  have := h3 j hm
  intro e
  rw [e] at this
  simp at this

/-- With no free place every place holds an entry. -/
theorem lowestFree_none {s : State} (h : lowestFree s = none) (i : FlowIdx) : s.flows[i] ≠ none := by
  have := List.find?_eq_none.mp h i (by simp [allIndices])
  intro e
  rw [e] at this
  simp at this

/-! ### The classifier -/

@[simp] theorem giveBack_frame (o : Origin) (s : State) :
    (giveBack o s).pending = s.pending ∧ (giveBack o s).orderDraws = s.orderDraws ∧
    (giveBack o s).phase = s.phase ∧ (giveBack o s).ports = s.ports ∧ (giveBack o s).lanes = s.lanes ∧
    (giveBack o s).aligner = s.aligner ∧ (giveBack o s).flows = s.flows ∧ (giveBack o s).groups = s.groups ∧
    (giveBack o s).sched = s.sched ∧ (giveBack o s).trunk = s.trunk ∧ (giveBack o s).timer = s.timer ∧
    (giveBack o s).follower = s.follower ∧ (giveBack o s).engine = s.engine ∧
    (giveBack o s).counters = s.counters ∧ (giveBack o s).snapshot = s.snapshot ∧
    (giveBack o s).notices = s.notices ∧ (giveBack o s).free = s.free + (if o.holdsBuffer then 1 else 0) := by
  unfold giveBack
  split <;> simp

@[simp] theorem enqueue_frame (i : FlowIdx) (g : Group) (o : Origin) (c : DataCell) (s : State) :
    (enqueue i g o c s).pending = s.pending ∧ (enqueue i g o c s).orderDraws = s.orderDraws ∧
    (enqueue i g o c s).phase = s.phase ∧ (enqueue i g o c s).ports = s.ports ∧ (enqueue i g o c s).free = s.free ∧
    (enqueue i g o c s).lanes = s.lanes ∧ (enqueue i g o c s).aligner = s.aligner ∧ (enqueue i g o c s).sched = s.sched ∧
    (enqueue i g o c s).trunk = s.trunk ∧ (enqueue i g o c s).timer = s.timer ∧
    (enqueue i g o c s).follower = s.follower ∧ (enqueue i g o c s).engine = s.engine ∧
    (enqueue i g o c s).snapshot = s.snapshot ∧ (enqueue i g o c s).notices = s.notices ∧
    (enqueue i g o c s).counters.ports = s.counters.ports ∧ (enqueue i g o c s).counters.lanes = s.counters.lanes ∧
    (enqueue i g o c s).counters.unit = s.counters.unit ∧
    (enqueue i g o c s).flows = upd s.flows i (Option.map fun x => { x with inQueue := x.inQueue + 1, admitted := min (x.admitted + 1) 65535 }) ∧
    (enqueue i g o c s).groups = upd s.groups g (fun q => { q with queue := q.queue ++ [{ cell := c, entry := i, origin := o }] }) := by
  simp [enqueue]

@[simp] theorem groupAdmission_frame (i : FlowIdx) (g : Group) (o : Origin) (c : DataCell) (s : State) :
    (groupAdmission i g o c s).pending = s.pending ∧ (groupAdmission i g o c s).orderDraws = s.orderDraws ∧
    (groupAdmission i g o c s).phase = s.phase ∧ (groupAdmission i g o c s).ports = s.ports ∧
    (groupAdmission i g o c s).lanes = s.lanes ∧ (groupAdmission i g o c s).aligner = s.aligner ∧
    (groupAdmission i g o c s).sched = s.sched ∧ (groupAdmission i g o c s).trunk = s.trunk ∧
    (groupAdmission i g o c s).timer = s.timer ∧ (groupAdmission i g o c s).follower = s.follower ∧
    (groupAdmission i g o c s).engine = s.engine ∧ (groupAdmission i g o c s).snapshot = s.snapshot ∧
    (groupAdmission i g o c s).notices.enabled = s.notices.enabled ∧
    (groupAdmission i g o c s).counters.lanes = s.counters.lanes := by
  unfold groupAdmission
  repeat' split
  all_goals simp

@[simp] theorem classifyHit_frame (i : FlowIdx) (e : FlowEntry) (o : Origin) (c : DataCell) (s : State) :
    (classifyHit i e o c s).pending = s.pending ∧ (classifyHit i e o c s).orderDraws = s.orderDraws ∧
    (classifyHit i e o c s).phase = s.phase ∧ (classifyHit i e o c s).ports = s.ports ∧
    (classifyHit i e o c s).lanes = s.lanes ∧ (classifyHit i e o c s).aligner = s.aligner ∧
    (classifyHit i e o c s).sched = s.sched ∧ (classifyHit i e o c s).trunk = s.trunk ∧
    (classifyHit i e o c s).timer = s.timer ∧ (classifyHit i e o c s).follower = s.follower ∧
    (classifyHit i e o c s).engine = s.engine ∧ (classifyHit i e o c s).snapshot = s.snapshot ∧
    (classifyHit i e o c s).notices.enabled = s.notices.enabled ∧
    (classifyHit i e o c s).counters.lanes = s.counters.lanes := by
  unfold classifyHit
  repeat' split
  all_goals simp

@[simp] theorem classify_frame (o : Origin) (c : DataCell) (s : State) :
    (classify o c s).pending = s.pending ∧ (classify o c s).orderDraws = s.orderDraws ∧
    (classify o c s).phase = s.phase ∧ (classify o c s).ports = s.ports ∧ (classify o c s).lanes = s.lanes ∧
    (classify o c s).aligner = s.aligner ∧ (classify o c s).sched = s.sched ∧ (classify o c s).trunk = s.trunk ∧
    (classify o c s).timer = s.timer ∧ (classify o c s).follower = s.follower ∧
    (classify o c s).engine = s.engine ∧ (classify o c s).snapshot = s.snapshot ∧
    (classify o c s).notices.enabled = s.notices.enabled ∧ (classify o c s).counters.lanes = s.counters.lanes := by
  unfold classify
  repeat' split
  all_goals simp

@[simp] theorem renewBudgets_frame (s : State) :
    (renewBudgets s).pending = s.pending ∧ (renewBudgets s).orderDraws = s.orderDraws ∧
    (renewBudgets s).phase = s.phase ∧ (renewBudgets s).ports = s.ports ∧ (renewBudgets s).free = s.free ∧
    (renewBudgets s).lanes = s.lanes ∧ (renewBudgets s).aligner = s.aligner ∧ (renewBudgets s).groups = s.groups ∧
    (renewBudgets s).sched = s.sched ∧ (renewBudgets s).trunk = s.trunk ∧ (renewBudgets s).timer = s.timer ∧
    (renewBudgets s).follower = s.follower ∧ (renewBudgets s).engine = s.engine ∧
    (renewBudgets s).counters = s.counters ∧ (renewBudgets s).snapshot = s.snapshot ∧
    (renewBudgets s).notices = s.notices ∧
    (renewBudgets s).flows = s.flows.map (Option.map fun e => { e with admitted := 0 }) := by
  simp [renewBudgets]

@[simp] theorem endDrain_frame (i : FlowIdx) (s : State) :
    (endDrain i s).pending = s.pending ∧ (endDrain i s).orderDraws = s.orderDraws ∧
    (endDrain i s).phase = s.phase ∧ (endDrain i s).ports = s.ports ∧ (endDrain i s).free = s.free ∧
    (endDrain i s).lanes = s.lanes ∧ (endDrain i s).aligner = s.aligner ∧ (endDrain i s).groups = s.groups ∧
    (endDrain i s).sched = s.sched ∧ (endDrain i s).trunk = s.trunk ∧ (endDrain i s).timer = s.timer ∧
    (endDrain i s).follower = s.follower ∧ (endDrain i s).counters = s.counters ∧
    (endDrain i s).snapshot = s.snapshot ∧ (endDrain i s).notices = s.notices ∧
    (endDrain i s).engine.unitAddr = s.engine.unitAddr ∧ (endDrain i s).engine.owner = s.engine.owner ∧
    (endDrain i s).engine.requests = s.engine.requests := by
  unfold endDrain
  split
  · simp
  · split <;> simp

/-- All that the end of a drain can do (R101): nothing unless the entry is DRAINING with in-queue count 0; then it
leaves its place and the operation on it completes. -/
theorem endDrain_cases (i : FlowIdx) (s : State) :
    ((∀ e, s.flows[i] = some e → ¬(e.draining = true ∧ e.inQueue = 0)) ∧ endDrain i s = s) ∨
    ∃ e, s.flows[i] = some e ∧ e.draining = true ∧ e.inQueue = 0 ∧
      endDrain i s = complete (.flow i) .done [] { s with flows := upd s.flows i (fun _ => none) } := by
  unfold endDrain
  split
  · next h => left; exact ⟨fun e he => absurd (h.symm.trans he) (by simp), rfl⟩
  · next e h =>
    by_cases c : e.draining = true ∧ e.inQueue = 0
    · right; exact ⟨e, h, c.1, c.2, by simp [c.1, c.2]⟩
    · left
      refine ⟨fun x hx => ?_, by simp only [Bool.and_eq_true, beq_iff_eq, c, if_false]⟩
      rw [h] at hx
      simp at hx
      subst hx
      exact c

end Sys2Proof.Machine
end

