-- ==== Sys2Proof/Laws/Align.lean ====
section
/-! SUPPORT. What the Epoch Aligner's operations leave alone, and the places they change. -/

namespace Sys2Proof.Machine

/-! ### Records -/

@[simp] theorem setStatus_fields (l : Lane) (x : LaneStatus) (r : EpochRec) :
    (r.setStatus l x).epoch = r.epoch ∧ (r.setStatus l x).due = r.due ∧ (r.setStatus l x).arrivals = r.arrivals ∧
    (r.setStatus l x).status = upd r.status l (fun _ => x) := by
  simp [EpochRec.setStatus]

@[simp] theorem setArrivals_fields (l : Lane) (n : Nat) (r : EpochRec) :
    (r.setArrivals l n).epoch = r.epoch ∧ (r.setArrivals l n).due = r.due ∧
    (r.setArrivals l n).status = r.status ∧ (r.setArrivals l n).arrivals = upd r.arrivals l (fun _ => n) := by
  simp [EpochRec.setArrivals]

@[simp] theorem makeDue_fields (d : Nat) (r : EpochRec) :
    (r.makeDue d).epoch = r.epoch ∧ (r.makeDue d).status = r.status ∧ (r.makeDue d).arrivals = r.arrivals := by
  unfold EpochRec.makeDue; split <;> simp

@[simp] theorem dueIfEmpty_fields (d : Nat) (r : EpochRec) :
    (r.dueIfEmpty d).epoch = r.epoch ∧ (r.dueIfEmpty d).status = r.status ∧
    (r.dueIfEmpty d).arrivals = r.arrivals := by
  unfold EpochRec.dueIfEmpty; split <;> simp

@[simp] theorem newRecord_fields (s : State) (e : Epoch) :
    (newRecord s e).epoch = e ∧ (newRecord s e).due = none ∧ (newRecord s e).arrivals = Vector.replicate 6 0 := by
  simp [newRecord]

/-- A due count that is present stays, and one that is absent becomes D + 1 (R58). -/
theorem makeDue_due (d : Nat) (r : EpochRec) : (r.makeDue d).due = some (r.due.getD (d + 1)) := by
  unfold EpochRec.makeDue; split <;> simp [*]

/-! ### Frames -/

@[simp] theorem modRecord_frame (e : Epoch) (f : EpochRec → EpochRec) (s : State) :
    (modRecord e f s).pending = s.pending ∧ (modRecord e f s).orderDraws = s.orderDraws ∧
    (modRecord e f s).phase = s.phase ∧ (modRecord e f s).ports = s.ports ∧ (modRecord e f s).free = s.free ∧
    (modRecord e f s).lanes = s.lanes ∧ (modRecord e f s).flows = s.flows ∧ (modRecord e f s).groups = s.groups ∧
    (modRecord e f s).sched = s.sched ∧ (modRecord e f s).trunk = s.trunk ∧ (modRecord e f s).timer = s.timer ∧
    (modRecord e f s).follower = s.follower ∧ (modRecord e f s).engine = s.engine ∧
    (modRecord e f s).counters = s.counters ∧ (modRecord e f s).snapshot = s.snapshot ∧
    (modRecord e f s).notices = s.notices ∧ (modRecord e f s).aligner.skew = s.aligner.skew ∧
    (modRecord e f s).aligner.releaseSlot = s.aligner.releaseSlot ∧
    (modRecord e f s).aligner.lateLimit = s.aligner.lateLimit ∧
    (modRecord e f s).aligner.running = s.aligner.running ∧
    (modRecord e f s).aligner.lastReleased = s.aligner.lastReleased ∧
    (modRecord e f s).aligner.window = s.aligner.window.map (fun r => if r.epoch == e then f r else r) := by
  simp [modRecord]

@[simp] theorem dueEmptyRecords_frame (s : State) :
    (dueEmptyRecords s).pending = s.pending ∧ (dueEmptyRecords s).orderDraws = s.orderDraws ∧
    (dueEmptyRecords s).phase = s.phase ∧ (dueEmptyRecords s).ports = s.ports ∧ (dueEmptyRecords s).free = s.free ∧
    (dueEmptyRecords s).lanes = s.lanes ∧ (dueEmptyRecords s).flows = s.flows ∧
    (dueEmptyRecords s).groups = s.groups ∧ (dueEmptyRecords s).sched = s.sched ∧
    (dueEmptyRecords s).trunk = s.trunk ∧ (dueEmptyRecords s).timer = s.timer ∧
    (dueEmptyRecords s).follower = s.follower ∧ (dueEmptyRecords s).engine = s.engine ∧
    (dueEmptyRecords s).counters = s.counters ∧ (dueEmptyRecords s).snapshot = s.snapshot ∧
    (dueEmptyRecords s).notices = s.notices ∧ (dueEmptyRecords s).aligner.skew = s.aligner.skew ∧
    (dueEmptyRecords s).aligner.releaseSlot = s.aligner.releaseSlot ∧
    (dueEmptyRecords s).aligner.lateLimit = s.aligner.lateLimit ∧
    (dueEmptyRecords s).aligner.running = s.aligner.running ∧
    (dueEmptyRecords s).aligner.lastReleased = s.aligner.lastReleased ∧
    (dueEmptyRecords s).aligner.window = s.aligner.window.map (EpochRec.dueIfEmpty s.aligner.skew) := by
  simp [dueEmptyRecords]

@[simp] theorem setResetTest_frame (s : State) :
    (setResetTest s).pending = s.pending ∧ (setResetTest s).orderDraws = s.orderDraws ∧
    (setResetTest s).phase = s.phase ∧ (setResetTest s).ports = s.ports ∧ (setResetTest s).free = s.free ∧
    (setResetTest s).lanes = s.lanes ∧ (setResetTest s).flows = s.flows ∧ (setResetTest s).groups = s.groups ∧
    (setResetTest s).sched = s.sched ∧ (setResetTest s).trunk = s.trunk ∧ (setResetTest s).timer = s.timer ∧
    (setResetTest s).follower = s.follower ∧ (setResetTest s).engine = s.engine ∧
    (setResetTest s).counters = s.counters ∧ (setResetTest s).snapshot = s.snapshot ∧
    (setResetTest s).notices = s.notices ∧ (setResetTest s).aligner.skew = s.aligner.skew ∧
    (setResetTest s).aligner.releaseSlot = s.aligner.releaseSlot ∧
    (setResetTest s).aligner.lateLimit = s.aligner.lateLimit ∧
    (setResetTest s).aligner.window = s.aligner.window := by
  unfold setResetTest
  split <;> simp

@[simp] theorem eject_frame (l : Lane) (e : Epoch) (n : Nat) (s : State) :
    (eject l e n s).pending = s.pending ∧ (eject l e n s).orderDraws = s.orderDraws ∧
    (eject l e n s).phase = s.phase ∧ (eject l e n s).ports = s.ports ∧ (eject l e n s).free = s.free ∧
    (eject l e n s).flows = s.flows ∧ (eject l e n s).groups = s.groups ∧ (eject l e n s).sched = s.sched ∧
    (eject l e n s).trunk = s.trunk ∧ (eject l e n s).timer = s.timer ∧ (eject l e n s).follower = s.follower ∧
    (eject l e n s).engine = s.engine ∧ (eject l e n s).snapshot = s.snapshot ∧
    (eject l e n s).aligner.skew = s.aligner.skew ∧ (eject l e n s).aligner.releaseSlot = s.aligner.releaseSlot ∧
    (eject l e n s).aligner.lateLimit = s.aligner.lateLimit ∧ (eject l e n s).aligner.running = s.aligner.running ∧
    (eject l e n s).aligner.lastReleased = s.aligner.lastReleased ∧
    (eject l e n s).notices.enabled = s.notices.enabled ∧ (eject l e n s).counters.ports = s.counters.ports ∧
    (eject l e n s).counters.flows = s.counters.flows ∧ (eject l e n s).counters.groups = s.counters.groups ∧
    (eject l e n s).lanes = upd s.lanes l (fun x => { x with member := .lagging }) := by
  simp [eject]

@[simp] theorem lateCharge_frame (l : Lane) (e : Epoch) (s : State) :
    (lateCharge l e s).pending = s.pending ∧ (lateCharge l e s).orderDraws = s.orderDraws ∧
    (lateCharge l e s).phase = s.phase ∧ (lateCharge l e s).ports = s.ports ∧ (lateCharge l e s).flows = s.flows ∧
    (lateCharge l e s).groups = s.groups ∧ (lateCharge l e s).sched = s.sched ∧
    (lateCharge l e s).trunk = s.trunk ∧ (lateCharge l e s).timer = s.timer ∧
    (lateCharge l e s).follower = s.follower ∧ (lateCharge l e s).engine = s.engine ∧
    (lateCharge l e s).snapshot = s.snapshot ∧ (lateCharge l e s).aligner.skew = s.aligner.skew ∧
    (lateCharge l e s).aligner.releaseSlot = s.aligner.releaseSlot ∧
    (lateCharge l e s).aligner.lateLimit = s.aligner.lateLimit ∧
    (lateCharge l e s).aligner.running = s.aligner.running ∧
    (lateCharge l e s).aligner.lastReleased = s.aligner.lastReleased ∧
    (lateCharge l e s).notices.enabled = s.notices.enabled ∧ (lateCharge l e s).counters.ports = s.counters.ports ∧
    (lateCharge l e s).counters.flows = s.counters.flows ∧
    (lateCharge l e s).counters.groups = s.counters.groups := by
  unfold lateCharge
  dsimp only
  split <;> simp

/-- The classifier takes the cells of a release one after another (R71). -/
@[simp] theorem classifyAll_frame (o : Origin) (q : List LaneRec) (s : State) :
    (q.foldl (fun s r => classify o r.cell s) s).pending = s.pending ∧
    (q.foldl (fun s r => classify o r.cell s) s).orderDraws = s.orderDraws ∧
    (q.foldl (fun s r => classify o r.cell s) s).phase = s.phase ∧
    (q.foldl (fun s r => classify o r.cell s) s).ports = s.ports ∧
    (q.foldl (fun s r => classify o r.cell s) s).lanes = s.lanes ∧
    (q.foldl (fun s r => classify o r.cell s) s).aligner = s.aligner ∧
    (q.foldl (fun s r => classify o r.cell s) s).sched = s.sched ∧
    (q.foldl (fun s r => classify o r.cell s) s).trunk = s.trunk ∧
    (q.foldl (fun s r => classify o r.cell s) s).timer = s.timer ∧
    (q.foldl (fun s r => classify o r.cell s) s).follower = s.follower ∧
    (q.foldl (fun s r => classify o r.cell s) s).engine = s.engine ∧
    (q.foldl (fun s r => classify o r.cell s) s).snapshot = s.snapshot ∧
    (q.foldl (fun s r => classify o r.cell s) s).notices.enabled = s.notices.enabled ∧
    (q.foldl (fun s r => classify o r.cell s) s).counters.lanes = s.counters.lanes := by
  induction q generalizing s with
  | nil => simp
  | cons r q ih => simp [ih]

@[simp] theorem releaseLane_frame (l : Lane) (e : Epoch) (s : State) :
    (releaseLane l e s).pending = s.pending ∧ (releaseLane l e s).orderDraws = s.orderDraws ∧
    (releaseLane l e s).phase = s.phase ∧ (releaseLane l e s).ports = s.ports ∧
    (releaseLane l e s).aligner = s.aligner ∧ (releaseLane l e s).sched = s.sched ∧
    (releaseLane l e s).trunk = s.trunk ∧ (releaseLane l e s).timer = s.timer ∧
    (releaseLane l e s).follower = s.follower ∧ (releaseLane l e s).engine = s.engine ∧
    (releaseLane l e s).snapshot = s.snapshot ∧ (releaseLane l e s).notices.enabled = s.notices.enabled ∧
    (releaseLane l e s).counters.lanes = s.counters.lanes := by
  simp [releaseLane]

@[simp] theorem countRelease_frame (forced : Bool) (r : EpochRec) (s : State) :
    (countRelease forced r s).pending = s.pending ∧ (countRelease forced r s).orderDraws = s.orderDraws ∧
    (countRelease forced r s).phase = s.phase ∧ (countRelease forced r s).ports = s.ports ∧
    (countRelease forced r s).free = s.free ∧ (countRelease forced r s).lanes = s.lanes ∧
    (countRelease forced r s).aligner = s.aligner ∧ (countRelease forced r s).flows = s.flows ∧
    (countRelease forced r s).groups = s.groups ∧ (countRelease forced r s).sched = s.sched ∧
    (countRelease forced r s).trunk = s.trunk ∧ (countRelease forced r s).timer = s.timer ∧
    (countRelease forced r s).follower = s.follower ∧ (countRelease forced r s).engine = s.engine ∧
    (countRelease forced r s).snapshot = s.snapshot ∧ (countRelease forced r s).notices = s.notices ∧
    (countRelease forced r s).counters.ports = s.counters.ports ∧
    (countRelease forced r s).counters.lanes = s.counters.lanes ∧
    (countRelease forced r s).counters.flows = s.counters.flows ∧
    (countRelease forced r s).counters.groups = s.counters.groups := by
  simp [countRelease]

theorem lateCharges_frame (ls : List Lane) (r : EpochRec) (s : State) :
    (ls.foldl (fun s l => if r.status[l] = .expected then lateCharge l r.epoch s else s) s).pending = s.pending ∧
    (ls.foldl (fun s l => if r.status[l] = .expected then lateCharge l r.epoch s else s) s).orderDraws = s.orderDraws ∧
    (ls.foldl (fun s l => if r.status[l] = .expected then lateCharge l r.epoch s else s) s).phase = s.phase ∧
    (ls.foldl (fun s l => if r.status[l] = .expected then lateCharge l r.epoch s else s) s).ports = s.ports ∧
    (ls.foldl (fun s l => if r.status[l] = .expected then lateCharge l r.epoch s else s) s).flows = s.flows ∧
    (ls.foldl (fun s l => if r.status[l] = .expected then lateCharge l r.epoch s else s) s).groups = s.groups ∧
    (ls.foldl (fun s l => if r.status[l] = .expected then lateCharge l r.epoch s else s) s).sched = s.sched ∧
    (ls.foldl (fun s l => if r.status[l] = .expected then lateCharge l r.epoch s else s) s).trunk = s.trunk ∧
    (ls.foldl (fun s l => if r.status[l] = .expected then lateCharge l r.epoch s else s) s).timer = s.timer ∧
    (ls.foldl (fun s l => if r.status[l] = .expected then lateCharge l r.epoch s else s) s).follower = s.follower ∧
    (ls.foldl (fun s l => if r.status[l] = .expected then lateCharge l r.epoch s else s) s).engine = s.engine ∧
    (ls.foldl (fun s l => if r.status[l] = .expected then lateCharge l r.epoch s else s) s).snapshot = s.snapshot ∧
    (ls.foldl (fun s l => if r.status[l] = .expected then lateCharge l r.epoch s else s) s).aligner.skew = s.aligner.skew ∧
    (ls.foldl (fun s l => if r.status[l] = .expected then lateCharge l r.epoch s else s) s).aligner.releaseSlot = s.aligner.releaseSlot ∧
    (ls.foldl (fun s l => if r.status[l] = .expected then lateCharge l r.epoch s else s) s).aligner.lateLimit = s.aligner.lateLimit ∧
    (ls.foldl (fun s l => if r.status[l] = .expected then lateCharge l r.epoch s else s) s).aligner.running = s.aligner.running ∧
    (ls.foldl (fun s l => if r.status[l] = .expected then lateCharge l r.epoch s else s) s).aligner.lastReleased = s.aligner.lastReleased ∧
    (ls.foldl (fun s l => if r.status[l] = .expected then lateCharge l r.epoch s else s) s).notices.enabled = s.notices.enabled ∧
    (ls.foldl (fun s l => if r.status[l] = .expected then lateCharge l r.epoch s else s) s).counters.ports = s.counters.ports ∧
    (ls.foldl (fun s l => if r.status[l] = .expected then lateCharge l r.epoch s else s) s).counters.flows = s.counters.flows ∧
    (ls.foldl (fun s l => if r.status[l] = .expected then lateCharge l r.epoch s else s) s).counters.groups = s.counters.groups := by
  induction ls generalizing s with
  | nil => simp
  | cons l ls ih =>
    simp only [List.foldl_cons, ih]
    split <;> simp

theorem releaseLanes_frame (ls : List Lane) (r : EpochRec) (s : State) :
    (ls.foldl (fun s l => if r.status[l] = .closed then releaseLane l r.epoch s else s) s).pending = s.pending ∧
    (ls.foldl (fun s l => if r.status[l] = .closed then releaseLane l r.epoch s else s) s).orderDraws = s.orderDraws ∧
    (ls.foldl (fun s l => if r.status[l] = .closed then releaseLane l r.epoch s else s) s).phase = s.phase ∧
    (ls.foldl (fun s l => if r.status[l] = .closed then releaseLane l r.epoch s else s) s).ports = s.ports ∧
    (ls.foldl (fun s l => if r.status[l] = .closed then releaseLane l r.epoch s else s) s).aligner = s.aligner ∧
    (ls.foldl (fun s l => if r.status[l] = .closed then releaseLane l r.epoch s else s) s).sched = s.sched ∧
    (ls.foldl (fun s l => if r.status[l] = .closed then releaseLane l r.epoch s else s) s).trunk = s.trunk ∧
    (ls.foldl (fun s l => if r.status[l] = .closed then releaseLane l r.epoch s else s) s).timer = s.timer ∧
    (ls.foldl (fun s l => if r.status[l] = .closed then releaseLane l r.epoch s else s) s).follower = s.follower ∧
    (ls.foldl (fun s l => if r.status[l] = .closed then releaseLane l r.epoch s else s) s).engine = s.engine ∧
    (ls.foldl (fun s l => if r.status[l] = .closed then releaseLane l r.epoch s else s) s).snapshot = s.snapshot ∧
    (ls.foldl (fun s l => if r.status[l] = .closed then releaseLane l r.epoch s else s) s).notices.enabled = s.notices.enabled ∧
    (ls.foldl (fun s l => if r.status[l] = .closed then releaseLane l r.epoch s else s) s).counters.lanes = s.counters.lanes := by
  induction ls generalizing s with
  | nil => simp
  | cons l ls ih =>
    simp only [List.foldl_cons, ih]
    split <;> simp

@[simp] theorem releaseOldest_frame (forced : Bool) (s : State) :
    (releaseOldest forced s).pending = s.pending ∧ (releaseOldest forced s).orderDraws = s.orderDraws ∧
    (releaseOldest forced s).phase = s.phase ∧ (releaseOldest forced s).ports = s.ports ∧
    (releaseOldest forced s).sched = s.sched ∧ (releaseOldest forced s).trunk = s.trunk ∧
    (releaseOldest forced s).timer = s.timer ∧ (releaseOldest forced s).follower = s.follower ∧
    (releaseOldest forced s).engine = s.engine ∧ (releaseOldest forced s).snapshot = s.snapshot ∧
    (releaseOldest forced s).aligner.skew = s.aligner.skew ∧
    (releaseOldest forced s).aligner.releaseSlot = s.aligner.releaseSlot ∧
    (releaseOldest forced s).aligner.lateLimit = s.aligner.lateLimit ∧
    (releaseOldest forced s).notices.enabled = s.notices.enabled := by
  unfold releaseOldest
  split
  · simp
  · simp [lateCharges_frame, releaseLanes_frame, -Fin.getElem_fin]

@[simp] theorem forcedRelease_frame (s : State) :
    (forcedRelease s).pending = s.pending ∧ (forcedRelease s).orderDraws = s.orderDraws ∧
    (forcedRelease s).phase = s.phase ∧ (forcedRelease s).ports = s.ports ∧ (forcedRelease s).sched = s.sched ∧
    (forcedRelease s).trunk = s.trunk ∧ (forcedRelease s).timer = s.timer ∧
    (forcedRelease s).follower = s.follower ∧ (forcedRelease s).engine = s.engine ∧
    (forcedRelease s).snapshot = s.snapshot ∧ (forcedRelease s).aligner.skew = s.aligner.skew ∧
    (forcedRelease s).aligner.releaseSlot = s.aligner.releaseSlot ∧
    (forcedRelease s).aligner.lateLimit = s.aligner.lateLimit ∧
    (forcedRelease s).notices.enabled = s.notices.enabled := by
  unfold forcedRelease
  split <;> simp

@[simp] theorem releaseMany_frame (n : Nat) (s : State) :
    (releaseMany n s).pending = s.pending ∧ (releaseMany n s).orderDraws = s.orderDraws ∧
    (releaseMany n s).phase = s.phase ∧ (releaseMany n s).ports = s.ports ∧ (releaseMany n s).sched = s.sched ∧
    (releaseMany n s).trunk = s.trunk ∧ (releaseMany n s).timer = s.timer ∧
    (releaseMany n s).follower = s.follower ∧ (releaseMany n s).engine = s.engine ∧
    (releaseMany n s).snapshot = s.snapshot ∧ (releaseMany n s).aligner.skew = s.aligner.skew ∧
    (releaseMany n s).aligner.releaseSlot = s.aligner.releaseSlot ∧
    (releaseMany n s).aligner.lateLimit = s.aligner.lateLimit ∧
    (releaseMany n s).notices.enabled = s.notices.enabled := by
  induction n generalizing s with
  | zero => simp [releaseMany]
  | succ n ih => simp [releaseMany, ih]

@[simp] theorem releasePoint_frame (s : State) :
    (releasePoint s).pending = s.pending ∧ (releasePoint s).orderDraws = s.orderDraws ∧
    (releasePoint s).phase = s.phase ∧ (releasePoint s).ports = s.ports ∧ (releasePoint s).sched = s.sched ∧
    (releasePoint s).trunk = s.trunk ∧ (releasePoint s).timer = s.timer ∧ (releasePoint s).follower = s.follower ∧
    (releasePoint s).engine = s.engine ∧ (releasePoint s).snapshot = s.snapshot ∧
    (releasePoint s).aligner.skew = s.aligner.skew ∧ (releasePoint s).aligner.releaseSlot = s.aligner.releaseSlot ∧
    (releasePoint s).aligner.lateLimit = s.aligner.lateLimit ∧
    (releasePoint s).notices.enabled = s.notices.enabled := by
  simp [releasePoint]

@[simp] theorem join_frame (l : Lane) (e : Epoch) (s : State) :
    (join l e s).pending = s.pending ∧ (join l e s).orderDraws = s.orderDraws ∧ (join l e s).phase = s.phase ∧
    (join l e s).ports = s.ports ∧ (join l e s).free = s.free ∧ (join l e s).flows = s.flows ∧
    (join l e s).groups = s.groups ∧ (join l e s).sched = s.sched ∧ (join l e s).trunk = s.trunk ∧
    (join l e s).timer = s.timer ∧ (join l e s).follower = s.follower ∧ (join l e s).engine = s.engine ∧
    (join l e s).snapshot = s.snapshot ∧ (join l e s).notices = s.notices ∧
    (join l e s).aligner.skew = s.aligner.skew ∧ (join l e s).aligner.releaseSlot = s.aligner.releaseSlot ∧
    (join l e s).aligner.lateLimit = s.aligner.lateLimit ∧ (join l e s).counters.ports = s.counters.ports ∧
    (join l e s).counters.flows = s.counters.flows ∧ (join l e s).counters.groups = s.counters.groups ∧
    (join l e s).counters.unit = s.counters.unit ∧ (join l e s).aligner.lastReleased = s.aligner.lastReleased := by
  unfold join
  split <;> simp

@[simp] theorem tryJoin_frame (l : Lane) (e : Epoch) (s : State) :
    (tryJoin l e s).pending = s.pending ∧ (tryJoin l e s).orderDraws = s.orderDraws ∧
    (tryJoin l e s).phase = s.phase ∧ (tryJoin l e s).ports = s.ports ∧ (tryJoin l e s).free = s.free ∧
    (tryJoin l e s).flows = s.flows ∧ (tryJoin l e s).groups = s.groups ∧ (tryJoin l e s).sched = s.sched ∧
    (tryJoin l e s).trunk = s.trunk ∧ (tryJoin l e s).timer = s.timer ∧ (tryJoin l e s).follower = s.follower ∧
    (tryJoin l e s).engine = s.engine ∧ (tryJoin l e s).snapshot = s.snapshot ∧
    (tryJoin l e s).notices = s.notices ∧ (tryJoin l e s).aligner.skew = s.aligner.skew ∧
    (tryJoin l e s).aligner.releaseSlot = s.aligner.releaseSlot ∧
    (tryJoin l e s).aligner.lateLimit = s.aligner.lateLimit ∧ (tryJoin l e s).counters.ports = s.counters.ports ∧
    (tryJoin l e s).counters.flows = s.counters.flows ∧ (tryJoin l e s).counters.groups = s.counters.groups ∧
    (tryJoin l e s).counters.unit = s.counters.unit ∧
    (tryJoin l e s).aligner.lastReleased = s.aligner.lastReleased := by
  unfold tryJoin
  split <;> simp

@[simp] theorem closeRecord_frame (l : Lane) (c : Epoch) (n : Nat) (s : State) :
    (closeRecord l c n s).pending = s.pending ∧ (closeRecord l c n s).orderDraws = s.orderDraws ∧
    (closeRecord l c n s).phase = s.phase ∧ (closeRecord l c n s).ports = s.ports ∧
    (closeRecord l c n s).free = s.free ∧ (closeRecord l c n s).lanes = s.lanes ∧
    (closeRecord l c n s).flows = s.flows ∧ (closeRecord l c n s).groups = s.groups ∧
    (closeRecord l c n s).sched = s.sched ∧ (closeRecord l c n s).trunk = s.trunk ∧
    (closeRecord l c n s).timer = s.timer ∧ (closeRecord l c n s).follower = s.follower ∧
    (closeRecord l c n s).engine = s.engine ∧ (closeRecord l c n s).snapshot = s.snapshot ∧
    (closeRecord l c n s).aligner.skew = s.aligner.skew ∧
    (closeRecord l c n s).aligner.releaseSlot = s.aligner.releaseSlot ∧
    (closeRecord l c n s).aligner.lateLimit = s.aligner.lateLimit ∧
    (closeRecord l c n s).aligner.running = s.aligner.running ∧
    (closeRecord l c n s).aligner.lastReleased = s.aligner.lastReleased ∧
    (closeRecord l c n s).notices.enabled = s.notices.enabled ∧
    (closeRecord l c n s).counters.ports = s.counters.ports ∧
    (closeRecord l c n s).counters.flows = s.counters.flows ∧
    (closeRecord l c n s).counters.groups = s.counters.groups := by
  unfold closeRecord
  split
  · simp
  · dsimp only
    split <;> simp

@[simp] theorem moveTo_frame (l : Lane) (f : Epoch) (late : Bool) (s : State) :
    (moveTo l f late s).pending = s.pending ∧ (moveTo l f late s).orderDraws = s.orderDraws ∧
    (moveTo l f late s).phase = s.phase ∧ (moveTo l f late s).ports = s.ports ∧
    (moveTo l f late s).sched = s.sched ∧ (moveTo l f late s).trunk = s.trunk ∧
    (moveTo l f late s).timer = s.timer ∧ (moveTo l f late s).follower = s.follower ∧
    (moveTo l f late s).engine = s.engine ∧ (moveTo l f late s).snapshot = s.snapshot ∧
    (moveTo l f late s).aligner.skew = s.aligner.skew ∧
    (moveTo l f late s).aligner.releaseSlot = s.aligner.releaseSlot ∧
    (moveTo l f late s).aligner.lateLimit = s.aligner.lateLimit ∧
    (moveTo l f late s).notices.enabled = s.notices.enabled := by
  unfold moveTo
  dsimp only
  repeat' split
  all_goals simp

@[simp] theorem close_frame (l : Lane) (c : Epoch) (late : Bool) (n : Nat) (s : State) :
    (close l c late n s).pending = s.pending ∧ (close l c late n s).orderDraws = s.orderDraws ∧
    (close l c late n s).phase = s.phase ∧ (close l c late n s).ports = s.ports ∧
    (close l c late n s).sched = s.sched ∧ (close l c late n s).trunk = s.trunk ∧
    (close l c late n s).timer = s.timer ∧ (close l c late n s).follower = s.follower ∧
    (close l c late n s).engine = s.engine ∧ (close l c late n s).snapshot = s.snapshot ∧
    (close l c late n s).aligner.skew = s.aligner.skew ∧
    (close l c late n s).aligner.releaseSlot = s.aligner.releaseSlot ∧
    (close l c late n s).aligner.lateLimit = s.aligner.lateLimit ∧
    (close l c late n s).notices.enabled = s.notices.enabled := by
  unfold close
  split <;> simp

@[simp] theorem slip_frame (l : Lane) (c f : Epoch) (s : State) :
    (slip l c f s).pending = s.pending ∧ (slip l c f s).orderDraws = s.orderDraws ∧
    (slip l c f s).phase = s.phase ∧ (slip l c f s).ports = s.ports ∧ (slip l c f s).flows = s.flows ∧
    (slip l c f s).groups = s.groups ∧ (slip l c f s).sched = s.sched ∧ (slip l c f s).trunk = s.trunk ∧
    (slip l c f s).timer = s.timer ∧ (slip l c f s).follower = s.follower ∧ (slip l c f s).engine = s.engine ∧
    (slip l c f s).snapshot = s.snapshot ∧ (slip l c f s).aligner.skew = s.aligner.skew ∧
    (slip l c f s).aligner.releaseSlot = s.aligner.releaseSlot ∧
    (slip l c f s).aligner.lateLimit = s.aligner.lateLimit ∧ (slip l c f s).notices.enabled = s.notices.enabled ∧
    (slip l c f s).counters.ports = s.counters.ports ∧ (slip l c f s).counters.flows = s.counters.flows ∧
    (slip l c f s).counters.groups = s.counters.groups := by
  simp [slip]

@[simp] theorem alignMark_frame (l : Lane) (f : Epoch) (n : Nat) (s : State) :
    (alignMark l f n s).pending = s.pending ∧ (alignMark l f n s).orderDraws = s.orderDraws ∧
    (alignMark l f n s).phase = s.phase ∧ (alignMark l f n s).ports = s.ports ∧
    (alignMark l f n s).sched = s.sched ∧ (alignMark l f n s).trunk = s.trunk ∧
    (alignMark l f n s).timer = s.timer ∧ (alignMark l f n s).follower = s.follower ∧
    (alignMark l f n s).engine = s.engine ∧ (alignMark l f n s).snapshot = s.snapshot ∧
    (alignMark l f n s).aligner.skew = s.aligner.skew ∧
    (alignMark l f n s).aligner.releaseSlot = s.aligner.releaseSlot ∧
    (alignMark l f n s).aligner.lateLimit = s.aligner.lateLimit ∧
    (alignMark l f n s).notices.enabled = s.notices.enabled := by
  unfold alignMark
  dsimp only
  repeat' split
  all_goals simp

@[simp] theorem countArrival_frame (l : Lane) (c : Epoch) (s : State) :
    (countArrival l c s).pending = s.pending ∧ (countArrival l c s).orderDraws = s.orderDraws ∧
    (countArrival l c s).phase = s.phase ∧ (countArrival l c s).ports = s.ports ∧
    (countArrival l c s).free = s.free ∧ (countArrival l c s).lanes = s.lanes ∧
    (countArrival l c s).flows = s.flows ∧ (countArrival l c s).groups = s.groups ∧
    (countArrival l c s).sched = s.sched ∧ (countArrival l c s).trunk = s.trunk ∧
    (countArrival l c s).timer = s.timer ∧ (countArrival l c s).follower = s.follower ∧
    (countArrival l c s).engine = s.engine ∧ (countArrival l c s).counters = s.counters ∧
    (countArrival l c s).snapshot = s.snapshot ∧ (countArrival l c s).notices = s.notices ∧
    (countArrival l c s).aligner.skew = s.aligner.skew ∧
    (countArrival l c s).aligner.releaseSlot = s.aligner.releaseSlot ∧
    (countArrival l c s).aligner.lateLimit = s.aligner.lateLimit ∧
    (countArrival l c s).aligner.running = s.aligner.running ∧
    (countArrival l c s).aligner.lastReleased = s.aligner.lastReleased := by
  simp [countArrival]

@[simp] theorem alignData_frame (l : Lane) (c : DataCell) (s : State) :
    (alignData l c s).pending = s.pending ∧ (alignData l c s).orderDraws = s.orderDraws ∧
    (alignData l c s).phase = s.phase ∧ (alignData l c s).ports = s.ports ∧ (alignData l c s).flows = s.flows ∧
    (alignData l c s).groups = s.groups ∧ (alignData l c s).sched = s.sched ∧ (alignData l c s).trunk = s.trunk ∧
    (alignData l c s).timer = s.timer ∧ (alignData l c s).follower = s.follower ∧
    (alignData l c s).engine = s.engine ∧ (alignData l c s).snapshot = s.snapshot ∧
    (alignData l c s).aligner.skew = s.aligner.skew ∧
    (alignData l c s).aligner.releaseSlot = s.aligner.releaseSlot ∧
    (alignData l c s).aligner.lateLimit = s.aligner.lateLimit ∧
    (alignData l c s).aligner.running = s.aligner.running ∧
    (alignData l c s).aligner.lastReleased = s.aligner.lastReleased ∧
    (alignData l c s).notices.enabled = s.notices.enabled ∧ (alignData l c s).counters.flows = s.counters.flows ∧
    (alignData l c s).counters.groups = s.counters.groups := by
  unfold alignData
  repeat' split
  all_goals simp

@[simp] theorem alignEnterUp_frame (l : Lane) (s : State) :
    (alignEnterUp l s).pending = s.pending ∧ (alignEnterUp l s).orderDraws = s.orderDraws ∧
    (alignEnterUp l s).phase = s.phase ∧ (alignEnterUp l s).ports = s.ports ∧ (alignEnterUp l s).free = s.free ∧
    (alignEnterUp l s).aligner = s.aligner ∧ (alignEnterUp l s).flows = s.flows ∧
    (alignEnterUp l s).groups = s.groups ∧ (alignEnterUp l s).sched = s.sched ∧
    (alignEnterUp l s).trunk = s.trunk ∧ (alignEnterUp l s).timer = s.timer ∧
    (alignEnterUp l s).follower = s.follower ∧ (alignEnterUp l s).engine = s.engine ∧
    (alignEnterUp l s).counters = s.counters ∧ (alignEnterUp l s).snapshot = s.snapshot ∧
    (alignEnterUp l s).notices = s.notices := by
  unfold alignEnterUp
  split <;> simp

@[simp] theorem alignLeaveUp_frame (l : Lane) (s : State) :
    (alignLeaveUp l s).pending = s.pending ∧ (alignLeaveUp l s).orderDraws = s.orderDraws ∧
    (alignLeaveUp l s).phase = s.phase ∧ (alignLeaveUp l s).ports = s.ports ∧ (alignLeaveUp l s).free = s.free ∧
    (alignLeaveUp l s).flows = s.flows ∧ (alignLeaveUp l s).groups = s.groups ∧
    (alignLeaveUp l s).sched = s.sched ∧ (alignLeaveUp l s).trunk = s.trunk ∧ (alignLeaveUp l s).timer = s.timer ∧
    (alignLeaveUp l s).follower = s.follower ∧ (alignLeaveUp l s).engine = s.engine ∧
    (alignLeaveUp l s).counters = s.counters ∧ (alignLeaveUp l s).snapshot = s.snapshot ∧
    (alignLeaveUp l s).notices = s.notices ∧ (alignLeaveUp l s).aligner.skew = s.aligner.skew ∧
    (alignLeaveUp l s).aligner.releaseSlot = s.aligner.releaseSlot ∧
    (alignLeaveUp l s).aligner.lateLimit = s.aligner.lateLimit ∧
    (alignLeaveUp l s).lanes = upd s.lanes l (fun x => { x with member := .waiting, lateCount := 0 }) := by
  simp [alignLeaveUp]

end Sys2Proof.Machine
end

