-- ==== Sys2Proof/Laws/Links.lean ====
section
/-! SUPPORT. What a port that leaves UP or enters it changes, and what it keeps. -/

namespace Sys2Proof.Machine

@[simp] theorem laneLeavesUp_frame (p : Port) (s : State) :
    (laneLeavesUp p s).pending = s.pending ∧ (laneLeavesUp p s).orderDraws = s.orderDraws ∧
    (laneLeavesUp p s).phase = s.phase ∧ (laneLeavesUp p s).ports = s.ports ∧ (laneLeavesUp p s).flows = s.flows ∧
    (laneLeavesUp p s).groups = s.groups ∧ (laneLeavesUp p s).sched = s.sched ∧
    (laneLeavesUp p s).trunk = s.trunk ∧ (laneLeavesUp p s).timer = s.timer ∧
    (laneLeavesUp p s).follower = s.follower ∧ (laneLeavesUp p s).engine = s.engine ∧
    (laneLeavesUp p s).counters = s.counters ∧ (laneLeavesUp p s).snapshot = s.snapshot ∧
    (laneLeavesUp p s).notices = s.notices ∧ (laneLeavesUp p s).aligner.skew = s.aligner.skew ∧
    (laneLeavesUp p s).aligner.releaseSlot = s.aligner.releaseSlot ∧
    (laneLeavesUp p s).aligner.lateLimit = s.aligner.lateLimit := by
  unfold laneLeavesUp
  split <;> simp

@[simp] theorem ownerLeavesUp_frame (p : Port) (s : State) :
    (ownerLeavesUp p s).pending = s.pending ∧ (ownerLeavesUp p s).orderDraws = s.orderDraws ∧
    (ownerLeavesUp p s).phase = s.phase ∧ (ownerLeavesUp p s).ports = s.ports ∧ (ownerLeavesUp p s).free = s.free ∧
    (ownerLeavesUp p s).lanes = s.lanes ∧ (ownerLeavesUp p s).aligner = s.aligner ∧
    (ownerLeavesUp p s).flows = s.flows ∧ (ownerLeavesUp p s).groups = s.groups ∧
    (ownerLeavesUp p s).sched = s.sched ∧ (ownerLeavesUp p s).trunk = s.trunk ∧
    (ownerLeavesUp p s).timer = s.timer ∧ (ownerLeavesUp p s).follower = s.follower ∧
    (ownerLeavesUp p s).snapshot = s.snapshot ∧ (ownerLeavesUp p s).engine.unitAddr = s.engine.unitAddr ∧
    (ownerLeavesUp p s).engine.requests = s.engine.requests ∧
    (ownerLeavesUp p s).engine.replies = s.engine.replies ∧
    (ownerLeavesUp p s).engine.inFlight = s.engine.inFlight ∧ (ownerLeavesUp p s).engine.held = s.engine.held ∧
    (ownerLeavesUp p s).notices.enabled = s.notices.enabled ∧
    (ownerLeavesUp p s).counters.ports = s.counters.ports ∧ (ownerLeavesUp p s).counters.lanes = s.counters.lanes ∧
    (ownerLeavesUp p s).counters.flows = s.counters.flows ∧
    (ownerLeavesUp p s).counters.groups = s.counters.groups := by
  unfold ownerLeavesUp
  split <;> simp

@[simp] theorem holderLeavesUp_frame (p : Port) (s : State) :
    (holderLeavesUp p s).pending = s.pending ∧ (holderLeavesUp p s).orderDraws = s.orderDraws ∧
    (holderLeavesUp p s).phase = s.phase ∧ (holderLeavesUp p s).ports = s.ports ∧
    (holderLeavesUp p s).free = s.free ∧ (holderLeavesUp p s).lanes = s.lanes ∧
    (holderLeavesUp p s).aligner = s.aligner ∧ (holderLeavesUp p s).flows = s.flows ∧
    (holderLeavesUp p s).groups = s.groups ∧ (holderLeavesUp p s).sched = s.sched ∧
    (holderLeavesUp p s).trunk = s.trunk ∧ (holderLeavesUp p s).timer = s.timer ∧
    (holderLeavesUp p s).follower = s.follower ∧ (holderLeavesUp p s).engine = s.engine ∧
    (holderLeavesUp p s).counters = s.counters ∧ (holderLeavesUp p s).notices = s.notices := by
  unfold holderLeavesUp
  split <;> simp

@[simp] theorem leaveUp_frame (p : Port) (c : DownCause) (s : State) :
    (leaveUp p c s).pending = s.pending ∧ (leaveUp p c s).orderDraws = s.orderDraws ∧
    (leaveUp p c s).phase = s.phase ∧ (leaveUp p c s).flows = s.flows ∧ (leaveUp p c s).groups = s.groups ∧
    (leaveUp p c s).sched = s.sched ∧ (leaveUp p c s).trunk = s.trunk ∧ (leaveUp p c s).timer = s.timer ∧
    (leaveUp p c s).follower = s.follower ∧ (leaveUp p c s).engine.unitAddr = s.engine.unitAddr ∧
    (leaveUp p c s).engine.requests = s.engine.requests ∧ (leaveUp p c s).engine.replies = s.engine.replies ∧
    (leaveUp p c s).engine.inFlight = s.engine.inFlight ∧ (leaveUp p c s).engine.held = s.engine.held ∧
    (leaveUp p c s).aligner.skew = s.aligner.skew ∧ (leaveUp p c s).aligner.releaseSlot = s.aligner.releaseSlot ∧
    (leaveUp p c s).aligner.lateLimit = s.aligner.lateLimit ∧ (leaveUp p c s).notices.enabled = s.notices.enabled ∧
    (leaveUp p c s).counters.lanes = s.counters.lanes ∧ (leaveUp p c s).counters.flows = s.counters.flows ∧
    (leaveUp p c s).counters.groups = s.counters.groups ∧
    (leaveUp p c s).ports = upd s.ports p (fun x => { x with rx := Receiver.fresh c.after }) := by
  simp [leaveUp]

@[simp] theorem leaveUp_profile (p : Port) (c : DownCause) (s : State) (q : Port) :
    (leaveUp p c s).ports[q.val].profile = s.ports[q.val].profile := by
  simpa using upd_get_map s.ports p q (fun x => { x with rx := Receiver.fresh c.after }) PortState.profile (fun _ => rfl)

@[simp] theorem enterUp_frame (p : Port) (s : State) :
    (enterUp p s).pending = s.pending ∧ (enterUp p s).orderDraws = s.orderDraws ∧ (enterUp p s).phase = s.phase ∧
    (enterUp p s).free = s.free ∧ (enterUp p s).aligner = s.aligner ∧ (enterUp p s).flows = s.flows ∧
    (enterUp p s).groups = s.groups ∧ (enterUp p s).sched = s.sched ∧ (enterUp p s).trunk = s.trunk ∧
    (enterUp p s).timer = s.timer ∧ (enterUp p s).follower = s.follower ∧ (enterUp p s).engine = s.engine ∧
    (enterUp p s).snapshot = s.snapshot ∧ (enterUp p s).notices.enabled = s.notices.enabled ∧
    (enterUp p s).counters.ports = s.counters.ports ∧ (enterUp p s).counters.lanes = s.counters.lanes ∧
    (enterUp p s).counters.flows = s.counters.flows ∧ (enterUp p s).counters.groups = s.counters.groups ∧
    (enterUp p s).ports = upd s.ports p (fun x => { x with rx := { Receiver.fresh .up with count := Config.headersToUp } }) := by
  unfold enterUp
  dsimp only
  split <;> simp

@[simp] theorem enterUp_profile (p : Port) (s : State) (q : Port) :
    (enterUp p s).ports[q.val].profile = s.ports[q.val].profile := by
  simpa using
    upd_get_map s.ports p q (fun x => { x with rx := { Receiver.fresh .up with count := Config.headersToUp } })
      PortState.profile (fun _ => rfl)

end Sys2Proof.Machine
end

