-- ==== Sys2Proof/Laws/Manage.lean ====
section
/-! SUPPORT. What the management engine's take of a request can do. -/

namespace Sys2Proof.Machine

@[simp] theorem commandOf_code (c : Command) : commandOf c.code = some c := by cases c <;> rfl

theorem commandOf_some {b : Byte} {c : Command} (h : commandOf b = some c) : c.code = b := by
  simpa using List.find?_some h

/-- The lease renewal of R144 step 2 touches the owner alone. -/
theorem renewLease_eq (p : Port) (s : State) :
    renewLease p s =
      { s with engine :=
          { s.engine with
            owner := s.engine.owner.map fun o => if o.port = p then { o with remaining := o.lease } else o } } := by
  obtain ⟨_, _, _, _, _, _, _, _, _, _, _, _, _, ⟨_, o, _, _, _, _⟩, _, _, _⟩ := s
  cases o with
  | none => rfl
  | some o => by_cases e : o.port = p <;> simp [renewLease, e]

@[simp] theorem renewLease_frame (p : Port) (s : State) :
    (renewLease p s).pending = s.pending ∧ (renewLease p s).orderDraws = s.orderDraws ∧
    (renewLease p s).phase = s.phase ∧ (renewLease p s).ports = s.ports ∧ (renewLease p s).free = s.free ∧
    (renewLease p s).lanes = s.lanes ∧ (renewLease p s).aligner = s.aligner ∧ (renewLease p s).flows = s.flows ∧
    (renewLease p s).groups = s.groups ∧ (renewLease p s).sched = s.sched ∧ (renewLease p s).trunk = s.trunk ∧
    (renewLease p s).timer = s.timer ∧ (renewLease p s).follower = s.follower ∧
    (renewLease p s).counters = s.counters ∧ (renewLease p s).snapshot = s.snapshot ∧
    (renewLease p s).notices = s.notices ∧ (renewLease p s).engine.unitAddr = s.engine.unitAddr ∧
    (renewLease p s).engine.requests = s.engine.requests ∧ (renewLease p s).engine.replies = s.engine.replies ∧
    (renewLease p s).engine.inFlight = s.engine.inFlight ∧ (renewLease p s).engine.held = s.engine.held := by
  simp [renewLease_eq]

@[simp] theorem renewLease_ownerPort (p : Port) (s : State) :
    (renewLease p s).engine.ownerPort = s.engine.ownerPort := by
  simp only [renewLease_eq, Engine.ownerPort]
  cases s.engine.owner with
  | none => rfl
  | some o => by_cases e : o.port = p <;> simp [e]

@[simp] theorem renewLease_portUp (p q : Port) (s : State) : portUp (renewLease p s) q = portUp s q := by
  simp [portUp]

@[simp] theorem enqueueRequest_frame (r : Request) (s : State) :
    (enqueueRequest r s).pending = s.pending ∧ (enqueueRequest r s).orderDraws = s.orderDraws ∧
    (enqueueRequest r s).phase = s.phase ∧ (enqueueRequest r s).ports = s.ports ∧
    (enqueueRequest r s).free = s.free ∧ (enqueueRequest r s).lanes = s.lanes ∧
    (enqueueRequest r s).aligner = s.aligner ∧ (enqueueRequest r s).flows = s.flows ∧
    (enqueueRequest r s).groups = s.groups ∧ (enqueueRequest r s).sched = s.sched ∧
    (enqueueRequest r s).trunk = s.trunk ∧ (enqueueRequest r s).timer = s.timer ∧
    (enqueueRequest r s).follower = s.follower ∧ (enqueueRequest r s).snapshot = s.snapshot ∧
    (enqueueRequest r s).notices = s.notices ∧ (enqueueRequest r s).engine.unitAddr = s.engine.unitAddr ∧
    (enqueueRequest r s).engine.owner = s.engine.owner ∧ (enqueueRequest r s).engine.replies = s.engine.replies ∧
    (enqueueRequest r s).engine.inFlight = s.engine.inFlight ∧ (enqueueRequest r s).engine.held = s.engine.held ∧
    (enqueueRequest r s).counters.lanes = s.counters.lanes ∧
    (enqueueRequest r s).counters.flows = s.counters.flows ∧
    (enqueueRequest r s).counters.groups = s.counters.groups ∧
    (enqueueRequest r s).counters.unit = s.counters.unit := by
  unfold enqueueRequest
  split <;> simp

@[simp] theorem emptyQueues_frame (s : State) :
    (emptyQueues s).pending = s.pending ∧ (emptyQueues s).orderDraws = s.orderDraws ∧
    (emptyQueues s).phase = s.phase ∧ (emptyQueues s).timer = s.timer ∧ (emptyQueues s).trunk = s.trunk := by
  simp [emptyQueues, allLanes]

@[simp] theorem flushRecord_frame (x : GroupRec) (s : State) :
    (flushRecord x s).pending = s.pending ∧ (flushRecord x s).orderDraws = s.orderDraws ∧
    (flushRecord x s).phase = s.phase ∧ (flushRecord x s).timer = s.timer ∧ (flushRecord x s).trunk = s.trunk := by
  simp [flushRecord]

@[simp] theorem flushRecords_frame (l : List GroupRec) (s : State) :
    (l.foldl (fun s x => flushRecord x s) s).pending = s.pending ∧
    (l.foldl (fun s x => flushRecord x s) s).orderDraws = s.orderDraws ∧
    (l.foldl (fun s x => flushRecord x s) s).phase = s.phase ∧
    (l.foldl (fun s x => flushRecord x s) s).timer = s.timer ∧
    (l.foldl (fun s x => flushRecord x s) s).trunk = s.trunk := by
  induction l generalizing s with
  | nil => simp
  | cons x l ih => simp [ih]

@[simp] theorem laneSetRestart_frame (p : Port) (e : Bool) (s : State) :
    (laneSetRestart p e s).pending = s.pending ∧ (laneSetRestart p e s).orderDraws = s.orderDraws ∧
    (laneSetRestart p e s).phase = s.phase ∧ (laneSetRestart p e s).timer = s.timer ∧
    (laneSetRestart p e s).trunk = s.trunk := by
  unfold laneSetRestart emptyPortLane
  repeat' split
  all_goals simp

@[simp] theorem laneSetJudge_frame (p : Port) (a b : Profile) (s : State) :
    (laneSetJudge p a b s).pending = s.pending ∧ (laneSetJudge p a b s).orderDraws = s.orderDraws ∧
    (laneSetJudge p a b s).phase = s.phase ∧ (laneSetJudge p a b s).timer = s.timer ∧
    (laneSetJudge p a b s).trunk = s.trunk := by
  unfold laneSetJudge
  repeat' split
  all_goals simp

/-- A command carried out keeps the model's own fields, the phase, the timer and what T-out sends. -/
@[simp] theorem carryOut_frame (c : Command) (r : Request) (s : State) :
    (carryOut c r s).pending = s.pending ∧ (carryOut c r s).orderDraws = s.orderDraws ∧
    (carryOut c r s).phase = s.phase ∧ (carryOut c r s).timer = s.timer ∧ (carryOut c r s).trunk = s.trunk := by
  cases c <;>
    simp only [carryOut, doIdentify, doClaim, doRelease, doSetUnit, doUnitReset, doLaneGet, doLaneSet, doLaneRestart,
      doAlignGet, doAlignSet, doAlignRejoin, doFlowAdd, doFlowModify, doFlowRemove, doFlowGet, doFlowList, doSchedWrite,
      doSchedRead, doSchedSwap, doSchedCancel, doGroupSet, doGroupGet, doGroupFlush, doCycleSet, doCycleArm, doCycleGet,
      doSnapTake, doSnapRead, doSnapDrop, doCountClear, doNoticeEnable, doNoticeGet] <;>
    repeat' split
  all_goals
    simp [refuse, grant, resetEngine, resetReports, resetTimed, resetFlows, resetAligner, resetLevels, beginDrain,
      openOperation] <;>
    (repeat' split) <;> simp

/-- So does a take. -/
@[simp] theorem handle_frame (r : Request) (s : State) :
    (handle r s).pending = s.pending ∧ (handle r s).orderDraws = s.orderDraws ∧ (handle r s).phase = s.phase ∧
    (handle r s).timer = s.timer ∧ (handle r s).trunk = s.trunk := by
  unfold handle checkRequest
  repeat' split
  all_goals simp [refuse]

@[simp] theorem takeRequest_frame (s : State) :
    (takeRequest s).pending = s.pending ∧ (takeRequest s).orderDraws = s.orderDraws ∧
    (takeRequest s).phase = s.phase ∧ (takeRequest s).timer = s.timer ∧ (takeRequest s).trunk = s.trunk := by
  unfold takeRequest
  split
  · simp
  · split <;> simp

/-- With no request waiting there is no take (R144). -/
@[simp] theorem takeRequest_idle (s : State) (h : s.engine.requests = []) : takeRequest s = s := by
  simp [takeRequest, h]

@[simp] theorem requestReaches_frame (r : Request) (s : State) :
    (requestReaches r s).pending = s.pending ∧ (requestReaches r s).orderDraws = s.orderDraws ∧
    (requestReaches r s).phase = s.phase ∧ (requestReaches r s).timer = s.timer ∧
    (requestReaches r s).trunk = s.trunk := by
  unfold requestReaches
  split <;> simp

/-- With nothing waiting and the engine ready a request is taken in the same instant (R144). -/
theorem requestReaches_ready (r : Request) (s : State) (hq : s.engine.requests = [])
    (hr : s.engine.replies.length < 16) (hh : s.engine.held = []) : requestReaches r s = handle r s := by
  simp [requestReaches, hq, engineReady, hr, hh, Config.replyPlaces]

/-- A command of a port that is UP and permitted brings its request to the engine (R31, R189). -/
theorem submit_reaches (c : Command) (p : Port) (tag : Byte) (args : Octets) (s : State) (h : s.phase = .running)
    (hu : s.ports[p].rx.st = .up) (hm : s.ports[p].profile.mgmt = true) :
    submit c p tag args s = requestReaches { port := p, code := c.code, tag := tag, args := args } s := by
  have hu' : portUp s p = true := by simp only [portUp, hu]; rfl
  simp only [submit, h, hu', hm]; rfl

/-- A command of a port that is not UP is lost (R162, R189). -/
theorem submit_down (c : Command) (p : Port) (tag : Byte) (args : Octets) (s : State) (h : s.ports[p].rx.st ≠ .up) :
    submit c p tag args s = s := by
  have h' : portUp s p = false := by simpa only [portUp, beq_eq_false_iff_ne] using h
  simp [submit, h']

/-- The checks of a request with a known code (R145). -/
theorem handle_code (c : Command) (p : Port) (tag : Byte) (args : Octets) (s : State) :
    handle { port := p, code := c.code, tag := tag, args := args } s =
      if !lengthFits c args then
        refuse { port := p, code := c.code, tag := tag, args := args } .badArgument (renewLease p s)
      else if ownerCommand c args && s.engine.ownerPort != some p then
        refuse { port := p, code := c.code, tag := tag, args := args } .notOwner (renewLease p s)
      else carryOut c { port := p, code := c.code, tag := tag, args := args } (renewLease p s) := by
  simp [handle, checkRequest]

/-- A request whose length fits and whose ownership passes reaches its command (R145 step 4). -/
theorem submit_passes (c : Command) (p : Port) (tag : Byte) (args : Octets) (s : State) (h : s.phase = .running)
    (hu : s.ports[p].rx.st = .up) (hm : s.ports[p].profile.mgmt = true) (hq : s.engine.requests = [])
    (hr : s.engine.replies.length < 16) (hh : s.engine.held = []) (hl : lengthFits c args = true)
    (ho : ownerCommand c args = true → s.engine.ownerPort = some p) :
    submit c p tag args s =
      carryOut c { port := p, code := c.code, tag := tag, args := args } (renewLease p s) := by
  rw [submit_reaches c p tag args s h hu hm, requestReaches_ready _ s hq hr hh, handle_code]
  by_cases e : ownerCommand c args = true
  · simp [hl, ho e]
  · simp [hl, e]

end Sys2Proof.Machine
end

