-- ==== Sys2Proof/Laws/Transmit.lean ====
section
/-! SUPPORT. What the slot schedule and the trunk transmitter can do. -/

namespace Sys2Proof.Machine

@[simp] theorem putOut_frame (c : Octets) (s : State) :
    (putOut c s).pending = s.pending ∧ (putOut c s).orderDraws = s.orderDraws ∧ (putOut c s).phase = s.phase ∧
    (putOut c s).ports = s.ports ∧ (putOut c s).free = s.free ∧ (putOut c s).lanes = s.lanes ∧
    (putOut c s).aligner = s.aligner ∧ (putOut c s).flows = s.flows ∧ (putOut c s).groups = s.groups ∧
    (putOut c s).sched = s.sched ∧ (putOut c s).timer = s.timer ∧ (putOut c s).follower = s.follower ∧
    (putOut c s).engine = s.engine ∧ (putOut c s).counters = s.counters ∧ (putOut c s).snapshot = s.snapshot ∧
    (putOut c s).notices = s.notices ∧ (putOut c s).trunk.sending = some c ∧
    (putOut c s).trunk.inTransit = s.trunk.inTransit := by
  simp [putOut]

@[simp] theorem rewriteAndSend_frame (r : GroupRec) (s : State) :
    (rewriteAndSend r s).pending = s.pending ∧ (rewriteAndSend r s).orderDraws = s.orderDraws ∧
    (rewriteAndSend r s).phase = s.phase ∧ (rewriteAndSend r s).ports = s.ports ∧
    (rewriteAndSend r s).free = s.free ∧ (rewriteAndSend r s).lanes = s.lanes ∧
    (rewriteAndSend r s).aligner = s.aligner ∧ (rewriteAndSend r s).groups = s.groups ∧
    (rewriteAndSend r s).sched = s.sched ∧ (rewriteAndSend r s).timer = s.timer ∧
    (rewriteAndSend r s).follower = s.follower ∧ (rewriteAndSend r s).snapshot = s.snapshot ∧
    (rewriteAndSend r s).notices = s.notices ∧ (rewriteAndSend r s).engine.unitAddr = s.engine.unitAddr ∧
    (rewriteAndSend r s).engine.owner = s.engine.owner ∧ (rewriteAndSend r s).engine.requests = s.engine.requests ∧
    (rewriteAndSend r s).trunk.inTransit = s.trunk.inTransit ∧
    (rewriteAndSend r s).counters.ports = s.counters.ports ∧
    (rewriteAndSend r s).counters.lanes = s.counters.lanes ∧
    (rewriteAndSend r s).counters.groups = s.counters.groups ∧
    (rewriteAndSend r s).counters.unit = s.counters.unit := by
  unfold rewriteAndSend
  split <;> simp

@[simp] theorem takeHead_frame (g : Group) (x : Bool) (s : State) :
    (takeHead g x s).pending = s.pending ∧ (takeHead g x s).orderDraws = s.orderDraws ∧
    (takeHead g x s).phase = s.phase ∧ (takeHead g x s).ports = s.ports ∧ (takeHead g x s).free = s.free ∧
    (takeHead g x s).lanes = s.lanes ∧ (takeHead g x s).aligner = s.aligner ∧ (takeHead g x s).timer = s.timer ∧
    (takeHead g x s).follower = s.follower ∧ (takeHead g x s).snapshot = s.snapshot ∧
    (takeHead g x s).notices = s.notices ∧ (takeHead g x s).engine.unitAddr = s.engine.unitAddr ∧
    (takeHead g x s).engine.owner = s.engine.owner ∧ (takeHead g x s).engine.requests = s.engine.requests ∧
    (takeHead g x s).sched.bankA = s.sched.bankA ∧ (takeHead g x s).sched.bankB = s.sched.bankB ∧
    (takeHead g x s).sched.active = s.sched.active ∧ (takeHead g x s).sched.swapPending = s.sched.swapPending ∧
    (takeHead g x s).counters.ports = s.counters.ports ∧ (takeHead g x s).counters.lanes = s.counters.lanes ∧
    (takeHead g x s).counters.unit = s.counters.unit := by
  unfold takeHead
  split
  · simp
  · dsimp only
    split <;> simp

@[simp] theorem sendReply_frame (s : State) :
    (sendReply s).pending = s.pending ∧ (sendReply s).orderDraws = s.orderDraws ∧ (sendReply s).phase = s.phase ∧
    (sendReply s).ports = s.ports ∧ (sendReply s).free = s.free ∧ (sendReply s).lanes = s.lanes ∧
    (sendReply s).aligner = s.aligner ∧ (sendReply s).flows = s.flows ∧ (sendReply s).groups = s.groups ∧
    (sendReply s).sched = s.sched ∧ (sendReply s).timer = s.timer ∧ (sendReply s).follower = s.follower ∧
    (sendReply s).snapshot = s.snapshot ∧ (sendReply s).notices = s.notices ∧
    (sendReply s).engine.unitAddr = s.engine.unitAddr ∧ (sendReply s).engine.owner = s.engine.owner ∧
    (sendReply s).engine.requests = s.engine.requests ∧ (sendReply s).engine.inFlight = s.engine.inFlight ∧
    (sendReply s).trunk.inTransit = s.trunk.inTransit ∧ (sendReply s).counters.ports = s.counters.ports ∧
    (sendReply s).counters.lanes = s.counters.lanes ∧ (sendReply s).counters.flows = s.counters.flows ∧
    (sendReply s).counters.groups = s.counters.groups := by
  unfold sendReply
  split <;> simp

@[simp] theorem sendNotice_frame (s : State) :
    (sendNotice s).pending = s.pending ∧ (sendNotice s).orderDraws = s.orderDraws ∧
    (sendNotice s).phase = s.phase ∧ (sendNotice s).ports = s.ports ∧ (sendNotice s).free = s.free ∧
    (sendNotice s).lanes = s.lanes ∧ (sendNotice s).aligner = s.aligner ∧ (sendNotice s).flows = s.flows ∧
    (sendNotice s).groups = s.groups ∧ (sendNotice s).sched = s.sched ∧ (sendNotice s).timer = s.timer ∧
    (sendNotice s).follower = s.follower ∧ (sendNotice s).engine = s.engine ∧
    (sendNotice s).snapshot = s.snapshot ∧ (sendNotice s).notices.enabled = s.notices.enabled ∧
    (sendNotice s).trunk.inTransit = s.trunk.inTransit ∧ (sendNotice s).counters.ports = s.counters.ports ∧
    (sendNotice s).counters.lanes = s.counters.lanes ∧ (sendNotice s).counters.flows = s.counters.flows ∧
    (sendNotice s).counters.groups = s.counters.groups := by
  unfold sendNotice
  split <;> simp

@[simp] theorem sendFill_frame (s : State) :
    (sendFill s).pending = s.pending ∧ (sendFill s).orderDraws = s.orderDraws ∧ (sendFill s).phase = s.phase ∧
    (sendFill s).ports = s.ports ∧ (sendFill s).free = s.free ∧ (sendFill s).lanes = s.lanes ∧
    (sendFill s).aligner = s.aligner ∧ (sendFill s).flows = s.flows ∧ (sendFill s).groups = s.groups ∧
    (sendFill s).sched = s.sched ∧ (sendFill s).timer = s.timer ∧ (sendFill s).follower = s.follower ∧
    (sendFill s).engine = s.engine ∧ (sendFill s).snapshot = s.snapshot ∧ (sendFill s).notices = s.notices ∧
    (sendFill s).trunk.inTransit = s.trunk.inTransit ∧ (sendFill s).counters.ports = s.counters.ports ∧
    (sendFill s).counters.lanes = s.counters.lanes ∧ (sendFill s).counters.flows = s.counters.flows ∧
    (sendFill s).counters.groups = s.counters.groups ∧ (sendFill s).trunk.sending = some fillCell := by
  simp [sendFill]

@[simp] theorem send_frame (c : Choice) (s : State) :
    (send c s).pending = s.pending ∧ (send c s).orderDraws = s.orderDraws ∧ (send c s).phase = s.phase ∧
    (send c s).ports = s.ports ∧ (send c s).free = s.free ∧ (send c s).lanes = s.lanes ∧
    (send c s).aligner = s.aligner ∧ (send c s).timer = s.timer ∧ (send c s).follower = s.follower ∧
    (send c s).snapshot = s.snapshot ∧ (send c s).engine.unitAddr = s.engine.unitAddr ∧
    (send c s).engine.owner = s.engine.owner ∧ (send c s).engine.requests = s.engine.requests ∧
    (send c s).sched.bankA = s.sched.bankA ∧ (send c s).sched.bankB = s.sched.bankB ∧
    (send c s).notices.enabled = s.notices.enabled ∧ (send c s).sched.active = s.sched.active ∧
    (send c s).sched.swapPending = s.sched.swapPending ∧ (send c s).counters.ports = s.counters.ports ∧
    (send c s).counters.lanes = s.counters.lanes := by
  cases c <;> simp [send]

@[simp] theorem endSlot_frame (s : State) :
    (endSlot s).pending = s.pending ∧ (endSlot s).orderDraws = s.orderDraws ∧ (endSlot s).phase = s.phase ∧
    (endSlot s).ports = s.ports ∧ (endSlot s).lanes = s.lanes ∧ (endSlot s).aligner = s.aligner ∧
    (endSlot s).flows = s.flows ∧ (endSlot s).groups = s.groups ∧ (endSlot s).sched = s.sched ∧
    (endSlot s).timer = s.timer ∧ (endSlot s).follower = s.follower ∧ (endSlot s).engine = s.engine ∧
    (endSlot s).counters = s.counters ∧ (endSlot s).snapshot = s.snapshot ∧ (endSlot s).notices = s.notices ∧
    (endSlot s).trunk.sending = s.trunk.sending ∧ (endSlot s).trunk.inTransit = none ∧
    (endSlot s).free = s.free + (if s.trunk.inTransit.isSome then 1 else 0) := by
  unfold endSlot
  split <;> simp [*]

@[simp] theorem takeSwap_frame (s : State) :
    (takeSwap s).pending = s.pending ∧ (takeSwap s).orderDraws = s.orderDraws ∧ (takeSwap s).phase = s.phase ∧
    (takeSwap s).ports = s.ports ∧ (takeSwap s).free = s.free ∧ (takeSwap s).lanes = s.lanes ∧
    (takeSwap s).aligner = s.aligner ∧ (takeSwap s).flows = s.flows ∧ (takeSwap s).groups = s.groups ∧
    (takeSwap s).trunk = s.trunk ∧ (takeSwap s).timer = s.timer ∧ (takeSwap s).follower = s.follower ∧
    (takeSwap s).counters = s.counters ∧ (takeSwap s).snapshot = s.snapshot ∧ (takeSwap s).notices = s.notices ∧
    (takeSwap s).engine.unitAddr = s.engine.unitAddr ∧ (takeSwap s).engine.owner = s.engine.owner ∧
    (takeSwap s).engine.requests = s.engine.requests ∧ (takeSwap s).sched.bankA = s.sched.bankA ∧
    (takeSwap s).sched.bankB = s.sched.bankB ∧ (takeSwap s).sched.lendPointer = s.sched.lendPointer ∧
    (takeSwap s).sched.swapPending = false := by
  unfold takeSwap
  split <;> simp [*]

@[simp] theorem transmit_frame (cs : Bool) (s : State) :
    (transmit cs s).pending = s.pending ∧ (transmit cs s).orderDraws = s.orderDraws ∧
    (transmit cs s).phase = s.phase ∧ (transmit cs s).ports = s.ports ∧ (transmit cs s).lanes = s.lanes ∧
    (transmit cs s).aligner = s.aligner ∧ (transmit cs s).timer = s.timer ∧ (transmit cs s).follower = s.follower ∧
    (transmit cs s).snapshot = s.snapshot ∧ (transmit cs s).engine.unitAddr = s.engine.unitAddr ∧
    (transmit cs s).engine.owner = s.engine.owner ∧ (transmit cs s).engine.requests = s.engine.requests ∧
    (transmit cs s).sched.bankA = s.sched.bankA ∧ (transmit cs s).sched.bankB = s.sched.bankB ∧
    (transmit cs s).notices.enabled = s.notices.enabled ∧ (transmit cs s).counters.ports = s.counters.ports ∧
    (transmit cs s).counters.lanes = s.counters.lanes := by
  unfold transmit
  dsimp only
  split <;> simp

/-- Egress cells are header-valid (R2). -/
theorem dataOctets_valid (e : FlowEntry) (c : CycleNum) (n : Slot) (r : GroupRec) :
    headerValid (dataOctets e c n r) = true := by
  simp only [dataOctets]; exact buildCell_valid ..

theorem replyOctets_valid (u : Byte) (r : Reply) : headerValid (replyOctets u r) = true := by
  simp only [replyOctets]; exact buildCell_valid ..

theorem noticeOctets_valid (u : Byte) (n : NoticeRec) : headerValid (noticeOctets u n) = true := by
  simp only [noticeOctets]; exact buildCell_valid ..

end Sys2Proof.Machine
end

