-- ==== Sys2Proof/Laws/Boundary.lean ====
section
/-! SUPPORT. What a tick, a boundary and a CREF pulse can do. -/

namespace Sys2Proof.Machine

@[simp] theorem engineTick_frame (s : State) :
    (engineTick s).pending = s.pending ∧ (engineTick s).orderDraws = s.orderDraws ∧
    (engineTick s).phase = s.phase ∧ (engineTick s).ports = s.ports ∧ (engineTick s).free = s.free ∧
    (engineTick s).lanes = s.lanes ∧ (engineTick s).aligner = s.aligner ∧ (engineTick s).flows = s.flows ∧
    (engineTick s).groups = s.groups ∧ (engineTick s).sched = s.sched ∧ (engineTick s).trunk = s.trunk ∧
    (engineTick s).timer = s.timer ∧ (engineTick s).follower = s.follower ∧ (engineTick s).snapshot = s.snapshot ∧
    (engineTick s).engine.unitAddr = s.engine.unitAddr ∧ (engineTick s).engine.requests = s.engine.requests ∧
    (engineTick s).engine.replies = s.engine.replies ∧ (engineTick s).engine.inFlight = s.engine.inFlight ∧
    (engineTick s).engine.held = s.engine.held ∧ (engineTick s).notices.enabled = s.notices.enabled ∧
    (engineTick s).counters.ports = s.counters.ports ∧ (engineTick s).counters.lanes = s.counters.lanes ∧
    (engineTick s).counters.flows = s.counters.flows ∧ (engineTick s).counters.groups = s.counters.groups := by
  unfold engineTick
  split
  · simp
  · split <;> simp

@[simp] theorem counterTick_frame (s : State) :
    (counterTick s).pending = s.pending ∧ (counterTick s).orderDraws = s.orderDraws ∧
    (counterTick s).phase = s.phase ∧ (counterTick s).ports = s.ports ∧ (counterTick s).free = s.free ∧
    (counterTick s).lanes = s.lanes ∧ (counterTick s).aligner = s.aligner ∧ (counterTick s).flows = s.flows ∧
    (counterTick s).groups = s.groups ∧ (counterTick s).sched = s.sched ∧ (counterTick s).trunk = s.trunk ∧
    (counterTick s).timer = s.timer ∧ (counterTick s).follower = s.follower ∧ (counterTick s).engine = s.engine ∧
    (counterTick s).notices.enabled = s.notices.enabled ∧ (counterTick s).counters.ports = s.counters.ports ∧
    (counterTick s).counters.lanes = s.counters.lanes ∧ (counterTick s).counters.flows = s.counters.flows ∧
    (counterTick s).counters.groups = s.counters.groups := by
  unfold counterTick
  split
  · simp
  · split <;> simp

/-- A block's share of a boundary that no request waits for. -/
@[simp] theorem runTask_frame (m : Marks) (x : Config.Task) (s : State) (h : s.engine.requests = []) :
    (runTask m x s).pending = s.pending ∧ (runTask m x s).orderDraws = s.orderDraws ∧
    (runTask m x s).phase = s.phase ∧ (runTask m x s).ports = s.ports ∧ (runTask m x s).timer = s.timer ∧
    (runTask m x s).follower = s.follower ∧ (runTask m x s).aligner.skew = s.aligner.skew ∧
    (runTask m x s).aligner.releaseSlot = s.aligner.releaseSlot ∧
    (runTask m x s).aligner.lateLimit = s.aligner.lateLimit ∧
    (runTask m x s).notices.enabled = s.notices.enabled ∧ (runTask m x s).sched.bankA = s.sched.bankA ∧
    (runTask m x s).sched.bankB = s.sched.bankB ∧ (runTask m x s).engine.unitAddr = s.engine.unitAddr ∧
    (runTask m x s).engine.requests = [] := by
  cases x <;> simp [runTask, h] <;> split <;> simp [h]

/-- Any share of a boundary, a take among them, keeps the model's own fields, the phase and the timer. -/
@[simp] theorem runTask_keeps (m : Marks) (x : Config.Task) (s : State) :
    (runTask m x s).pending = s.pending ∧ (runTask m x s).orderDraws = s.orderDraws ∧
    (runTask m x s).phase = s.phase ∧ (runTask m x s).timer = s.timer := by
  cases x <;> simp [runTask] <;> split <;> simp

@[simp] theorem runTasks_nil (m : Marks) (s : State) : runTasks m [] s = s := rfl

@[simp] theorem runTasks_cons (m : Marks) (x : Config.Task) (l : List Config.Task) (s : State) :
    runTasks m (x :: l) s = runTasks m l (runTask m x s) := rfl

@[simp] theorem runTasks_frame (m : Marks) (l : List Config.Task) (s : State) (h : s.engine.requests = []) :
    (runTasks m l s).pending = s.pending ∧ (runTasks m l s).orderDraws = s.orderDraws ∧
    (runTasks m l s).phase = s.phase ∧ (runTasks m l s).ports = s.ports ∧ (runTasks m l s).timer = s.timer ∧
    (runTasks m l s).follower = s.follower ∧ (runTasks m l s).aligner.skew = s.aligner.skew ∧
    (runTasks m l s).aligner.releaseSlot = s.aligner.releaseSlot ∧
    (runTasks m l s).aligner.lateLimit = s.aligner.lateLimit ∧
    (runTasks m l s).notices.enabled = s.notices.enabled ∧ (runTasks m l s).sched.bankA = s.sched.bankA ∧
    (runTasks m l s).sched.bankB = s.sched.bankB ∧ (runTasks m l s).engine.unitAddr = s.engine.unitAddr ∧
    (runTasks m l s).engine.requests = [] := by
  induction l generalizing s with
  | nil => simp [h]
  | cons x l ih => simp [ih, h]

@[simp] theorem runTasks_keeps (m : Marks) (l : List Config.Task) (s : State) :
    (runTasks m l s).pending = s.pending ∧ (runTasks m l s).orderDraws = s.orderDraws ∧
    (runTasks m l s).phase = s.phase ∧ (runTasks m l s).timer = s.timer := by
  induction l generalizing s with
  | nil => simp
  | cons x l ih => simp [ih]

@[simp] theorem serve_frame (m : Marks) (s : State) (h : s.engine.requests = []) :
    (serve m s).pending = s.pending ∧ (serve m s).phase = s.phase ∧ (serve m s).ports = s.ports ∧
    (serve m s).timer = s.timer ∧ (serve m s).follower = s.follower ∧
    (serve m s).aligner.skew = s.aligner.skew ∧ (serve m s).aligner.releaseSlot = s.aligner.releaseSlot ∧
    (serve m s).aligner.lateLimit = s.aligner.lateLimit ∧ (serve m s).notices.enabled = s.notices.enabled ∧
    (serve m s).sched.bankA = s.sched.bankA ∧ (serve m s).sched.bankB = s.sched.bankB ∧
    (serve m s).engine.unitAddr = s.engine.unitAddr ∧ (serve m s).engine.requests = [] := by
  unfold serve
  split <;> simp [h]

@[simp] theorem serve_keeps (m : Marks) (s : State) :
    (serve m s).pending = s.pending ∧ (serve m s).phase = s.phase ∧ (serve m s).timer = s.timer := by
  unfold serve
  split <;> simp

/-- At a boundary whose outcome depends on no order the shares are taken in the plain one. -/
theorem serve_plain (m : Marks) (s : State) (h : contested m s = false) :
    serve m s =
      runTask m .take (runTask m .transmit (runTask m .release (runTask m .tick (runTask m .renew s)))) := by
  simp only [serve, h]; rfl

@[simp] theorem noteRealign_frame (p : Int) (s : State) :
    (noteRealign p s).pending = s.pending ∧ (noteRealign p s).orderDraws = s.orderDraws ∧
    (noteRealign p s).phase = s.phase ∧ (noteRealign p s).ports = s.ports ∧ (noteRealign p s).free = s.free ∧
    (noteRealign p s).lanes = s.lanes ∧ (noteRealign p s).aligner = s.aligner ∧ (noteRealign p s).flows = s.flows ∧
    (noteRealign p s).groups = s.groups ∧ (noteRealign p s).sched = s.sched ∧ (noteRealign p s).trunk = s.trunk ∧
    (noteRealign p s).timer = s.timer ∧ (noteRealign p s).follower = s.follower ∧
    (noteRealign p s).engine = s.engine ∧ (noteRealign p s).snapshot = s.snapshot ∧
    (noteRealign p s).notices.enabled = s.notices.enabled ∧ (noteRealign p s).counters.ports = s.counters.ports ∧
    (noteRealign p s).counters.lanes = s.counters.lanes ∧ (noteRealign p s).counters.flows = s.counters.flows ∧
    (noteRealign p s).counters.groups = s.counters.groups := by
  simp [noteRealign]

@[simp] theorem completeArm_frame (p : Int) (s : State) :
    (completeArm p s).pending = s.pending ∧ (completeArm p s).orderDraws = s.orderDraws ∧
    (completeArm p s).phase = s.phase ∧ (completeArm p s).ports = s.ports ∧ (completeArm p s).free = s.free ∧
    (completeArm p s).lanes = s.lanes ∧ (completeArm p s).aligner = s.aligner ∧ (completeArm p s).flows = s.flows ∧
    (completeArm p s).groups = s.groups ∧ (completeArm p s).sched = s.sched ∧ (completeArm p s).trunk = s.trunk ∧
    (completeArm p s).timer = s.timer ∧ (completeArm p s).snapshot = s.snapshot ∧
    (completeArm p s).notices.enabled = s.notices.enabled ∧ (completeArm p s).counters.ports = s.counters.ports ∧
    (completeArm p s).counters.lanes = s.counters.lanes ∧ (completeArm p s).counters.flows = s.counters.flows ∧
    (completeArm p s).counters.groups = s.counters.groups ∧ (completeArm p s).follower.window = s.follower.window ∧
    (completeArm p s).follower.lastPhase = s.follower.lastPhase ∧
    (completeArm p s).engine.unitAddr = s.engine.unitAddr ∧ (completeArm p s).engine.owner = s.engine.owner ∧
    (completeArm p s).engine.requests = s.engine.requests ∧ (completeArm p s).follower.mode = .watch ∧
    (completeArm p s).follower.armed = false := by
  unfold completeArm
  dsimp only
  split <;> simp

@[simp] theorem followPulse_frame (p : Int) (s : State) :
    (followPulse p s).pending = s.pending ∧ (followPulse p s).orderDraws = s.orderDraws ∧
    (followPulse p s).phase = s.phase ∧ (followPulse p s).ports = s.ports ∧ (followPulse p s).free = s.free ∧
    (followPulse p s).lanes = s.lanes ∧ (followPulse p s).aligner = s.aligner ∧ (followPulse p s).flows = s.flows ∧
    (followPulse p s).groups = s.groups ∧ (followPulse p s).sched = s.sched ∧ (followPulse p s).trunk = s.trunk ∧
    (followPulse p s).timer = s.timer ∧ (followPulse p s).snapshot = s.snapshot ∧
    (followPulse p s).notices.enabled = s.notices.enabled ∧ (followPulse p s).counters.ports = s.counters.ports ∧
    (followPulse p s).counters.lanes = s.counters.lanes ∧ (followPulse p s).counters.flows = s.counters.flows ∧
    (followPulse p s).counters.groups = s.counters.groups ∧ (followPulse p s).follower.window = s.follower.window ∧
    (followPulse p s).engine.unitAddr = s.engine.unitAddr ∧ (followPulse p s).engine.owner = s.engine.owner ∧
    (followPulse p s).engine.requests = s.engine.requests ∧ (followPulse p s).follower.lastPhase = some p := by
  unfold followPulse
  dsimp only
  repeat' split
  all_goals simp

/-- A CREF pulse moves the timer and the follower, and at a cycle start the banks' roles; its counters, notices and
completions follow. -/
@[simp] theorem takePulse_frame (s : State) :
    (takePulse s).pending = s.pending ∧ (takePulse s).orderDraws = s.orderDraws ∧
    (takePulse s).phase = s.phase ∧ (takePulse s).ports = s.ports ∧ (takePulse s).free = s.free ∧
    (takePulse s).lanes = s.lanes ∧ (takePulse s).aligner = s.aligner ∧ (takePulse s).flows = s.flows ∧
    (takePulse s).groups = s.groups ∧ (takePulse s).sched.bankA = s.sched.bankA ∧
    (takePulse s).sched.bankB = s.sched.bankB ∧ (takePulse s).sched.lendPointer = s.sched.lendPointer ∧
    (takePulse s).trunk = s.trunk ∧
    (takePulse s).snapshot = s.snapshot ∧ (takePulse s).notices.enabled = s.notices.enabled ∧
    (takePulse s).engine.unitAddr = s.engine.unitAddr ∧ (takePulse s).engine.owner = s.engine.owner ∧
    (takePulse s).engine.requests = s.engine.requests ∧ (takePulse s).follower.window = s.follower.window ∧
    (takePulse s).timer.begun.isSome = true ∧
    (takePulse s).timer.slot = (s.timer.next (pulseCuts s (phaseError (s.timer.slot + 1)))).slot ∧
    (takePulse s).timer.cycle = (s.timer.next (pulseCuts s (phaseError (s.timer.slot + 1)))).cycle ∧
    (takePulse s).timer.tick = (s.timer.next (pulseCuts s (phaseError (s.timer.slot + 1)))).tick := by
  unfold takePulse
  dsimp only
  split <;> simp [markBegun]

@[simp] theorem boundary_keeps (s : State) :
    (boundary s).pending = s.pending ∧ (boundary s).phase = s.phase ∧ (boundary s).timer = s.timer.handOn := by
  simp [boundary]

@[simp] theorem boundary_frame (s : State) (h : s.engine.requests = []) :
    (boundary s).ports = s.ports ∧ (boundary s).aligner.skew = s.aligner.skew ∧
    (boundary s).aligner.releaseSlot = s.aligner.releaseSlot ∧
    (boundary s).aligner.lateLimit = s.aligner.lateLimit ∧ (boundary s).notices.enabled = s.notices.enabled ∧
    (boundary s).sched.bankA = s.sched.bankA ∧ (boundary s).sched.bankB = s.sched.bankB ∧
    (boundary s).engine.unitAddr = s.engine.unitAddr ∧ (boundary s).engine.requests = [] ∧
    (boundary s).follower = s.follower := by
  simp [boundary, h]

end Sys2Proof.Machine
end

