-- ==== Sys2Proof/Laws/Receive.lean ====
section
/-! SUPPORT. What the receivers can do: frames, and how octets of a stream become groups and cells. -/

namespace Sys2Proof.Machine

/-! ### Frames -/

@[simp] theorem modRx_profile (p : Port) (f : Receiver → Receiver) (s : State) (q : Port) :
    (modRx p f s).ports[q.val].profile = s.ports[q.val].profile := by
  simpa using upd_get_map s.ports p q (fun x => { x with rx := f x.rx }) PortState.profile (fun _ => rfl)

@[simp] theorem charge_frame (p : Port) (n : Nat) (s : State) :
    (charge p n s).pending = s.pending ∧ (charge p n s).orderDraws = s.orderDraws ∧
    (charge p n s).phase = s.phase ∧ (charge p n s).flows = s.flows ∧ (charge p n s).groups = s.groups ∧
    (charge p n s).sched = s.sched ∧ (charge p n s).trunk = s.trunk ∧ (charge p n s).timer = s.timer ∧
    (charge p n s).follower = s.follower ∧ (charge p n s).engine.unitAddr = s.engine.unitAddr ∧
    (charge p n s).engine.requests = s.engine.requests ∧ (charge p n s).engine.replies = s.engine.replies ∧
    (charge p n s).engine.inFlight = s.engine.inFlight ∧ (charge p n s).engine.held = s.engine.held ∧
    (charge p n s).aligner.skew = s.aligner.skew ∧ (charge p n s).aligner.releaseSlot = s.aligner.releaseSlot ∧
    (charge p n s).aligner.lateLimit = s.aligner.lateLimit ∧ (charge p n s).notices.enabled = s.notices.enabled ∧
    (charge p n s).counters.lanes = s.counters.lanes ∧ (charge p n s).counters.flows = s.counters.flows ∧
    (charge p n s).counters.groups = s.counters.groups := by
  unfold charge
  dsimp only
  split <;> simp

@[simp] theorem charge_profile (p : Port) (n : Nat) (s : State) (q : Port) :
    (charge p n s).ports[q.val].profile = s.ports[q.val].profile := by
  unfold charge
  dsimp only
  split <;> simp [-modRx_frame, -leaveUp_frame]

@[simp] theorem credit_frame (p : Port) (s : State) :
    (credit p s).pending = s.pending ∧ (credit p s).orderDraws = s.orderDraws ∧ (credit p s).phase = s.phase ∧
    (credit p s).free = s.free ∧ (credit p s).lanes = s.lanes ∧ (credit p s).aligner = s.aligner ∧
    (credit p s).flows = s.flows ∧ (credit p s).groups = s.groups ∧ (credit p s).sched = s.sched ∧
    (credit p s).trunk = s.trunk ∧ (credit p s).timer = s.timer ∧ (credit p s).follower = s.follower ∧
    (credit p s).engine = s.engine ∧ (credit p s).counters = s.counters ∧ (credit p s).snapshot = s.snapshot ∧
    (credit p s).notices = s.notices := by
  simp [credit]

@[simp] theorem credit_profile (p : Port) (s : State) (q : Port) :
    (credit p s).ports[q.val].profile = s.ports[q.val].profile := by
  simp [credit, -modRx_frame]

@[simp] theorem markArrives_frame (p : Port) (c : Octets) (s : State) :
    (markArrives p c s).pending = s.pending ∧ (markArrives p c s).orderDraws = s.orderDraws ∧
    (markArrives p c s).phase = s.phase ∧ (markArrives p c s).ports = s.ports ∧
    (markArrives p c s).sched = s.sched ∧ (markArrives p c s).trunk = s.trunk ∧
    (markArrives p c s).timer = s.timer ∧ (markArrives p c s).follower = s.follower ∧
    (markArrives p c s).engine = s.engine ∧ (markArrives p c s).snapshot = s.snapshot ∧
    (markArrives p c s).aligner.skew = s.aligner.skew ∧
    (markArrives p c s).aligner.releaseSlot = s.aligner.releaseSlot ∧
    (markArrives p c s).aligner.lateLimit = s.aligner.lateLimit ∧
    (markArrives p c s).notices.enabled = s.notices.enabled := by
  unfold markArrives
  dsimp only
  repeat' split
  all_goals simp

@[simp] theorem countUnderPause_frame (l : Lane) (s : State) :
    (countUnderPause l s).pending = s.pending ∧ (countUnderPause l s).orderDraws = s.orderDraws ∧
    (countUnderPause l s).phase = s.phase ∧ (countUnderPause l s).ports = s.ports ∧
    (countUnderPause l s).free = s.free ∧ (countUnderPause l s).lanes = s.lanes ∧
    (countUnderPause l s).aligner = s.aligner ∧ (countUnderPause l s).flows = s.flows ∧
    (countUnderPause l s).groups = s.groups ∧ (countUnderPause l s).sched = s.sched ∧
    (countUnderPause l s).trunk = s.trunk ∧ (countUnderPause l s).timer = s.timer ∧
    (countUnderPause l s).follower = s.follower ∧ (countUnderPause l s).engine = s.engine ∧
    (countUnderPause l s).snapshot = s.snapshot ∧ (countUnderPause l s).notices = s.notices ∧
    (countUnderPause l s).counters.lanes = s.counters.lanes ∧
    (countUnderPause l s).counters.flows = s.counters.flows ∧
    (countUnderPause l s).counters.groups = s.counters.groups ∧
    (countUnderPause l s).counters.unit = s.counters.unit := by
  unfold countUnderPause
  split <;> simp

@[simp] theorem dataArrives_frame (p : Port) (c : Octets) (s : State) :
    (dataArrives p c s).pending = s.pending ∧ (dataArrives p c s).orderDraws = s.orderDraws ∧
    (dataArrives p c s).phase = s.phase ∧ (dataArrives p c s).ports = s.ports ∧
    (dataArrives p c s).sched = s.sched ∧ (dataArrives p c s).trunk = s.trunk ∧
    (dataArrives p c s).timer = s.timer ∧ (dataArrives p c s).follower = s.follower ∧
    (dataArrives p c s).engine = s.engine ∧ (dataArrives p c s).snapshot = s.snapshot ∧
    (dataArrives p c s).aligner.skew = s.aligner.skew ∧
    (dataArrives p c s).aligner.releaseSlot = s.aligner.releaseSlot ∧
    (dataArrives p c s).aligner.lateLimit = s.aligner.lateLimit ∧
    (dataArrives p c s).notices.enabled = s.notices.enabled := by
  unfold dataArrives
  dsimp only
  repeat' split
  all_goals simp

/-- A request that passes can be taken in the same instant, and a take can change most of the part. -/
@[simp] theorem mreqArrives_frame (p : Port) (c : Octets) (s : State) :
    (mreqArrives p c s).pending = s.pending ∧ (mreqArrives p c s).orderDraws = s.orderDraws ∧
    (mreqArrives p c s).phase = s.phase ∧ (mreqArrives p c s).timer = s.timer ∧ (mreqArrives p c s).trunk = s.trunk := by
  unfold mreqArrives
  dsimp only
  repeat' split
  all_goals simp

@[simp] theorem dispatchCell_frame (p : Port) (c : Octets) (s : State) :
    (dispatchCell p c s).pending = s.pending ∧ (dispatchCell p c s).orderDraws = s.orderDraws ∧
    (dispatchCell p c s).phase = s.phase ∧ (dispatchCell p c s).timer = s.timer ∧ (dispatchCell p c s).trunk = s.trunk := by
  unfold dispatchCell
  repeat' split
  all_goals simp

@[simp] theorem judgeCell_frame (p : Port) (c : Octets) (s : State) :
    (judgeCell p c s).pending = s.pending ∧ (judgeCell p c s).orderDraws = s.orderDraws ∧
    (judgeCell p c s).phase = s.phase ∧ (judgeCell p c s).timer = s.timer ∧ (judgeCell p c s).trunk = s.trunk := by
  unfold judgeCell
  repeat' split
  all_goals simp

@[simp] theorem checkGroup_frame (p : Port) (g : Octets) (s : State) :
    (checkGroup p g s).pending = s.pending ∧ (checkGroup p g s).orderDraws = s.orderDraws ∧
    (checkGroup p g s).phase = s.phase ∧ (checkGroup p g s).free = s.free ∧
    (checkGroup p g s).aligner = s.aligner ∧ (checkGroup p g s).flows = s.flows ∧
    (checkGroup p g s).groups = s.groups ∧ (checkGroup p g s).sched = s.sched ∧
    (checkGroup p g s).trunk = s.trunk ∧ (checkGroup p g s).timer = s.timer ∧
    (checkGroup p g s).follower = s.follower ∧ (checkGroup p g s).engine = s.engine ∧
    (checkGroup p g s).snapshot = s.snapshot ∧ (checkGroup p g s).notices.enabled = s.notices.enabled ∧
    (checkGroup p g s).counters.ports = s.counters.ports ∧ (checkGroup p g s).counters.lanes = s.counters.lanes ∧
    (checkGroup p g s).counters.flows = s.counters.flows ∧
    (checkGroup p g s).counters.groups = s.counters.groups := by
  unfold checkGroup
  repeat' split
  all_goals simp

@[simp] theorem checkGroup_profile (p : Port) (g : Octets) (s : State) (q : Port) :
    (checkGroup p g s).ports[q.val].profile = s.ports[q.val].profile := by
  unfold checkGroup
  repeat' split
  all_goals simp [-modRx_frame, -enterUp_frame]

@[simp] theorem rxOctet_frame (p : Port) (b : Byte) (s : State) :
    (rxOctet p b s).pending = s.pending ∧ (rxOctet p b s).orderDraws = s.orderDraws ∧
    (rxOctet p b s).phase = s.phase ∧ (rxOctet p b s).timer = s.timer ∧ (rxOctet p b s).trunk = s.trunk := by
  unfold rxOctet
  dsimp only
  repeat' split
  all_goals simp

@[simp] theorem rxOctets_frame (p : Port) (o : Octets) (s : State) :
    (rxOctets p o s).pending = s.pending ∧ (rxOctets p o s).orderDraws = s.orderDraws ∧
    (rxOctets p o s).phase = s.phase ∧ (rxOctets p o s).timer = s.timer ∧ (rxOctets p o s).trunk = s.trunk := by
  induction o generalizing s with
  | nil => simp [rxOctets]
  | cons b o ih => simp [rxOctets] at ih ⊢; simp [ih]

@[simp] theorem signalLost_frame (p : Port) (s : State) :
    (signalLost p s).pending = s.pending ∧ (signalLost p s).orderDraws = s.orderDraws ∧
    (signalLost p s).phase = s.phase ∧ (signalLost p s).flows = s.flows ∧ (signalLost p s).groups = s.groups ∧
    (signalLost p s).sched = s.sched ∧ (signalLost p s).trunk = s.trunk ∧ (signalLost p s).timer = s.timer ∧
    (signalLost p s).follower = s.follower ∧ (signalLost p s).engine.unitAddr = s.engine.unitAddr ∧
    (signalLost p s).engine.requests = s.engine.requests ∧ (signalLost p s).engine.replies = s.engine.replies ∧
    (signalLost p s).engine.inFlight = s.engine.inFlight ∧ (signalLost p s).engine.held = s.engine.held ∧
    (signalLost p s).aligner.skew = s.aligner.skew ∧ (signalLost p s).aligner.releaseSlot = s.aligner.releaseSlot ∧
    (signalLost p s).aligner.lateLimit = s.aligner.lateLimit ∧
    (signalLost p s).notices.enabled = s.notices.enabled ∧ (signalLost p s).counters.lanes = s.counters.lanes ∧
    (signalLost p s).counters.flows = s.counters.flows ∧ (signalLost p s).counters.groups = s.counters.groups := by
  unfold signalLost
  split <;> simp

@[simp] theorem signalLost_profile (p : Port) (s : State) (q : Port) :
    (signalLost p s).ports[q.val].profile = s.ports[q.val].profile := by
  unfold signalLost
  split <;> simp [-modRx_frame, -leaveUp_frame]

/-! ### Octets of a stream -/

@[simp] theorem rxOctets_nil (p : Port) (s : State) : rxOctets p [] s = s := rfl

@[simp] theorem rxOctets_cons (p : Port) (b : Byte) (o : Octets) (s : State) :
    rxOctets p (b :: o) s = rxOctets p o (rxOctet p b s) := rfl

theorem rxOctets_append (p : Port) (a b : Octets) (s : State) :
    rxOctets p (a ++ b) s = rxOctets p b (rxOctets p a s) := by
  simp [rxOctets]

/-- An update that leaves the receiver as it is changes nothing. -/
theorem modRx_same (p : Port) (f : Receiver → Receiver) (s : State) (h : f s.ports[p].rx = s.ports[p].rx) :
    modRx p f s = s := by
  have h' : upd s.ports p (fun x => { x with rx := f x.rx }) = s.ports := by
    apply upd_same
    have h : f s.ports[p.val].rx = s.ports[p.val].rx := by simpa using h
    rw [h]
  simp [modRx, modPort, h']

@[simp] theorem modRx_modRx (p : Port) (f g : Receiver → Receiver) (s : State) :
    modRx p g (modRx p f s) = modRx p (fun x => g (f x)) s := by
  simp [modRx, modPort]

@[simp] theorem modRx_rx (p : Port) (f : Receiver → Receiver) (s : State) :
    (modRx p f s).ports[p.val].rx = f s.ports[p.val].rx := by simp

/-- Updates that agree on the receiver give one state. -/
theorem modRx_congr (p : Port) (f g : Receiver → Receiver) (s : State) (h : f s.ports[p].rx = g s.ports[p].rx) :
    modRx p f s = modRx p g s := by
  have h' := upd_congr s.ports p (fun x => { x with rx := f x.rx }) (fun x => { x with rx := g x.rx })
    (by have h : f s.ports[p.val].rx = g s.ports[p.val].rx := by simpa using h
        rw [h])
  simp [modRx, modPort, h']

/-- The receiver takes its stream in groups of 64 and the group in hand begins at the stream's next octet or before it
(R1, R23). -/
def Receiver.inGroups (x : Receiver) : Prop := x.st = .up ∨ (x.st = .check ∧ x.skip = 0)

/-- Octets that do not complete a group are kept. -/
theorem rxOctets_keep (p : Port) (o : Octets) (s : State) (h : s.ports[p].rx.inGroups)
    (hl : s.ports[p].rx.octets.length + o.length < 64) :
    rxOctets p o s = modRx p (fun x => { x with octets := x.octets ++ o }) s := by
  induction o generalizing s with
  | nil => simpa using (modRx_same p _ s (by simp)).symm
  | cons b o ih =>
    have hb : rxOctet p b s = modRx p (fun x => { x with octets := x.octets ++ [b] }) s := by
      simp only [List.length_cons] at hl
      have h1 : s.ports[p].rx.octets.length + 1 < 64 := by omega
      rcases h with h | ⟨h, h0⟩
      · simp only [rxOctet, h]; rw [if_pos h1]
      · simp only [rxOctet, h, h0]; simp only [ne_eq, not_true, if_false]; rw [if_pos h1]
    rw [rxOctets_cons, hb, ih]
    · simp
    · simpa [Receiver.inGroups] using h
    · simp at hl ⊢; omega

/-- A whole group at a receiver in UP with no octets in hand is judged as a cell (R1, R26). -/
theorem rxOctets_up (p : Port) (c : Octets) (s : State) (h : s.ports[p].rx.st = .up)
    (h0 : s.ports[p].rx.octets = []) (hc : c.length = 64) : rxOctets p c s = judgeCell p c s := by
  obtain ⟨a, b, rfl⟩ : ∃ a b, c = a ++ [b] :=
    ⟨c.dropLast, c.getLast (by intro e; simp [e] at hc), (List.dropLast_append_getLast _).symm⟩
  simp at hc
  rw [rxOctets_append, rxOctets_keep p a s (.inl h) (by simp at h0; simp [h0]; omega)]
  have hr : (modRx p (fun x => { x with octets := x.octets ++ a }) s).ports[p].rx =
      { s.ports[p].rx with octets := a } := by simp at h0; simp [h0]
  have hn : ¬((modRx p (fun x => { x with octets := x.octets ++ a }) s).ports[p].rx.octets.length + 1 < 64) := by
    rw [hr]; simp; omega
  simp only [rxOctets_cons, rxOctets_nil, rxOctet, hr, h]
  have hx : ¬(a.length + 1 < 64) := by omega
  simp only [hx, if_false, modRx_modRx]
  rw [modRx_same]
  simp at h0 ⊢
  cases e : s.ports[p.val].rx; simp [e] at h0; simp [h0]

/-- A whole group at a receiver in CHECK that has none of it in hand is tested (R23). -/
theorem rxOctets_check (p : Port) (g : Octets) (s : State) (h : s.ports[p].rx.st = .check)
    (hs : s.ports[p].rx.skip = 0) (h0 : s.ports[p].rx.octets = []) (hg : g.length = 64) :
    rxOctets p g s = checkGroup p g (modRx p (fun x => { x with octets := g.dropLast }) s) := by
  obtain ⟨a, b, rfl⟩ : ∃ a b, g = a ++ [b] :=
    ⟨g.dropLast, g.getLast (by intro e; simp [e] at hg), (List.dropLast_append_getLast _).symm⟩
  simp at hg
  rw [rxOctets_append, rxOctets_keep p a s (.inr ⟨h, hs⟩) (by simp at h0; simp [h0]; omega)]
  have e : modRx p (fun x => { x with octets := x.octets ++ a }) s = modRx p (fun x => { x with octets := a }) s :=
    modRx_congr p _ _ s (by simp at h0; simp [h0])
  have hx : ¬(a.length + 1 < 64) := by omega
  simp at h hs
  simp [e, rxOctet, h, hs, hx]

/-- Octets at a receiver in HUNT are searched one by one while it stays in HUNT (R22). -/
theorem rxOctet_hunt (p : Port) (b : Byte) (s : State) (h : s.ports[p].rx.st = .hunt) :
    rxOctet p b s = modRx p (fun x => huntOctet x b) s := by
  simp only [rxOctet, h]

/-- Octets at a receiver that is OFF change nothing (R21). -/
theorem rxOctets_off (p : Port) (o : Octets) (s : State) (h : s.ports[p].rx.st = .off) : rxOctets p o s = s := by
  induction o generalizing s with
  | nil => rfl
  | cons b o ih =>
    have : rxOctet p b s = s := by simp only [rxOctet, h]
    rw [rxOctets_cons, this, ih s h]

end Sys2Proof.Machine
end

