-- ==== Sys2Proof/WellFormed.lean ====
section
/-! DEFINITION. Which commands are well formed: a group or a cell has 64 octets (R1), a run of searched octets is not
empty and no longer than a cell, a request carries at most 52 argument octets (R9). `exec` is total on the others
too. -/

namespace Sys2Proof

/-- A management command carries 0 to 52 argument octets (R9). -/
def argsFit (args : Octets) : Bool := args.length ≤ 52

/-- The well-formed commands. -/
def Instr.wellFormed : Instr → Bool
  | .resetAssert | .resetRelease _ | .initEnd | .lossOfSignal _ | .slotBoundary | .leaseExpiry | .snapExpiry
  | .swapTakeEffect | .drainEnd _ | .crefPulse | .armComplete | .requestTake | .heldCompletionAppend => true
  | .headerSearch _ o => 1 ≤ o.length && o.length ≤ 64
  | .checkCell _ o | .cellArrival _ o => o.length == 64
  | .identify _ _ a | .claim _ _ a | .release _ _ a | .setUnit _ _ a | .unitReset _ _ a | .laneGet _ _ a
  | .laneSet _ _ a | .laneRestart _ _ a | .alignGet _ _ a | .alignSet _ _ a | .alignRejoin _ _ a | .flowAdd _ _ a
  | .flowModify _ _ a | .flowRemove _ _ a | .flowGet _ _ a | .flowList _ _ a | .schedWrite _ _ a | .schedRead _ _ a
  | .schedSwap _ _ a | .schedCancel _ _ a | .groupSet _ _ a | .groupGet _ _ a | .groupFlush _ _ a | .cycleSet _ _ a
  | .cycleArm _ _ a | .cycleGet _ _ a | .snapTake _ _ a | .snapRead _ _ a | .snapDrop _ _ a | .countClear _ _ a
  | .noticeEnable _ _ a | .noticeGet _ _ a => argsFit a

end Sys2Proof
end

