-- ==== Sys2Proof/Tests/Slice0.lean ====
section
/-! SUPPORT. Small tests of the model, and for each obligation with hypotheses a state and operands that meet them. -/

-- These theorems are checked one after another: the kernel evaluations of all of them at once take a thread each.
set_option Elab.async false

open Sys2Proof Sys2Proof.Machine

/-! ### Well-formed commands: one ill-formed command for each check -/

theorem test_wellFormed_search_run_not_empty : (Instr.headerSearch 0 []).wellFormed = false := by decide
theorem test_wellFormed_search_run_at_most_a_cell :
    (Instr.headerSearch 0 (List.replicate 65 0)).wellFormed = false := by decide
theorem test_wellFormed_check_group_has_64_octets :
    (Instr.checkCell 0 (List.replicate 63 0)).wellFormed = false := by decide
theorem test_wellFormed_cell_has_64_octets :
    (Instr.cellArrival 0 (List.replicate 65 0)).wellFormed = false := by decide
theorem test_wellFormed_arguments_at_most_52 :
    (Instr.identify 0 0 (List.replicate 53 0)).wellFormed = false := by decide
theorem test_wellFormed_legal_commands :
    (Instr.cellArrival 0 (List.replicate 64 0)).wellFormed = true ∧
    (Instr.snapRead 6 255 (List.replicate 52 0)).wellFormed = true ∧
    (Instr.headerSearch 6 [0]).wellFormed = true := by decide

/-! ### States and cells -/

/-- A receiver in UP with a level. -/
def rxUp (level : Nat) : Receiver := { st := .up, level := level, count := 6, octets := [], skip := 0 }

/-- A running part with every port UP and permitted, and T-in its owner. -/
def base : State :=
  { State.reset with
    phase := .running
    ports := State.reset.ports.map fun x => { profile := { x.profile with mgmt := true }, rx := rxUp 5 }
    engine := { Engine.powerOn with
      unitAddr := 5, owner := some { port := 6, lease := 64, remaining := 2 } }
    trunk := { sending := some fillCell, inTransit := none } }

/-- The same with every lane aligned. -/
def alignedBase : State :=
  { base with ports := base.ports.map fun x => { x with profile := { x.profile with mode := .aligned } } }

/-- A port's receiver replaced. -/
def withRx (p : Port) (x : Receiver) (s : State) : State := modPort p (fun y => { y with rx := x }) s

/-- A flow entry for flow 7 of lane 0 into group 0. -/
def entry : FlowEntry :=
  { lane := 0, inflow := 7, draining := false, group := 0, outflow := 300, seqCheck := true, expected := some 4095,
    renumber := true, egressSeq := 4095, stamp := .add, budget := some 2, admitted := 1, inQueue := 0 }

/-- The state with one entry, at place 3. -/
def withEntry (e : FlowEntry) (s : State) : State := { s with flows := s.flows.set 3 (some e) }

/-- A DATA cell of lane 0, flow 7. -/
def dataAt (n : Seq) : Octets := buildCell 2 false 7 n 3 0 [1, 2, 3]

/-- A MARK that opens an epoch, with a closed count and tag 9. -/
def markAt (e : Epoch) (n : Nat) : Octets := buildCell 1 false 0 0 0 0 (o16 e.toNat ++ o16 n ++ [9])

/-- An MREQ for NOTICE_GET to a unit address. -/
def requestTo (u : Byte) : Octets := buildCell 3 false 0 0 4 u [0x61, 0x22, 0, 0]

/-- A record of an epoch in which lane 0 has a status and the others are NA. -/
def recordOf (e : Epoch) (x : LaneStatus) (due : Option Nat) : EpochRec :=
  { epoch := e, due := due, status := (Vector.replicate 6 LaneStatus.na).set 0 x, arrivals := Vector.replicate 6 0 }

/-- The set running with a window, and lane 0 a member in some way. -/
def setWith (w : List EpochRec) (m : Membership) (s : State) : State :=
  { modLane 0 (fun x => { x with member := m }) s with
    aligner := { s.aligner with running := true, window := w } }

/-- A queued cell of entry 3. -/
def queued : GroupRec := { cell := dataCell 0 (dataAt 0), entry := 3, origin := .pass }

/-- A group's queue replaced. -/
def withQueue (g : Group) (q : List GroupRec) (s : State) : State := modGroup g (fun x => { x with queue := q }) s

/-- A notice record that waits. -/
def waitingNotice : NoticeRec := { kind := .laneUp, subject := 0, occurrences := 65535, firstCycle := 0, detail := [] }

/-- A running swap, a running arm and a drain, each with its operation. -/
def swapOp : Operation := { port := 0, tag := 1, code := 0x32, target := .bank .b }
def armOp : Operation := { port := 0, tag := 2, code := 0x41, target := .follower }
def drainOp : Operation := { port := 0, tag := 3, code := 0x22, target := .flow 3 }

/-- A held completion. -/
def heldOp : HeldOp := { op := armOp, status := .done, result := [0, 0] }

/-- The engine with some of its lists replaced. -/
def withEngine (f : Engine → Engine) (s : State) : State := { s with engine := f s.engine }

/-- A reply that waits. -/
def waitingReply : Reply := { port := 6, code := 1, tag := 0, status := .ok, result := [] }

/-- The reply queue is full. -/
def stalled : State := withEngine (fun e => { e with replies := List.replicate 16 waitingReply }) base

/-- A snapshot held by a port. -/
def snapOf (p : Port) : Snapshot :=
  { holder := p, cycle := 0, slot := 0, cleared := false, lifetime := 8, remaining := 1, counters := Counters.zero,
    keys := Vector.replicate 256 none }

/-- A pending swap, a drain about to end and an arm, each with its operation. -/
def swapping : State :=
  withEngine (fun e => { e with inFlight := [swapOp] }) { base with sched := { base.sched with swapPending := true } }
def draining : State :=
  withEngine (fun e => { e with inFlight := [drainOp] }) (withEntry { entry with draining := true } base)
def armed : State :=
  withEngine (fun e => { e with inFlight := [armOp] })
    { base with follower := { mode := .once, window := 3, armed := true, lastPhase := none } }

/-- What a command leaves of a state, read with `f`. -/
def after {α : Type} (c : Instr) (s : State) (f : State → α) : Option α :=
  match exec c s with
  | .next t => some (f t)
  | _ => none

/-- The statuses that a command adds to an empty reply queue. -/
def answers (c : Instr) (s : State) : Option (List Status) := after c s fun t => t.engine.replies.map Reply.status

/-- The fields of a State from its bare parts: the entry at place 3 alone has distinct keys. -/
theorem keysDistinct_one (s : State) (e : FlowEntry) (h : s.flows = Vector.replicate 256 none) :
    keysDistinct (withEntry e s) := by
  intro i j hij
  have hv : i.val ≠ j.val := fun x => hij (Fin.ext x)
  simp only [withEntry, h, Fin.getElem_fin, Vector.getElem_set, Vector.getElem_replicate]
  by_cases hi : 3 = i.val <;> by_cases hj : 3 = j.val
  · exact absurd (hi.symm.trans hj) hv
  all_goals simp [sameKey, hi, hj, hv, Ne.symm hv]

/-! ### Values that the manual works out -/

/-- The header of the example of 1.2: 20h 00h 05h 00h 01h 10h 00h has the check octet 70h. -/
theorem test_header_check_example : crc8 [0x20, 0x00, 0x05, 0x00, 0x01, 0x10, 0x00] = 0x70 := by decide +kernel

/-- The examples of R13. -/
theorem test_serial_comparison_examples :
    epochAfter 0 65534 = true ∧ epochAfter 32765 65534 = true ∧ epochAfter 32766 65534 = false ∧
    epochAfter 65534 32766 = false ∧ seqAfter 3 4094 = true ∧ ((3 : Seq) - 4094).toNat = 5 := by decide

/-- The budget example of 2.3: a header error at level 63 takes a lane with limit 64 down with level 79. -/
theorem test_cell_arrival_budget_example :
    after (.cellArrival 0 (List.replicate 64 0xFF)) (withRx 0 (rxUp 47) base)
      (fun t => (t.ports[0].rx.level, t.ports[0].rx.st)) = some (63, .up) ∧
    after (.cellArrival 0 (List.replicate 64 0xFF)) (withRx 0 (rxUp 63) base)
      (fun t => (t.ports[0].rx.st, t.notices.waiting.map NoticeRec.detail)) = some (.hunt, [[0x01, 79]]) := by
  decide +kernel

/-- A part from reset takes a release and an end of initialisation, and its ports search (R15, R189). -/
theorem test_reset_release_and_init_end :
    after (.resetRelease 3) State.reset (fun t => (t.engine.unitAddr, t.phase, t.trunk.sending)) =
      some (3, .initialising 0, some fillCell) ∧
    after .initEnd { State.reset with phase := .initialising 0 } (fun t => (t.phase, t.ports[6].rx.st)) =
      some (.running, .hunt) := by decide +kernel

/-- A run of zero octets is a FILL header at the eighth octet (R22). -/
theorem test_header_search_finds_fill :
    after (.headerSearch 6 (List.replicate 8 0)) (withRx 6 (Receiver.fresh .hunt) base)
      (fun t => (t.ports[6].rx.st, t.ports[6].rx.count, t.ports[6].rx.skip)) = some (.check, 1, 56) := by
  decide +kernel

/-- A cell with sequence number 0 after an expected 4095 shows a gap of one (R88) and is admitted (R91). -/
theorem test_cell_arrival_gap_and_admission :
    after (.cellArrival 0 (dataAt 0)) (withEntry entry base)
      (fun t => (t.counters.flows[3].seqGap, t.free, t.groups[0].queue.length)) = some (1, 1023, 1) ∧
    after (.cellArrival 0 (dataAt 0)) (withEntry entry base) (fun t => t.flows[3]) =
      some (some { entry with expected := some 1, inQueue := 1, admitted := 2 }) := by decide +kernel

/-- A request to the unit's own address is taken in its instant; with the reply queue full it joins the queue (R31,
R144). -/
theorem test_cell_arrival_request_is_taken_or_joins :
    after (.cellArrival 6 (requestTo 5)) base (fun t => (t.engine.requests, t.engine.replies.map Reply.tag)) =
      some ([], [0x22]) ∧
    after (.cellArrival 6 (requestTo 5)) stalled (fun t => t.engine.requests) =
      some [{ port := 6, code := 0x61, tag := 0x22, args := [] }] := by decide +kernel

/-- A MARK starts the set, and the successor MARK makes the next record (R62, R64, R65). -/
theorem test_cell_arrival_marks :
    after (.cellArrival 0 (markAt 65535 0)) (modLane 0 (fun x => { x with member := .joining }) alignedBase)
      (fun t => (t.aligner.running, t.aligner.window.map EpochRec.epoch)) = some (true, [65535]) ∧
    after (.cellArrival 0 (markAt 0 1)) (setWith [recordOf 65535 .expected none] (.isIn 65535 false) alignedBase)
      (fun t => (t.aligner.window.map fun r => (r.epoch, r.due, r.status[0]), t.counters.lanes[0].mismatches)) =
      some ([(65535, some 3, .closed), (0, none, .expected)], 1) := by decide +kernel
/-- A MARK that joins a RUNNING set in which no lane is IN: the records created on the way have every status NA and get
the due count D + 1 (R58, R62). -/
theorem test_cell_arrival_join_creates_due_records :
    after (.cellArrival 0 (markAt 3 0))
      { setWith [recordOf 1 .na (some 1)] .joining alignedBase with free := 1024 }
      (fun t => t.aligner.window.map fun r => (r.epoch, r.due, r.status[0])) =
      some [(1, some 1, .na), (2, some 3, .na), (3, some 3, .expected)] := by decide +kernel

/-- The slot after slot 63 is slot 0 of the next cycle (R130). -/
theorem test_slot_boundary_wraps :
    after .slotBoundary { base with timer := { slot := 63, cycle := 4294967295, tick := 4095 } }
      (fun t => t.timer) = some { slot := 0, cycle := 0, tick := 0 } := by decide +kernel

/-- A queued cell goes out in its group's slot under RENUMBER and ADD (R94 to R96). -/
theorem test_slot_boundary_sends_head :
    after .slotBoundary (withQueue 0 [queued] (withEntry { entry with inQueue := 1 } base))
      (fun t => (t.trunk.sending.map fun c => (c.take 7, (c.drop 8).take 8), t.flows[3].map FlowEntry.egressSeq)) =
      some (some ([0x28, 0x01, 0x2C, 0x0F, 0xFF, 3, 0], [0, 0, 0, 0, 1, 0, 0, 0]), some 0) := by decide +kernel
/-- The buffer in transmission keeps its cell's epoch (R41). -/
theorem test_slot_boundary_keeps_origin :
    after .slotBoundary
      (withQueue 0 [{ queued with origin := .aligned 9 }] (withEntry { entry with inQueue := 1 } base))
      (fun t => t.trunk.inTransit) = some (some { cell := queued.cell, origin := .aligned 9 }) := by decide +kernel

/-- A pulse four slots early in ALWAYS mode cuts the cycle; the boundary that it is taken at hands slot 0 on from there
(R135, R136). -/
theorem test_cref_pulse_realigns :
    after .crefPulse
      { base with timer := { slot := 59, cycle := 7, tick := 7 },
                  follower := { mode := .always, window := 3, armed := false, lastPhase := none } }
      (fun t => (t.timer, t.follower.lastPhase, t.counters.unit.realigns)) =
      some ({ slot := 0, cycle := 8, tick := 8, begun := some true }, some (-4), 1) ∧
    after .slotBoundary { base with timer := { slot := 0, cycle := 8, tick := 8, begun := some true } }
      (fun t => t.timer) = some { slot := 0, cycle := 8, tick := 8 } := by decide +kernel

/-- A pulse that realigns makes a pending swap take effect; a SCHED_SWAP taken after it waits for the following cycle
start (R127, R141). -/
theorem test_swap_and_cref_pulse :
    after .crefPulse
      { swapping with timer := { slot := 59, cycle := 7, tick := 7 },
                      follower := { mode := .always, window := 3, armed := false, lastPhase := none } }
      (fun t => (t.sched.active, t.sched.swapPending, t.engine.replies.map fun r => (r.status, r.result))) =
      some (.b, false, [(.done, [1])]) ∧
    after .slotBoundary { swapping with timer := { slot := 0, cycle := 8, tick := 8, begun := some true } }
      (fun t => (t.sched.active, t.sched.swapPending)) = some (.a, true) := by decide +kernel

/-- An ALIGN_SET taken after the pulse moves R from the slot after on: the boundary is a release point by the R that the
pulse found (R78, R141). -/
theorem test_release_point_and_cref_pulse :
    after .slotBoundary
      { setWith [recordOf 1 .closed (some 3)] (.isIn 2 false) alignedBase with
        timer := { slot := 0, cycle := 8, tick := 8, begun := some false } }
      (fun t => t.aligner.window.map EpochRec.due) = some [some 3] ∧
    after .slotBoundary
      { setWith [recordOf 1 .closed (some 3)] (.isIn 2 false) alignedBase with
        timer := { slot := 1, cycle := 8, tick := 8, begun := some true } }
      (fun t => t.aligner.window.map EpochRec.due) = some [some 2] := by decide +kernel

/-- An arm completes and the follower watches; UNIT_RESET in the same instant leaves STARTED as the only reply seen
(R137, R141). -/
theorem test_arm_complete :
    after .armComplete armed (fun t => (t.engine.replies.map fun r => (r.tag, r.status, r.result), t.follower.mode,
      t.engine.inFlight)) = some ([(2, .done, [1, 1])], .watch, []) ∧
    after (.unitReset 6 1 []) { armed with timer := { slot := 0, cycle := 1, tick := 1, begun := some true } }
      (fun t => (t.timer, t.engine.replies.map Reply.code)) =
      some ({ slot := 0, cycle := 1, tick := 1, begun := some true }, [0x05]) := by decide +kernel

/-- The last tick of a lease and of a lifetime (R156, R174). -/
theorem test_expiries :
    after .leaseExpiry (withEngine (fun e => { e with owner := some { port := 6, lease := 1, remaining := 1 } }) base)
      (fun t => (t.engine.owner, t.notices.waiting.map NoticeRec.detail)) = some (none, [[6, 1]]) ∧
    after .snapExpiry { base with snapshot := some (snapOf 2) }
      (fun t => (t.snapshot, t.counters.unit.snapExpiries)) = some (none, 1) := by decide +kernel

/-- The ends of a swap and of a drain, and a held completion's append (R112, R101, R152). -/
theorem test_ends_of_operations :
    after .swapTakeEffect
      swapping
      (fun t => (t.sched.active, t.engine.replies.map Reply.result)) = some (.b, [[1]]) ∧
    after (.drainEnd 3) draining
      (fun t => (t.flows[3], t.engine.replies.map Reply.tag)) = some (none, [3]) ∧
    after .heldCompletionAppend (withEngine (fun e => { e with held := [heldOp] }) base)
      (fun t => (t.engine.held, t.engine.replies.length)) = some ([], 1) := by decide +kernel

/-- The immediate replies of the commands on the base state. -/
theorem test_replies_of_unit_and_lane_commands :
    answers (.identify 0 1 []) base = some [.ok] ∧ answers (.identify 0 1 [0]) base = some [.badArgument] ∧
    answers (.claim 0 1 [0]) base = some [.owned] ∧ answers (.claim 6 1 [0]) base = some [.ok] ∧
    answers (.release 0 1 []) base = some [.notOwner] ∧ answers (.setUnit 6 1 [254]) base = some [.ok] ∧
    answers (.unitReset 6 1 []) base = some [.ok] ∧ answers (.laneGet 0 1 [7]) base = some [.badArgument] ∧
    answers (.laneSet 6 1 [6, 1, 9, 9, 9, 9, 9, 9, 9, 9, 16, 9, 9]) base = some [.ok] ∧
    answers (.laneRestart 6 1 [0]) base = some [.ok] := by decide +kernel
theorem test_replies_of_align_and_flow_commands :
    answers (.alignGet 0 1 [4]) base = some [.ok] ∧ answers (.alignSet 6 1 [7, 63, 7]) base = some [.ok] ∧
    answers (.alignRejoin 6 1 [0]) base = some [.badArgument] ∧
    answers (.flowAdd 6 1 [0, 0, 8, 0, 1, 44, 1, 1, 1, 0, 2]) (withEntry entry base) = some [.ok] ∧
    answers (.flowAdd 6 1 [0, 0, 7, 0, 1, 44, 1, 1, 1, 0, 2]) (withEntry entry base) = some [.keyExists] ∧
    answers (.flowModify 6 1 [0, 0, 7, 15, 3, 255, 0, 0, 2, 15, 255]) (withEntry entry base) = some [.ok] ∧
    answers (.flowRemove 6 1 [0, 0, 7]) (withEntry entry base) = some [.ok] ∧
    answers (.flowRemove 6 1 [0, 0, 7]) (withEntry { entry with inQueue := 1 } base) = some [.started] ∧
    answers (.flowGet 0 1 [1, 3]) (withEntry entry base) = some [.ok] ∧
    answers (.flowList 0 1 [4]) (withEntry entry base) = some [.ok] := by decide +kernel
theorem test_replies_of_schedule_and_group_commands :
    answers (.schedWrite 6 1 [63, 1, 1, 0]) base = some [.ok] ∧
    answers (.schedWrite 6 1 [63, 2, 1, 0, 1, 0]) base = some [.badArgument] ∧
    answers (.schedRead 0 1 [1, 48, 16]) base = some [.ok] ∧ answers (.schedSwap 6 1 []) base = some [.badSchedule] ∧
    answers (.schedCancel 6 1 []) base = some [.noSwap] ∧ answers (.groupSet 6 1 [15, 4, 0, 1]) base = some [.ok] ∧
    answers (.groupGet 0 1 [0]) base = some [.ok] ∧
    answers (.groupFlush 6 1 [0])
      (withEngine (fun e => { e with inFlight := [drainOp] })
        (withQueue 0 [queued] (withEntry { entry with draining := true, inQueue := 1 } base))) =
      some [.ok, .done] := by decide +kernel
theorem test_replies_of_timer_counter_and_notice_commands :
    answers (.cycleSet 6 1 [3, 31]) base = some [.ok] ∧ answers (.cycleArm 6 1 []) base = some [.badArgument] ∧
    answers (.cycleGet 0 1 []) base = some [.ok] ∧ answers (.snapTake 0 1 [0, 0]) base = some [.ok] ∧
    answers (.snapTake 0 1 [1, 0]) base = some [.notOwner] ∧
    answers (.snapRead 0 1 [0, 0, 0, 0]) base = some [.noSnapshot] ∧
    answers (.snapDrop 2 1 []) { base with snapshot := some (snapOf 2) } = some [.ok] ∧
    answers (.countClear 6 1 [255, 255, 255]) base = some [.ok] ∧
    answers (.noticeEnable 6 1 [2, 1, 14]) base = some [.ok] ∧ answers (.noticeGet 0 1 []) base = some [.ok] := by
  decide +kernel

/-- A request that waits is taken by REQUEST_TAKE, and an unknown code is refused (R144, R145). -/
theorem test_request_take_unknown_code :
    answers .requestTake (requesting [{ port := 0, code := 0x62, tag := 0, args := [] }] base) =
      some [.badCommand] := by decide +kernel

/-- A loss of signal takes an UP port down and a reset stops T-out (R25, R15). -/
theorem test_loss_of_signal_and_reset :
    after (.lossOfSignal 6) base (fun t => (t.ports[6].rx.st, t.engine.owner, t.notices.waiting.map NoticeRec.kind)) =
      some (.hunt, none, [.laneDown, .ownerLost]) ∧
    after .resetAssert base (fun t => (t.phase, t.trunk.sending, pauseLine t 0)) =
      some (.heldInReset, none, true) := by decide +kernel

/-- The sixth valid header takes a port to UP (R24). -/
theorem test_check_cell_sixth_header :
    after (.checkCell 0 fillCell) (withRx 0 { (Receiver.fresh .check) with count := 5 } alignedBase)
      (fun t => (t.ports[0].rx.st, t.ports[0].rx.count, t.lanes[0].member)) = some (.up, 6, .joining) := by
  decide +kernel

/-! ### Witnesses: for each obligation with hypotheses, states and operands that meet them, clause by clause -/

theorem takes (s : State) (p : Port) (r : s.phase = .running) (h : s.ports = base.ports ∨ s.ports = alignedBase.ports)
    (e : engineFree s) : takesAtOnce s p := by
  have k : ∀ q : Port, base.ports[q].rx.st = .up ∧ base.ports[q].profile.mgmt = true ∧
      alignedBase.ports[q].rx.st = .up ∧ alignedBase.ports[q].profile.mgmt = true := by decide +kernel
  refine ⟨r, ?_, ?_, e⟩ <;> rcases h with h | h <;> simp only [h, k p]
theorem base_takes_at_once (p : Port) : takesAtOnce base p := takes _ _ rfl (.inl rfl) ⟨rfl, by decide, rfl⟩
theorem stalled_not_free : ¬engineFree stalled := fun h => absurd h.2.1 (by decide)
theorem only_one (s : State) (o : Operation) (h : s.engine.inFlight = [o]) : onlyOperation s o.target o := by
  refine ⟨by simp [h], rfl, ?_⟩
  intro y hy _
  simpa [h] using hy

theorem base_owned : ownedBy base 6 := rfl
theorem base_not_owned : ¬ownedBy base 0 := by unfold ownedBy; decide

theorem witness_StepRunsTheFrontCommand : base.pending = [] := rfl

theorem witness_ResetGivesPowerOnStateAndSamplesStraps : State.reset.phase = .heldInReset := rfl

/-- A part about to end its initialisation. -/
def ending : State := { State.reset with phase := .initialising 65535 }

theorem witness_InitEndBeginsSlotZero :
    ending.phase = .initialising 65535 ∧ ending.engine.requests = [] ∧ ending.aligner.window = [] ∧
    ending.sched.swapPending = false ∧ ending.trunk.inTransit = none ∧ ending.engine.replies = [] ∧
    ending.notices.waiting = [] ∧ ∀ g : Group, ending.groups[g].queue = [] := by decide +kernel

/-- A receiver that searches, with octets in hand. -/
def hunting (o : Octets) : State := withRx 0 { (Receiver.fresh .hunt) with octets := o } base

theorem witness_HeaderSearchFindsFirstValidGroup :
    (hunting [0xFF, 0, 0, 0, 0, 0, 0]).ports[(0 : Port)].rx.octets.length ≤ 7 ∧
    (hunting [0xFF, 0, 0, 0, 0, 0, 0]).ports[(0 : Port)].rx.st = .hunt ∧
    1 + 8 = (hunting [0xFF, 0, 0, 0, 0, 0, 0]).ports[(0 : Port)].rx.octets.length + ([0, 0] : Octets).length ∧
    headerValid ((([0xFF, 0, 0, 0, 0, 0, 0] : Octets) ++ [0, 0]).drop 1) = true ∧
    (∀ j < 1, headerValid (((([0xFF, 0, 0, 0, 0, 0, 0] : Octets) ++ [0, 0]).drop j).take 8) = false) ∧
    (∀ j < 2, headerValid ((((List.replicate 7 0xFF : Octets) ++ [0, 0]).drop j).take 8) = false) ∧
    (withRx 0 (Receiver.fresh .off) base).ports[(0 : Port)].rx.st = .off := by decide +kernel

/-- A receiver in CHECK with a count and octets of the candidate cell to pass. -/
def checking (count skip : Nat) : State :=
  withRx 0 { st := .check, level := 0, count := count, octets := [], skip := skip } alignedBase

theorem witness_SixValidHeadersEnterUp :
    (checking 1 56).ports[(0 : Port)].rx.st = .check ∧
    (List.replicate 56 0 : Octets).length ≤ (checking 1 56).ports[(0 : Port)].rx.skip ∧
    (checking 4 0).ports[(0 : Port)].rx.skip = 0 ∧ (checking 4 0).ports[(0 : Port)].rx.octets = [] ∧
    fillCell.length = 64 ∧ headerValid fillCell = true ∧ (checking 4 0).ports[(0 : Port)].rx.count < 5 ∧
    headerValid (List.replicate 64 0xFF) = false ∧ (checking 5 0).ports[(0 : Port)].rx.count = 5 := by decide +kernel

theorem base_opens (k : NoticeKind) (x : Byte) : opensRecord base k x := ⟨by cases k <;> rfl, by intro n h; cases h⟩

theorem witness_LossOfSignalByState :
    (withRx 0 (Receiver.fresh .off) base).ports[(0 : Port)].rx.st = .off ∧
    (checking 1 56).ports[(0 : Port)].rx.st = .check ∧
    (withRx 6 (rxUp 64) base).ports[(6 : Port)].rx.st = .up ∧
    (withRx 6 (rxUp 64) base).ports[(6 : Port)].rx.level ≤ (withRx 6 (rxUp 64) base).ports[(6 : Port)].profile.limit ∧
    (withRx 6 (rxUp 64) base).ports[(6 : Port)].profile.limit ≤ 255 ∧
    opensRecord (withRx 6 (rxUp 64) base) .laneDown 6 ∧ opensRecord (withRx 6 (rxUp 64) base) .ownerLost 0xFF :=
  ⟨by decide +kernel, by decide +kernel, by decide +kernel, by decide +kernel, by decide +kernel,
    base_opens .laneDown 6, base_opens .ownerLost 0xFF⟩

theorem witness_FormatConditionsByKind :
    fillCell.length = 64 ∧ formatValid 0 fillCell = true ∧ formatValid 6 fillCell = true ∧
    formatValid 0 (dataAt 4095) = true ∧ formatValid 6 (dataAt 0) = false ∧
    formatValid 0 (markAt 65535 65535) = true ∧ formatValid 6 (requestTo 255) = true ∧
    (dataAt 4095).length = 64 ∧ (markAt 65535 65535).length = 64 ∧ (requestTo 255).length = 64 := by decide +kernel

/-- Lane 0 expects tag 8, so `markAt` fails its source-tag test. -/
def tagged (level : Nat) : State :=
  withRx 0 (rxUp level) (modPort 0 (fun x => { x with profile := { x.profile with tag := some 8 } }) base)

theorem witness_FailedCellsAreCharged :
    (tagged 47).ports[(0 : Port)].rx.st = .up ∧ (tagged 47).ports[(0 : Port)].rx.octets = [] ∧
    (tagged 47).ports[(0 : Port)].profile.limit ≤ 255 ∧
    headerValid (List.replicate 64 0xFF) = false ∧ (List.replicate 64 (0xFF : Byte)).length = 64 ∧
    (tagged 47).ports[(0 : Port)].rx.level + 16 < (tagged 47).ports[(0 : Port)].profile.limit ∧
    (tagged 48).ports[(0 : Port)].profile.limit ≤ (tagged 48).ports[(0 : Port)].rx.level + 16 ∧
    (tagged 48).engine.owner.map Ownership.port ≠ some 0 ∧
    headerValid (buildCell 6 false 0 0 0 0 []) = true ∧ formatValid 0 (buildCell 6 false 0 0 0 0 []) = false ∧
    (buildCell 6 false 0 0 0 0 []).length = 64 ∧
    (tagged 59).ports[(0 : Port)].rx.level + 4 < (tagged 59).ports[(0 : Port)].profile.limit ∧
    (tagged 60).ports[(0 : Port)].profile.limit ≤ (tagged 60).ports[(0 : Port)].rx.level + 4 ∧
    headerValid (markAt 1 0) = true ∧ formatValid 0 (markAt 1 0) = true ∧ octet (markAt 1 0) 0 = 0x10 ∧
    (tagged 59).ports[(0 : Port)].profile.tag = some 8 ∧ (tagged 60).ports[(0 : Port)].profile.tag = some 8 ∧
    octet (markAt 1 0) 12 ≠ 8 := by decide +kernel
theorem witness_FailedCellsAreCharged_record :
    opensRecord (tagged 48) .laneDown 0 ∧ opensRecord (tagged 60) .laneDown 0 ∧
    opensRecord (tagged 60) .ownerLost 0xFF :=
  ⟨base_opens .laneDown 0, base_opens .laneDown 0, base_opens .ownerLost 0xFF⟩

/-- Eight requests wait. -/
def crowded : State :=
  withEngine (fun e => { e with requests := List.replicate 8 { port := 0, code := 1, tag := 0, args := [] } }) stalled

/-- Lane 0 is not permitted. -/
def barred : State := modPort 0 (fun x => { x with profile := { x.profile with mgmt := false } }) base

theorem witness_FillMarkAndRequestCellsAreHandled :
    base.ports[(0 : Port)].rx.st = .up ∧ base.ports[(0 : Port)].rx.octets = [] ∧ fillCell.length = 64 ∧
    headerValid fillCell = true ∧ formatValid 0 fillCell = true ∧ octet fillCell 0 = 0 ∧
    headerValid (markAt 1 0) = true ∧ formatValid 0 (markAt 1 0) = true ∧ octet (markAt 1 0) 0 = 0x10 ∧
    base.ports[(0 : Port)].profile.mode = .pass ∧ base.ports[(0 : Port)].profile.tag = none ∧
    headerValid (requestTo 255) = true ∧ formatValid 6 (requestTo 255) = true ∧ octet (requestTo 255) 0 = 0x30 ∧
    octet (requestTo 255) 6 = 255 ∧ barred.ports[(0 : Port)].rx.st = .up ∧
    barred.ports[(0 : Port)].profile.mgmt = false ∧
    base.ports[(6 : Port)].profile.mgmt = true ∧ octet (requestTo 6) 6 ≠ 255 ∧
    octet (requestTo 6) 6 ≠ base.engine.unitAddr ∧ octet (requestTo 5) 6 = base.engine.unitAddr ∧
    8 ≤ crowded.engine.requests.length ∧ stalled.engine.requests.length < 8 := by decide +kernel
theorem witness_FillMarkAndRequestCellsAreHandled_engine : engineFree base ∧ ¬engineFree stalled :=
  ⟨(base_takes_at_once 0).2.2.2, stalled_not_free⟩

/-- A state for each step of the classification of `dataAt`. -/
def fullGroup : State := modGroup 0 (fun q => { q with limit := 0 }) (withEntry entry base)
def emptyPool : State := { withEntry entry base with free := 0 }

theorem witness_PassLaneCellIsAdmittedOrDiscarded :
    passLaneData (withEntry entry base) 0 (dataAt 0) ∧ keysDistinct (withEntry entry base) ∧
    (withEntry entry base).flows[(3 : FlowIdx)] = some entry ∧ entry.lane = 0 ∧
    entry.inflow = (keptCell 0 (dataAt 0)).flow ∧ entry.draining = false ∧
    passesSequence entry (keptCell 0 (dataAt 2046)).seq ∧ withinBudget entry ∧
    (withEntry entry base).groups[entry.group].queue.length < (withEntry entry base).groups[entry.group].limit ∧
    0 < (withEntry entry base).free ∧
    (passLaneData base 0 (dataAt 0) ∧ ∀ i : FlowIdx, base.flows[i] = none) ∧
    (withEntry { entry with draining := true } base).flows[(3 : FlowIdx)] = some { entry with draining := true } ∧
    ¬passesSequence entry (keptCell 0 (dataAt 2047)).seq ∧ ¬withinBudget { entry with admitted := 2 } ∧
    (passLaneData fullGroup 0 (dataAt 0) ∧
      fullGroup.groups[entry.group].limit ≤ fullGroup.groups[entry.group].queue.length ∧
      opensRecord fullGroup .groupOverflow 0) ∧
    (passLaneData emptyPool 0 (dataAt 0) ∧ emptyPool.free = 0 ∧
      emptyPool.groups[entry.group].queue.length < emptyPool.groups[entry.group].limit ∧
      opensRecord emptyPool .poolExhausted 0) := by
  refine ⟨?_, keysDistinct_one _ _ rfl, ?_, rfl, ?_, rfl, ?_, ?_, ?_, ?_, ?_, ?_, ?_, ?_, ?_, ?_⟩
  · unfold passLaneData; decide +kernel
  · decide +kernel
  · decide +kernel
  · exact .inr (.inr ⟨4095, rfl, by decide +kernel⟩)
  · intro b h; cases h; decide
  · decide +kernel
  · decide +kernel
  · exact ⟨by unfold passLaneData; decide +kernel, by decide +kernel⟩
  · decide +kernel
  · rintro (h | h | ⟨x, h, hx⟩)
    · cases h
    · cases h
    · cases h; revert hx; decide +kernel
  · intro h; exact absurd (h 2 rfl) (by decide)
  · exact ⟨by unfold passLaneData; decide +kernel, by decide +kernel, base_opens .groupOverflow 0⟩
  · exact ⟨by unfold passLaneData; decide +kernel, by decide +kernel, by decide +kernel, base_opens .poolExhausted 0⟩

/-- Lane 0 aligned, a member in some way. -/
def member (m : Membership) : State := setWith [recordOf 1 .expected none] m alignedBase

/-- The same with a quota of 0 and with a pool that is empty. -/
def noQuota : State := modPort 0 (fun x => { x with profile := { x.profile with quota := 0 } }) (member (.isIn 1 false))
def dryPool : State := { member (.isIn 1 false) with free := 0 }

theorem witness_AlignedLaneCellByMembership :
    (alignedLaneCell (member .joining) 0 (dataAt 0) ∧ octet (dataAt 0) 0 = 0x20 ∧
      (member .joining).lanes[(0 : Lane)].member = .joining) ∧
    (alignedLaneCell (member (.isIn 1 true)) 0 (dataAt 0) ∧
      (member (.isIn 1 true)).lanes[(0 : Lane)].member = .isIn 1 true) ∧
    (alignedLaneCell noQuota 0 (dataAt 0) ∧ noQuota.lanes[(0 : Lane)].member = .isIn 1 false ∧
      noQuota.ports[Lane.port 0].profile.quota ≤ noQuota.lanes[(0 : Lane)].queue.length) ∧
    (alignedLaneCell dryPool 0 (dataAt 0) ∧ dryPool.lanes[(0 : Lane)].member = .isIn 1 false ∧ dryPool.free = 0 ∧
      dryPool.lanes[(0 : Lane)].queue.length < dryPool.ports[Lane.port 0].profile.quota) ∧
    (alignedLaneCell (member (.isIn 1 false)) 0 (dataAt 0) ∧ 0 < (member (.isIn 1 false)).free) := by
  unfold alignedLaneCell; decide +kernel

/-- Two records, lane 0 CLOSED in the older, and lane 0 JOINING. -/
def rejoining : State := setWith [recordOf 1 .closed (some 2), recordOf 2 .na (some 3)] .joining alignedBase

/-- The set has released epoch 4 last and holds no record; lane 1 is IN and late. -/
def nothingHeld : State :=
  modLane 1 (fun x => { x with member := .isIn 2 true })
    { setWith [] .joining alignedBase with
      aligner := { alignedBase.aligner with running := true, lastReleased := some 4 } }

theorem witness_MarkOnALaneOutsideTheSet :
    (alignedLaneCell (member .lagging) 0 (markAt 5 0) ∧ octet (markAt 5 0) 0 = 0x10 ∧
      (member .lagging).ports[Lane.port 0].profile.tag = none ∧
      (member .lagging).lanes[(0 : Lane)].member = .lagging ∧
      (member .waiting).lanes[(0 : Lane)].member = .waiting) ∧
    (alignedLaneCell (modLane 0 (fun x => { x with member := .joining }) alignedBase) 0 (markAt 5 0) ∧
      alignedBase.aligner.running = false ∧
      ∀ m : Lane, (modLane 0 (fun x => { x with member := .joining }) alignedBase).lanes[m].member.inSet = false) ∧
    (alignedLaneCell (member .joining) 0 (markAt 5 0) ∧ (member .joining).aligner.running = true ∧
      (member .joining).aligner.window = [recordOf 1 .expected none] ∧
      3 < (markedEpoch (markAt 5 0) - (recordOf 1 .expected none).epoch).toNat) ∧
    (alignedLaneCell nothingHeld 0 (markAt 5 0) ∧ nothingHeld.aligner.running = true ∧
      nothingHeld.aligner.window = [] ∧ nothingHeld.lanes[(0 : Lane)].member = .joining ∧
      nothingHeld.aligner.lastReleased = some (markedEpoch (markAt 5 0) - 1) ∧
      nothingHeld.aligner.lastReleased ≠ some (markedEpoch (markAt 6 0) - 1)) := by
  unfold alignedLaneCell; decide +kernel
theorem witness_MarkOnALaneOutsideTheSet_joinable :
    alignedLaneCell rejoining 0 (markAt 4 0) ∧ rejoining.aligner.running = true ∧ windowOrdered rejoining ∧
    rejoining.aligner.window = recordOf 1 .closed (some 2) :: [recordOf 2 .na (some 3)] ∧
    joinableAt rejoining 0 (recordOf 1 .closed (some 2)) (markedEpoch (markAt 2 0)) ∧
    joinableAt rejoining 0 (recordOf 1 .closed (some 2)) (markedEpoch (markAt 4 0)) ∧
    ¬joinableAt rejoining 0 (recordOf 1 .closed (some 2)) (markedEpoch (markAt 1 0)) := by
  refine ⟨by unfold alignedLaneCell; decide +kernel, rfl, ⟨by decide, by decide, trivial⟩, rfl,
    ⟨by decide +kernel, fun x h => (by cases h), by decide +kernel⟩,
    ⟨by decide +kernel, fun x h => (by cases h), by decide +kernel⟩, fun h => ?_⟩
  exact absurd (h.2.2 (recordOf 1 .closed (some 2)) (List.mem_cons_self ..) (by decide)) (by decide +kernel)

/-- A window of four records, the fourth the lane's own. -/
def fullWindow : State :=
  setWith [recordOf 1 .closed (some 3), recordOf 2 .closed none, recordOf 3 .closed none, recordOf 4 .expected none]
    (.isIn 4 false) alignedBase

theorem witness_SuccessorMarkClosesEpoch :
    (alignedLaneCell (member (.isIn 1 false)) 0 (markAt 2 1) ∧ octet (markAt 2 1) 0 = 0x10 ∧
      (member (.isIn 1 false)).ports[Lane.port 0].profile.tag = none ∧
      (member (.isIn 1 false)).lanes[(0 : Lane)].member = .isIn 1 false ∧ markedEpoch (markAt 2 1) = 1 + 1 ∧
      (∃ r ∈ (member (.isIn 1 false)).aligner.window, r.epoch = 1) ∧
      (∀ r ∈ (member (.isIn 1 false)).aligner.window, r.epoch = 1 → r.arrivals[(0 : Lane)] = 0) ∧
      (member (.isIn 1 false)).aligner.lastReleased = none ∧
      (member (.isIn 1 false)).aligner.window.length < 4) ∧
    (alignedLaneCell fullWindow 0 (markAt 5 0) ∧ fullWindow.lanes[(0 : Lane)].member = .isIn 4 false ∧
      markedEpoch (markAt 5 0) = 4 + 1 ∧ fullWindow.aligner.window.length = 4 ∧
      (∃ r ∈ fullWindow.aligner.window, r.epoch = 4) ∧
      (∀ r ∈ fullWindow.aligner.window, r.epoch = 4 → r.arrivals[(0 : Lane)] = 0) ∧
      fullWindow.aligner.lastReleased = none ∧ ∀ r ∈ fullWindow.aligner.window, r.epoch ≠ 4 + 1) := by
  unfold alignedLaneCell; decide +kernel
theorem witness_SuccessorMarkClosesEpoch_record :
    opensRecord (member (.isIn 1 false)) .epochCountMismatch 0 ∧ windowOrdered fullWindow ∧
    opensRecord fullWindow .epochCountMismatch 0 ∧ opensRecord fullWindow .windowForced 0xFF ∧
    (∀ m : Lane, opensRecord fullWindow .laneLate (BitVec.ofNat 8 m.val) ∧
      opensRecord fullWindow .laneEjected (BitVec.ofNat 8 m.val)) ∧
    (forcedOut (epochClosed 0 (markAt 5 0) 4 0 fullWindow)).aligner.window.length = 3 ∧
    ∀ m : Lane, (recordOf 1 .closed (some 3)).status[m] = .closed → ∀ q ∈ fullWindow.lanes[m].queue, q.epoch ≠ 1 :=
  ⟨base_opens _ _, ⟨by decide, by decide, by decide, by decide, trivial⟩, base_opens _ _, base_opens _ _,
    fun _ => ⟨base_opens _ _, base_opens _ _⟩, by decide +kernel, by decide +kernel⟩

/-- Lane 0 is late for epoch 2; epoch 3 is released last, and the window is as given. -/
def lateLane (released : Epoch) (w : List EpochRec) : State :=
  { setWith w (.isIn 2 true) alignedBase with
    aligner := { alignedBase.aligner with running := true, lastReleased := some released, window := w } }

theorem witness_SuccessorMarkClosesEpoch_late :
    alignedLaneCell (lateLane 3 []) 0 (markAt 3 0) ∧ octet (markAt 3 0) 0 = 0x10 ∧
    (lateLane 3 []).lanes[(0 : Lane)].member = .isIn 2 true ∧ markedEpoch (markAt 3 0) = 2 + 1 ∧
    (lateLane 3 []).aligner.lastReleased = some 3 ∧ epochAfter (2 + 1) 3 = false ∧ epochAfter (2 + 1) 2 = true ∧
    (∃ r ∈ (lateLane 2 [recordOf 3 .expected none]).aligner.window, r.epoch = 2 + 1) ∧
    (lateLane 2 []).aligner.window.length < 4 := by
  unfold alignedLaneCell; decide +kernel

theorem witness_OtherMarkIsASlip :
    (alignedLaneCell (member (.isIn 1 false)) 0 (markAt 5 0) ∧ markedEpoch (markAt 5 0) ≠ 1 + 1 ∧
      (member (.isIn 1 false)).aligner.running = true ∧
      (member (.isIn 1 false)).aligner.window = [recordOf 1 .expected none] ∧
      3 < (markedEpoch (markAt 5 0) - (recordOf 1 .expected none).epoch).toNat) ∧
    (alignedLaneCell (member (.isIn 1 false)) 0 (markAt 4 0) ∧ markedEpoch (markAt 4 0) ≠ 1 + 1 ∧
      (markedEpoch (markAt 4 0) - (recordOf 1 .expected none).epoch).toNat ≤ 3 ∧
      (member (.isIn 1 false)).aligner.lastReleased = none ∧
      ∀ x ∈ (member (.isIn 1 false)).aligner.window, x.status[(0 : Lane)] ≠ .closed) := by
  unfold alignedLaneCell; decide +kernel
theorem witness_OtherMarkIsASlip_record : opensRecord (member (.isIn 1 false)) .laneSlip 0 := base_opens .laneSlip 0

/-- Lane 0 is IN at epoch 3 and CLOSED in two older records. -/
def closedTwice : State :=
  setWith [recordOf 1 .closed (some 2), recordOf 2 .closed none, recordOf 3 .expected none] (.isIn 3 false) alignedBase

theorem witness_OtherMarkIsASlip_closed :
    (alignedLaneCell closedTwice 0 (markAt 3 0) ∧ markedEpoch (markAt 3 0) = 3 ∧ (3 : Epoch) ≠ 3 + 1 ∧
      closedTwice.lanes[(0 : Lane)].member = .isIn 3 false ∧ windowOrdered closedTwice) ∧
    ((slippedLane 0 (markAt 3 0) 3 closedTwice).aligner.window.head? = some (recordOf 1 .closed (some 2)) ∧
      joinableAt (slippedLane 0 (markAt 3 0) 3 closedTwice) 0 (recordOf 1 .closed (some 2)) 3 ∧
      ¬joinableAt (slippedLane 0 (markAt 2 0) 3 closedTwice) 0 (recordOf 1 .closed (some 2)) 2) := by
  have h : closedTwice.aligner.lastReleased = none := rfl
  refine ⟨⟨by unfold alignedLaneCell; decide +kernel, by decide, by decide, by decide +kernel,
    ⟨by decide, by decide, by decide, trivial⟩⟩, by decide +kernel, ⟨by decide, fun x y => ?_, by decide +kernel⟩, ?_⟩
  · cases (show (none : Option Epoch) = some x from y)
  · rintro ⟨-, -, c⟩
    exact absurd (c (recordOf 2 .closed none) (by decide +kernel) (by decide +kernel)) (by decide)

theorem witness_OtherMarkIsASlip_empty :
    (alignedLaneCell (lateLane 3 []) 0 (markAt 4 0) ∧ (lateLane 3 []).lanes[(0 : Lane)].member = .isIn 2 true ∧
      markedEpoch (markAt 4 0) ≠ 2 + 1 ∧ (lateLane 3 []).aligner.running = true ∧ (lateLane 3 []).aligner.window = [] ∧
      (lateLane 3 []).aligner.lastReleased = some (markedEpoch (markAt 4 0) - 1)) ∧
    ((lateLane 3 []).aligner.lastReleased ≠ some (markedEpoch (markAt 9 0) - 1) ∧
      ∀ m : Lane, m ≠ 0 → (lateLane 3 []).lanes[m].member.inSet = false) ∧
    (modLane 1 (fun x => { x with member := .isIn 2 true }) (lateLane 3 [])).lanes[(1 : Lane)].member.inSet = true := by
  unfold alignedLaneCell; decide +kernel

/-- A release point at the next boundary, with one record due there. -/
def releasing (x : LaneStatus) : State :=
  { setWith [recordOf 1 x (some 1)] (.isIn 1 false) alignedBase with timer := { slot := 63, cycle := 1, tick := 1 } }

theorem witness_ReleasePointReleasesDueEpoch :
    (releasing .expected).phase = .running ∧ (releasing .expected).timer.begun = none ∧
    (releasing .expected).engine.requests = [] ∧
    (releasing .expected).timer.slot + 1 = (releasing .expected).aligner.releaseSlot ∧
    (releasing .expected).aligner.window = [recordOf 1 .expected (some 1)] ∧
    (recordOf 1 .expected (some 1)).due = some 1 ∧
    (∀ l : Lane, (recordOf 1 .expected (some 1)).status[l] = .expected → l = 0) ∧
    (releasing .expected).lanes[(0 : Lane)].member = .isIn 1 false ∧
    (recordOf 1 .closed (some 1)).status[(0 : Lane)] = .closed ∧
    (recordOf 1 .na (some 1)).status[(0 : Lane)] = .na := by decide +kernel

/-- The next boundary begins slot 9, an IDLE slot that is not lent and the release slot, and finds this window. -/
def atRelease (w : List EpochRec) : State :=
  { setWith w (.isIn 4 false) alignedBase with
    timer := { slot := 8, cycle := 1, tick := 1 }
    aligner := { alignedBase.aligner with running := true, window := w, releaseSlot := 9 }
    sched := { base.sched with bankA := base.sched.bankA.set 9 ⟨.idle, false⟩ } }

theorem witness_ReleasePointReleasesDueEpoch_midCycle :
    (midCycle (atRelease []) ∧ (atRelease []).engine.requests = [] ∧
      (atRelease []).timer.slot + 1 = (atRelease []).aligner.releaseSlot ∧
      slotEntry (atRelease []) ((atRelease []).timer.slot + 1) = { kind := .idle, lend := false }) ∧
    (∀ r ∈ ([recordOf 1 .closed (some 3), recordOf 2 .expected none].map fun r =>
      { r with due := r.due.map fun d => d - 1 }), r.due ≠ some 0) ∧
    (([recordOf 1 .closed none, recordOf 2 .closed (some 1), recordOf 3 .expected none].map fun r : EpochRec =>
        { r with due := r.due.map fun d => d - 1 }) =
      [recordOf 1 .closed none] ++ recordOf 2 .closed (some 0) :: [recordOf 3 .expected none] ∧
      (recordOf 2 .closed (some 0)).due = some 0 ∧ ∀ r ∈ [recordOf 3 .expected none], r.due ≠ some 0) :=
  ⟨⟨⟨rfl, by decide, rfl⟩, rfl, by decide, by decide +kernel⟩, by decide, by decide +kernel, by decide, by decide⟩
theorem witness_ReleasePointReleasesDueEpoch_cells :
    keysDistinct (withEntry entry base) ∧ (withEntry entry base).flows[(3 : FlowIdx)] = some entry ∧
    entry.lane = (dataCell 0 (dataAt 0)).lane ∧ entry.inflow = (dataCell 0 (dataAt 0)).flow ∧
    entry.draining = false ∧ passesSequence entry (dataCell 0 (dataAt 2046)).seq ∧
    ¬passesSequence entry (dataCell 0 (dataAt 2047)).seq ∧ withinBudget entry ∧
    ¬withinBudget { entry with admitted := 2 } ∧
    (withEntry entry base).groups[entry.group].queue.length < (withEntry entry base).groups[entry.group].limit ∧
    fullGroup.groups[entry.group].limit ≤ fullGroup.groups[entry.group].queue.length ∧
    (keysDistinct base ∧ ∀ i : FlowIdx, base.flows[i] = none) ∧
    (withEntry { entry with draining := true } base).flows[(3 : FlowIdx)] = some { entry with draining := true } := by
  have n : ∀ i : FlowIdx, base.flows[i] = none := by decide +kernel
  refine ⟨keysDistinct_one _ _ rfl, by decide +kernel, by decide +kernel, by decide +kernel, rfl,
    .inr (.inr ⟨4095, rfl, by decide +kernel⟩), ?_, ?_, fun h => absurd (h 2 rfl) (by decide), by decide +kernel,
    by decide +kernel, ⟨fun i j _ => by rw [n i]; rfl, n⟩, by decide +kernel⟩
  · rintro (h | h | ⟨x, h, hx⟩)
    · cases h
    · cases h
    · cases h; revert hx; decide +kernel
  · intro b h; cases h; decide

/-- One cell of epoch 1 waits on lane 0, which is CLOSED, and one on lane 1, which is EXPECTED. -/
def twoLanes : State :=
  modLane 1 (fun x => { x with queue := [{ cell := dataCell 1 (dataAt 0), epoch := 1 }] })
    (modLane 0 (fun x => { x with queue := [{ cell := dataCell 0 (dataAt 0), epoch := 1 }] })
      { atRelease [{ recordOf 1 .closed (some 1) with status := #v[.closed, .expected, .na, .na, .na, .na] }] with
        free := 1022 })

/-- A release point hands lane 0's cell to the classifier with the epoch, and discards lane 1's (R71, R72). -/
theorem test_release_point_hands_on_cells :
    let t := releasePoint (withEntry entry twoLanes)
    t.groups[0].queue.map GroupRec.origin = [.aligned 1] ∧ t.free = 1023 ∧ t.aligner.lastReleased = some 1 ∧
    t.notices.waiting.map NoticeRec.subject = [1] := by decide +kernel

/-- The base part at the boundary that begins slot 63, with the entry there as given. -/
def atSlot (e : SlotEntry) (s : State) : State :=
  { s with
    timer := { slot := 62, cycle := 1, tick := 1 }
    sched := { s.sched with bankA := s.sched.bankA.set 63 e } }

theorem chosen {s : State} (h : s.phase = .running) (r : s.engine.requests = []) (w : s.aligner.window = [])
    (x : ¬tickFalls s) (n : s.sched.swapPending = false) : slotChosenIn s (slotBegun s) := by
  refine ⟨h, r, fun _ y m => ?_, fun t => absurd t x, ?_⟩
  · rw [w] at m; cases m
  · rw [if_neg fun c => by simp [n] at c]

/-- The base part at the boundary that begins slot 0, with the entry there as given. -/
def atStart (e : SlotEntry) (s : State) : State :=
  { s with
    timer := { slot := 63, cycle := 1, tick := 1 }
    sched := { s.sched with bankA := s.sched.bankA.set 0 e } }

/-- A swap waits for that boundary, and the staged bank has a MGMT slot 0. -/
def swapStart : State :=
  { swapping with
    timer := { slot := 63, cycle := 1, tick := 1 }
    sched := { swapping.sched with bankB := swapping.sched.bankB.set 0 ⟨.mgmt, false⟩ } }

theorem swapStart_chosen : slotChosenIn swapStart (swapMade swapOp (slotBegun swapStart)) := by
  refine ⟨rfl, rfl, fun _ y m => (by cases m), fun t => absurd t.2 (by decide), ?_⟩
  rw [if_pos ⟨⟨rfl, rfl⟩, rfl⟩]
  exact ⟨swapOp, only_one _ swapOp rfl, rfl⟩

theorem witness_SlotServesManagementOrFill :
    (slotChosenIn (atSlot ⟨.group 0, true⟩ base) (slotBegun (atSlot ⟨.group 0, true⟩ base)) ∧
      slotFindsNothing (slotBegun (atSlot ⟨.group 0, true⟩ base)) ⟨.group 0, true⟩ ∧
      slotEntry (slotBegun (atSlot ⟨.group 0, true⟩ base)) 63 = ⟨.group 0, true⟩) ∧
    (slotChosenIn (atStart ⟨.mgmt, false⟩ stalled) (slotBegun (atStart ⟨.mgmt, false⟩ stalled)) ∧
      slotReachesManagement stalled ⟨.mgmt, false⟩ ∧ (slotBegun (atStart ⟨.mgmt, false⟩ stalled)).timer.slot = 0 ∧
      slotEntry (slotBegun (atStart ⟨.mgmt, false⟩ stalled)) 0 = ⟨.mgmt, false⟩ ∧
      (slotBegun (atStart ⟨.mgmt, false⟩ stalled)).engine.replies = waitingReply :: List.replicate 15 waitingReply ∧
      (List.replicate 15 waitingReply).length < 16) ∧
    (slotChosenIn (atSlot ⟨.idle, true⟩ { base with notices := { base.notices with waiting := [waitingNotice] } })
        (slotBegun (atSlot ⟨.idle, true⟩ { base with notices := { base.notices with waiting := [waitingNotice] } })) ∧
      slotReachesManagement base ⟨.idle, true⟩ ∧ base.engine.replies = []) ∧
    (quietBoundary (atSlot ⟨.mgmt, false⟩ crowded) ∧
      (atSlot ⟨.mgmt, false⟩ crowded).engine.requests =
        ⟨0, 1, 0, []⟩ :: List.replicate 7 { port := 0, code := 1, tag := 0, args := [] }) := by
  refine ⟨⟨chosen rfl rfl rfl (fun h => absurd h.1 (by decide)) rfl, ⟨.inr ?_, fun _ => ⟨rfl, rfl⟩, ?_⟩,
      by decide +kernel⟩,
    ⟨chosen rfl rfl rfl (fun h => absurd h.2 (by decide)) rfl, .inl rfl, rfl, by decide +kernel, by decide +kernel,
      by decide⟩,
    ⟨chosen rfl rfl rfl (fun h => absurd h.1 (by decide)) rfl, .inr ⟨rfl, trivial⟩, rfl⟩,
    ⟨⟨⟨rfl, by decide, rfl⟩, .inr rfl⟩, rfl⟩⟩
  · show (base.groups[(0 : Group)]).queue = []; decide +kernel
  · have q : ∀ g : Group, base.groups[g].queue = [] := by decide +kernel
    intro _ g h; exact h.2 (q g)

/-- At a cycle start the slot is chosen after the swap, by the bank now active and with the swap's DONE waiting. -/
theorem witness_SlotServesManagementOrFill_swap :
    slotChosenIn swapStart (swapMade swapOp (slotBegun swapStart)) ∧
    slotReachesManagement (swapMade swapOp (slotBegun swapStart)) ⟨.mgmt, false⟩ ∧
    slotEntry (swapMade swapOp (slotBegun swapStart)) 0 = ⟨.mgmt, false⟩ ∧
    (swapMade swapOp (slotBegun swapStart)).engine.replies = [swapOp.completion .done [1]] :=
  ⟨swapStart_chosen, .inl rfl, by decide +kernel, by decide +kernel⟩

/-- Group 0 holds one cell of the entry and may borrow. -/
def loaded : State := withQueue 0 [queued] (withEntry { entry with inQueue := 1 } base)

/-- The entry drains, and its one cell waits in group 0. -/
def flushing : State := withQueue 0 [queued] (withEntry { entry with draining := true, inQueue := 1 } draining)

theorem witness_SlotTakesGroupHead :
    (slotChosenIn (atStart ⟨.group 0, false⟩ loaded) (slotBegun (atStart ⟨.group 0, false⟩ loaded)) ∧
      (slotBegun (atStart ⟨.group 0, false⟩ loaded)).groups[(0 : Group)].queue = [queued] ∧
      (slotBegun (atStart ⟨.group 0, false⟩ loaded)).flows[(3 : FlowIdx)] =
        some { entry with inQueue := 1, admitted := 0 } ∧ entry.draining = false ∧
      (slotEntry (slotBegun (atStart ⟨.group 0, false⟩ loaded)) 0).kind = .group 0) ∧
    (slotChosenIn (atSlot ⟨.idle, true⟩ loaded) (slotBegun (atSlot ⟨.idle, true⟩ loaded)) ∧
      slotIsLent (slotBegun (atSlot ⟨.idle, true⟩ loaded)) ⟨.idle, true⟩ ∧
      isBorrower (slotBegun (atSlot ⟨.idle, true⟩ loaded)) 0) ∧
    (slotChosenIn (atSlot ⟨.group 0, false⟩ flushing) (slotBegun (atSlot ⟨.group 0, false⟩ flushing)) ∧
      flushing.groups[(0 : Group)].queue = [queued] ∧
      flushing.flows[(3 : FlowIdx)] = some { entry with draining := true, inQueue := 1 } ∧
      (slotEntry (slotBegun (atSlot ⟨.group 0, false⟩ flushing)) 63).kind = .group 0 ∧
      onlyOperation (slotBegun (atSlot ⟨.group 0, false⟩ flushing)) (.flow 3) drainOp) := by
  refine ⟨⟨chosen rfl rfl rfl (fun h => absurd h.2 (by decide)) rfl, by decide +kernel, by decide +kernel, rfl,
      by decide +kernel⟩,
    ⟨chosen rfl rfl rfl (fun h => absurd h.1 (by decide)) rfl, ⟨rfl, .inr ⟨rfl, trivial⟩, rfl, rfl⟩,
      ⟨by decide +kernel, by decide +kernel⟩, ?_⟩,
    chosen rfl rfl rfl (fun h => absurd h.1 (by decide)) rfl, by decide +kernel, by decide +kernel, by decide +kernel,
    only_one _ drainOp rfl⟩
  intro h hh
  exact absurd hh (by revert h; decide +kernel)

theorem witness_EgressCellLayouts :
    (List.replicate 52 (0 : Byte)).length ≤ 52 ∧ (List.replicate 6 (0 : Byte)).length ≤ 6 ∧
    queued.cell.payload.length ≤ 48 ∧ queued.cell.ext = none ∧ (entry.stamp = .add) := by decide +kernel

/-- The timer before the boundary of a tick, where no pulse has moved it and where one has. -/
def tickNext : State := { base with timer := { slot := 63, cycle := 4095, tick := 4095 }, snapshot := some (snapOf 2) }
def tickBegun : State := { base with timer := { slot := 0, cycle := 4096, tick := 0, begun := some true } }

theorem witness_BoundaryMovesTheTimer :
    base.phase = .running ∧ base.engine.requests = [] ∧ ¬tickFalls base ∧ ¬scheduleStarts base ∧
    (tickNext.phase = .running ∧ tickNext.timer.slot = 63 ∧ scheduleStarts tickNext ∧ tickFalls tickNext ∧
      tickNext.snapshot.isSome) ∧
    (tickBegun.timer.begun ≠ none ∧ ¬scheduleStarts tickBegun ∧ tickFalls tickBegun) ∧
    (releaseFalls tickNext ∧ ¬releaseFalls base ∧ releaseFalls tickBegun ∧
      ¬releaseFalls { tickBegun with timer := { tickBegun.timer with begun := some false } }) ∧
    releasesNone (setWith [recordOf 1 .closed (some 2)] (.isIn 2 false) tickNext) ∧
    (cycleStarts tickNext ∧ cycleStarts tickBegun ∧ ¬cycleStarts base) ∧
    (withEntry entry tickNext).flows[(3 : FlowIdx)] = some entry ∧ base.flows[(3 : FlowIdx)] = none ∧
    ({ tickNext with sched := { base.sched with swapPending := true } } : State).sched.swapPending = true ∧
    ({ State.reset with phase := .initialising 65534 } : State).phase = .initialising 65534 ∧ 65534 + 1 < 65536 ∧
    ending.phase = .initialising 65535 ∧ 65536 ≤ 65535 + 1 ∧ State.reset.phase = .heldInReset := by
  have n : releasesNone (setWith [recordOf 1 .closed (some 2)] (.isIn 2 false) tickNext) := by
    unfold releasesNone; decide
  exact ⟨rfl, rfl, by decide, by decide, by decide, by decide, by decide, n, by decide, by decide +kernel,
    by decide +kernel, by decide⟩

theorem witness_TicksCountDownLeaseAndLifetime :
    State.reset.engine.owner = none ∧
    base.engine.owner = some { port := 6, lease := 64, remaining := 0 + 2 } ∧
    (withEngine (fun e => { e with owner := some { port := 6, lease := 1, remaining := 1 } }) base).engine.owner =
      some { port := 6, lease := 1, remaining := 1 } ∧
    base.snapshot = none ∧ (snapOf 2).remaining = 1 ∧
    ({ snapOf 2 with remaining := 2 } : Snapshot).remaining = 0 + 2 := by
  decide

theorem witness_BlocksReportTheEndOfOperations :
    base.sched.swapPending = false ∧ swapping.sched.swapPending = true ∧ swapping.sched.active = .a ∧
    onlyOperation swapping (.bank .b) swapOp ∧
    (withEngine (fun e => { e with inFlight := [{ swapOp with target := .bank .a }] })
      { swapping with sched := { swapping.sched with active := .b } }).sched.active = .b ∧
    onlyOperation (withEngine (fun e => { e with inFlight := [{ swapOp with target := .bank .a }] })
      { swapping with sched := { swapping.sched with active := .b } }) (.bank .a) { swapOp with target := .bank .a } ∧
    draining.flows[(3 : FlowIdx)] = some { entry with draining := true } ∧ entry.inQueue = 0 ∧
    onlyOperation draining (.flow 3) drainOp ∧ base.flows[(3 : FlowIdx)] = none ∧ base.engine.held = [] ∧
    (withEngine (fun e => { e with held := [heldOp] }) base).engine.held = [heldOp] ∧
    base.engine.replies.length < 16 :=
  ⟨rfl, rfl, rfl, only_one _ swapOp rfl, rfl, only_one _ { swapOp with target := .bank .a } rfl, by decide +kernel, rfl,
    only_one _ drainOp rfl, by decide +kernel, rfl, rfl, by decide⟩

/-- The base part with the timer before a slot and a follow mode with window 3. -/
def following (m : FollowMode) (slot : Slot) : State :=
  { base with timer := { slot := slot, cycle := 7, tick := 7 },
              follower := { mode := m, window := 3, armed := false, lastPhase := none } }

/-- The same with a swap pending. -/
def followingSwap (m : FollowMode) (slot : Slot) : State :=
  { swapping with timer := { slot := slot, cycle := 7, tick := 7 },
                  follower := { mode := m, window := 3, armed := false, lastPhase := none } }

/-- An arm and a swap that wait, before a slot. -/
def armedSwap (slot : Slot) : State :=
  { armed with timer := { slot := slot, cycle := 7, tick := 7 }, sched := { armed.sched with swapPending := true } }

theorem witness_PulseActsByFollowMode :
    (¬pulseTaken State.reset ∧
      ¬pulseTaken { base with timer := { slot := 0, cycle := 1, tick := 1, begun := some true } }) ∧
    (pulseTaken (following .free 9) ∧ pulseLeaves (following .free 9) (pulseCounted False (following .free 9)) ∧
      ¬swapWaits (pulseCounted False (following .free 9))) ∧
    pulseLeaves (following .once 9) (pulseCounted False (following .once 9)) ∧
    (pulseLeaves (following .watch 2) (pulseCounted False (following .watch 2)) ∧
      pulseLeaves (following .always 60) (pulseCounted False (following .always 60))) ∧
    ((following .watch 3).follower.window < (nextPhase (following .watch 3)).natAbs) ∧
    (pulseLeaves (followingSwap .always 59) (pulseRealigns (followingSwap .always 59)) ∧
      swapWaits (pulseRealigns (followingSwap .always 59))) ∧
    ¬armWaiting base ∧ (armWaiting armed ∧ onlyOperation armed .follower armOp ∧ nextPhase armed ≠ 0) ∧
    (armWaiting (armedSwap 63) ∧ onlyOperation (armedSwap 63) .follower armOp ∧ nextPhase (armedSwap 63) = 0) ∧
    (pulseTaken (followingSwap .free 9) ∧ ¬scheduleStarts (followingSwap .free 9)) ∧
    (scheduleStarts (following .free 63) ∧ (following .free 63).sched.swapPending = false) ∧
    (tickBegun.phase = .running ∧ tickBegun.timer.begun ≠ none ∧ tickBegun.engine.requests = []) := by
  refine ⟨⟨fun h => absurd h.1 (by decide), fun h => absurd h.2 (by decide)⟩,
    ⟨⟨rfl, rfl⟩, .inl ⟨.inl rfl, rfl⟩, fun h => absurd h.1 (by decide)⟩, .inl ⟨.inr (.inl ⟨rfl, rfl⟩), rfl⟩,
    ⟨.inl ⟨.inr (.inr ⟨.inl rfl, by decide⟩), rfl⟩, .inl ⟨.inr (.inr ⟨.inr rfl, by decide⟩), rfl⟩⟩, by decide,
    ⟨.inr (.inr ⟨rfl, by decide, rfl⟩), by decide +kernel, by decide +kernel⟩, fun h => absurd h.2.1 (by decide),
    ⟨⟨⟨rfl, rfl⟩, rfl, rfl⟩, only_one _ armOp rfl, by decide⟩,
    ⟨⟨⟨rfl, rfl⟩, rfl, rfl⟩, only_one _ armOp rfl, by decide⟩,
    ⟨⟨rfl, rfl⟩, fun h => absurd h.2 (by decide)⟩, ⟨⟨rfl, rfl⟩, rfl⟩, ⟨rfl, by decide, rfl⟩⟩

theorem witness_RaiseOpensAddsOrIsSuppressed :
    opensRecord base .laneUp 0 ∧
    (base.notices.enabled[NoticeKind.laneUp.place] = true ∧
      [waitingNotice] = [] ++ waitingNotice :: [] ∧ waitingNotice.kind = .laneUp ∧ waitingNotice.subject = 0 ∧
      ∀ x ∈ ([] : List NoticeRec) ++ [], ¬(x.kind = .laneUp ∧ x.subject = 0)) ∧
    (Vector.replicate 14 false)[NoticeKind.laneUp.place] = false :=
  ⟨base_opens .laneUp 0, ⟨rfl, rfl, rfl, rfl, by simp⟩, by decide⟩

theorem witness_CommandsAreTakenOrWait :
    requestOfCommand (.identify 6 1 []) = some ⟨6, 1, 1, []⟩ ∧ takesAtOnce base 6 ∧
    (stalled.phase = .running ∧ stalled.ports[(6 : Port)].rx.st = .up ∧ stalled.ports[(6 : Port)].profile.mgmt = true ∧
      ¬engineFree stalled ∧ stalled.engine.requests.length < 8) ∧
    (crowded.phase = .running ∧ crowded.ports[(6 : Port)].rx.st = .up ∧
      crowded.ports[(6 : Port)].profile.mgmt = true ∧ ¬engineFree crowded ∧ 8 ≤ crowded.engine.requests.length) ∧
    (barred.phase = .running ∧ barred.ports[(0 : Port)].rx.st = .up ∧ barred.ports[(0 : Port)].profile.mgmt = false) ∧
    State.reset.phase ≠ .running ∧ (checking 1 0).ports[(0 : Port)].rx.st ≠ .up :=
  ⟨rfl, base_takes_at_once _, ⟨rfl, by decide +kernel, by decide +kernel, stalled_not_free, by decide⟩,
    ⟨rfl, by decide +kernel, by decide +kernel, fun h => absurd h.2.1 (by decide), by decide⟩,
    ⟨rfl, by decide +kernel, by decide +kernel⟩, by decide, by decide +kernel⟩

/-- Two requests wait, the first as given, and the engine can take it. -/
def twoWait (r : Request) : State :=
  withEngine (fun e => { e with requests := [r, { port := 0, code := 1, tag := 0, args := [] }] }) base

theorem witness_TakeNeedsAPlaceAndNoHeldCompletion :
    base.engine.requests = [] ∧ 16 ≤ stalled.engine.replies.length ∧
    (withEngine (fun e => { e with held := [heldOp] }) base).engine.held ≠ [] ∧
    (twoWait { port := 6, code := 0x62, tag := 0, args := [] }).engine.requests =
      { port := 6, code := 0x62, tag := 0, args := [] } :: [{ port := 0, code := 1, tag := 0, args := [] }] ∧
    (twoWait { port := 6, code := 0x62, tag := 0, args := [] }).engine.replies.length < 16 ∧
    (twoWait { port := 6, code := 0x62, tag := 0, args := [] }).engine.held = [] ∧
    (∀ x ∈ [0x01, 0x02, 0x03, 0x04, 0x05, 0x10, 0x11, 0x12, 0x18, 0x19, 0x1A, 0x20, 0x21, 0x22, 0x23, 0x24, 0x30, 0x31,
            0x32, 0x33, 0x34, 0x35, 0x36, 0x40, 0x41, 0x42, 0x50, 0x51, 0x52, 0x53, 0x60, 0x61], (0x62 : Byte) ≠ x) ∧
    (twoWait { port := 6, code := 0x05, tag := 0, args := [] }).engine.owner.map Ownership.port = some 6 := by decide

theorem witness_WrongLengthIsBadArgument :
    takesAtOnce base 6 ∧ ¬([0, 0, 0, 0, 0] : Octets).length = 0 ∧ ¬([] : Octets).length = 1 ∧
    ¬(2 ≤ ([0] : Octets).length ∧ ([0] : Octets).length = 2 + 2 * (octet [0] 1).toNat) ∧
    requestOfCommand (.schedWrite 0 1 [0]) = some ⟨0, 0x30, 1, [0]⟩ :=
  ⟨base_takes_at_once _, by decide, by decide, by decide, rfl⟩

theorem witness_OwnerCommandsAreRefusedToOthers :
    takesAtOnce base 0 ∧ ¬ownedBy base 0 ∧ ([] : Octets).length = 0 ∧ octet [2, 0] 0 ≠ 0 ∧
    requestOfCommand (.release 0 1 []) = some ⟨0, 3, 1, []⟩ :=
  ⟨base_takes_at_once _, base_not_owned, rfl, by decide, rfl⟩

theorem witness_UnitTimerAndNoticesAreReported : takesAtOnce base 6 := base_takes_at_once _

/-- A request waits alone. -/
def waiting (r : Request) (s : State) : State := requesting [r] s

theorem witness_ClaimAndSetUnit :
    (waitsAlone (waiting ⟨0, 0x02, 1, [0]⟩ barred) ⟨0, 0x02, 1, [0]⟩ ∧
      (waiting ⟨0, 0x02, 1, [0]⟩ barred).ports[(0 : Port)].profile.mgmt = false) ∧
    (waitsAlone (waiting ⟨0, 0x02, 1, [0]⟩ (checking 1 0)) ⟨0, 0x02, 1, [0]⟩ ∧
      (waiting ⟨0, 0x02, 1, [0]⟩ (checking 1 0)).ports[(0 : Port)].rx.st ≠ .up) ∧
    takesAtOnce base 6 ∧ ownedBy base 6 ∧
    (takesAtOnce (withEngine (fun e => { e with owner := none }) base) 6 ∧
      (withEngine (fun e => { e with owner := none }) base).engine.owner = none) ∧
    (takesAtOnce base 0 ∧ base.engine.owner = some { port := 6, lease := 64, remaining := 2 } ∧ (6 : Port) ≠ 0) ∧
    (254 : Byte) ≠ 255 :=
  ⟨⟨⟨rfl, by decide, rfl⟩, by decide +kernel⟩, ⟨⟨rfl, by decide, rfl⟩, by decide +kernel⟩, base_takes_at_once _, rfl,
    ⟨takes _ _ rfl (.inl rfl) ⟨rfl, by decide, rfl⟩, rfl⟩, ⟨base_takes_at_once _, rfl, by decide⟩, by decide⟩

theorem witness_ReleaseEndsOwnership : takesAtOnce base 6 ∧ ownedBy base 6 ∧ takesAtOnce base 0 ∧ ¬ownedBy base 0 :=
  ⟨base_takes_at_once _, base_owned, base_takes_at_once _, base_not_owned⟩

theorem witness_UnitResetKeepsConfiguration : takesAtOnce base 6 ∧ ownedBy base 6 := ⟨base_takes_at_once _, base_owned⟩

theorem witness_LaneGetReportsThePort : takesAtOnce base 6 ∧ 6 < (7 : Byte).toNat := ⟨base_takes_at_once _, by decide⟩

/-- Lane 0 holds two cells. -/
def holding : State :=
  modLane 0 (fun x => { x with queue := List.replicate 2 { cell := dataCell 0 (dataAt 0), epoch := 1 } }) alignedBase

/-- A record for LANE_SET: aligned, with quota 1. -/
def record1 : Profile :=
  { enabled := true, mode := .aligned, mgmt := true, quota := 1, high := 1, low := 0, limit := 16, tag := some 255 }

theorem witness_LaneSetChecksAndReplacesTheRecord :
    (takesAtOnce holding 6 ∧ ownedBy holding 6 ∧ record1.related ∧ 16 ≤ record1.limit ∧ record1.limit ≤ 255 ∧
      record1.enabled = holding.ports[Lane.port 0].profile.enabled ∧
      record1.mode = holding.ports[Lane.port 0].profile.mode ∧
      record1.quota < holding.lanes[(0 : Lane)].queue.length) ∧
    (({ record1 with quota := 2 } : Profile).related ∧
      holding.lanes[(0 : Lane)].queue.length ≤ ({ record1 with quota := 2 } : Profile).quota) ∧
    (takesAtOnce base 6 ∧ record1.mode ≠ base.ports[Lane.port 0].profile.mode ∧ base.ports[Lane.port 0].rx.st = .up ∧
      opensRecord base .laneDown 0 ∧ opensRecord base .ownerLost 0xFF ∧ (checking 1 0).ports[Lane.port 0].rx.st ≠ .up) ∧
    (ownedBy (withEngine (fun e => { e with owner := some { port := 0, lease := 1, remaining := 1 } }) base) 0 ∧
      takesAtOnce (withEngine (fun e => { e with owner := some { port := 0, lease := 1, remaining := 1 } }) base) 0 ∧
      ({ record1 with mgmt := false } : Profile).related) ∧
    (((7 :: List.replicate 12 0 : Octets).length = 13 ∧ 6 < (octet (7 :: List.replicate 12 0) 0).toNat) ∧
      1 < (octet [0, 2] 1).toNat ∧ (octet (List.replicate 10 0 ++ [15]) 10).toNat < 16 ∧
      ¬({ record1 with quota := 1025, high := 1 } : Profile).related) ∧
    ((List.replicate 8 (9 : Byte)).length = 8 ∧ ([9, 9] : Octets).length = 2 ∧ 16 ≤ (16 : Byte).toNat ∧
      base.ports[tIn].profile.mgmt = true) := by
  refine ⟨⟨takes _ _ rfl (.inr rfl) ⟨rfl, by decide, rfl⟩, rfl, ?_, by decide, by decide, by decide +kernel,
      by decide +kernel, by decide +kernel⟩,
    ⟨?_, by decide +kernel⟩,
    ⟨base_takes_at_once _, by decide +kernel, by decide +kernel, base_opens _ _, base_opens _ _, by decide +kernel⟩,
    ⟨rfl, takes _ _ rfl (.inl rfl) ⟨rfl, by decide, rfl⟩, ?_⟩, ⟨by decide, by decide, by decide, ?_⟩,
      by decide, rfl, by decide, by decide +kernel⟩
  all_goals unfold Profile.related; decide
/-- Port 0 owns the unit, and T-in is in CHECK. -/
def laneOwned : State :=
  withRx 6 { st := .check, level := 0, count := 1, octets := [], skip := 0 }
    (withEngine (fun e => { e with owner := some { port := 0, lease := 1, remaining := 1 } }) base)

theorem witness_LaneSetChecksAndReplacesTheRecord_tIn :
    (takesAtOnce laneOwned 0 ∧ ownedBy laneOwned 0 ∧ laneOwned.ports[tIn].profile.mgmt = true ∧
      laneOwned.ports[tIn].profile.enabled ≠ false ∧ laneOwned.ports[tIn].rx.st ≠ .up) ∧
    (takesAtOnce base 6 ∧ ownedBy base 6 ∧ base.ports[tIn].profile.enabled ≠ false ∧ base.ports[tIn].rx.st = .up ∧
      opensRecord base .laneDown 6 ∧ opensRecord base .ownerLost 0xFF) :=
  ⟨⟨⟨rfl, by decide +kernel, by decide +kernel, rfl, by decide, rfl⟩, rfl, by decide +kernel, by decide +kernel,
      by decide +kernel⟩,
    base_takes_at_once _, rfl, by decide +kernel, by decide +kernel, base_opens _ _, base_opens _ _⟩

theorem witness_LaneRestartBeginsAnew :
    takesAtOnce base 6 ∧ ownedBy base 6 ∧ 6 < (7 : Byte).toNat ∧
    (withRx 0 (Receiver.fresh .off) base).ports[(0 : Port)].rx.st = .off ∧
    (checking 1 0).ports[(0 : Port)].rx.st = .check ∧ base.ports[(6 : Port)].rx.st = .up ∧
    opensRecord base .laneDown 6 ∧ opensRecord base .ownerLost 0xFF :=
  ⟨base_takes_at_once _, rfl, by decide, by decide +kernel, by decide +kernel, by decide +kernel,
    base_opens _ _, base_opens _ _⟩

theorem witness_AlignGetSetAndRejoin :
    (takesAtOnce (member .lagging) 6 ∧ ownedBy (member .lagging) 6) ∧ 4 < (5 : Byte).toNat ∧ (4 : Byte).toNat = 3 + 1 ∧
    (member .lagging).aligner.window.length ≤ 1 ∧
    (member .lagging).aligner.window[0]? = some (recordOf 1 .expected none) ∧ 7 < (8 : Byte).toNat ∧
    63 < (64 : Byte).toNat ∧ (0 : Byte).toNat < 1 ∧ (7 : Byte).toNat ≤ 7 ∧ (63 : Byte).toNat = (63 : Slot).val ∧
    5 < (6 : Byte).toNat ∧ (member .lagging).lanes[(1 : Lane)].member ≠ .lagging ∧
    (member .lagging).lanes[(0 : Lane)].member = .lagging :=
  ⟨⟨takes _ _ rfl (.inr rfl) ⟨rfl, by decide, rfl⟩, rfl⟩, by decide, by decide, by decide, by decide +kernel,
    by decide, by decide, by decide,
    by decide, by decide, by decide, by decide +kernel, by decide +kernel⟩

/-- The state with the one entry takes at once and its keys are distinct. -/
theorem one_ready (e : FlowEntry) :
    takesAtOnce (withEntry e base) 6 ∧ ownedBy (withEntry e base) 6 ∧ keysDistinct (withEntry e base) :=
  ⟨takes _ _ rfl (.inl rfl) ⟨rfl, by show 0 < 16; decide, rfl⟩, rfl, keysDistinct_one _ _ rfl⟩

/-- Every place holds the entry. -/
def fullTable : State :=
  { base with flows := Vector.ofFn fun i => some { entry with lane := 1, inflow := BitVec.ofNat 10 i.val } }

theorem fullTable_keysDistinct : keysDistinct fullTable := by
  intro i j hij
  have hv : i.val ≠ j.val := fun x => hij (Fin.ext x)
  have h : ¬BitVec.ofNat 10 i.val = BitVec.ofNat 10 j.val := by
    intro e
    have := congrArg BitVec.toNat e
    simp only [BitVec.toNat_ofNat] at this
    omega
  simp [fullTable, sameKey, h]

theorem witness_FlowAddTakesTheLowestFreePlace :
    (takesAtOnce (withEntry entry base) 6 ∧ ownedBy (withEntry entry base) 6 ∧ keysDistinct (withEntry entry base) ∧
      budgetLegal { entry with budget := some 4095 } ∧ (withEntry entry base).flows[(3 : FlowIdx)] = some entry) ∧
    (takesAtOnce base 6 ∧ keysDistinct base ∧ (∀ i : FlowIdx, ¬holdsKeyOf base i entry) ∧
      base.flows[(0 : FlowIdx)] = none ∧ ∀ j : FlowIdx, j < 0 → base.flows[j] ≠ none) ∧
    (takesAtOnce fullTable 6 ∧ keysDistinct fullTable ∧ (∀ i : FlowIdx, ¬holdsKeyOf fullTable i entry) ∧
      ∀ i : FlowIdx, fullTable.flows[i] ≠ none) := by
  have n : ∀ i : FlowIdx, base.flows[i] = none := by decide +kernel
  refine ⟨⟨(one_ready entry).1, (one_ready entry).2.1, (one_ready entry).2.2, ?_, by decide +kernel⟩,
    ⟨base_takes_at_once _, ?_, ?_, n 0, fun j h => absurd h (Fin.not_lt_zero j)⟩,
    takes _ _ rfl (.inl rfl) ⟨rfl, by decide, rfl⟩, fullTable_keysDistinct, ?_, ?_⟩
  · intro b h; cases h; decide
  · intro i j _; rw [n i]; rfl
  · rintro i ⟨x, h, -⟩; rw [n i] at h; cases h
  · rintro i ⟨x, h, hl, -⟩
    simp [fullTable] at h
    subst h
    exact absurd hl (by show ¬((1 : Lane) = 0); decide)
  · intro i; simp [fullTable]
theorem witness_FlowAdd_outsideFlowValues :
    (∀ a ∈ ([[6, 0, 0, 0, 0, 0, 0, 0, 0, 0, 0], [0, 4, 0, 0, 0, 0, 0, 0, 0, 0, 0], [0, 0, 0, 16, 0, 0, 0, 0, 0, 0, 0],
            [0, 0, 0, 0, 4, 0, 0, 0, 0, 0, 0], [0, 0, 0, 0, 0, 0, 2, 0, 0, 0, 0], [0, 0, 0, 0, 0, 0, 0, 2, 0, 0, 0],
            [0, 0, 0, 0, 0, 0, 0, 0, 3, 0, 0], [0, 0, 0, 0, 0, 0, 0, 0, 0, 16, 0]] : List Octets),
      outsideFlowValues a) ∧
    ¬outsideFlowValues (flowArguments { entry with budget := some 4095 }) := by
  unfold outsideFlowValues
  exact ⟨by decide, by decide⟩

/-- Four operations run. -/
def busy (s : State) : State :=
  withEngine (fun e => { e with inFlight := [0, 1, 2, 3].map fun n => { drainOp with tag := 9, port := n } }) s

theorem witness_FlowModifyAndRemove :
    (takesAtOnce (withEntry entry base) 6 ∧ ownedBy (withEntry entry base) 6 ∧ keysDistinct (withEntry entry base) ∧
      budgetLegal entry ∧ (withEntry entry base).flows[(3 : FlowIdx)] = some entry ∧ entry.draining = false ∧
      entry.inQueue = 0) ∧
    (∀ i : FlowIdx, ¬holdsKeyOf base i entry) ∧
    (withEntry { entry with draining := true } base).flows[(3 : FlowIdx)] = some { entry with draining := true } ∧
    1 ≤ ({ entry with inQueue := 1 } : FlowEntry).inQueue ∧ tagRuns draining 0 3 ∧
    (¬tagRuns (busy base) 6 9 ∧ 4 ≤ (tableEntries (busy base)).length) ∧
    (¬tagRuns base 6 9 ∧ (tableEntries base).length < 4) := by
  have n : ∀ i : FlowIdx, base.flows[i] = none := by decide +kernel
  refine ⟨⟨(one_ready entry).1, (one_ready entry).2.1, (one_ready entry).2.2, ?_, by decide +kernel, rfl, rfl⟩, ?_,
    by decide +kernel, by decide, ⟨drainOp, by decide, rfl, rfl⟩, ⟨?_, by decide⟩, ?_, by decide⟩
  · intro b h; cases h; decide
  · rintro i ⟨x, h, -⟩; rw [n i] at h; cases h
  · unfold tagRuns; decide
  · unfold tagRuns; decide
theorem witness_FlowRemove_impossibleKey :
    ([5, 4, 0] : Octets).length = 3 ∧ 5 < (octet [6, 0, 0] 0).toNat ∧ 3 < (octet [5, 4, 0] 1).toNat := by decide

theorem witness_FlowGetAndFlowListReport :
    (takesAtOnce (withEntry entry base) 6 ∧ keysDistinct (withEntry entry base) ∧
      (withEntry entry base).flows[(3 : FlowIdx)] = some entry) ∧
    ¬((([1] : Octets).length = 4 ∧ octet [1] 0 = 0) ∨ (([1] : Octets).length = 2 ∧ octet [1] 0 = 1)) ∧
    (octet [0, 6, 0, 0] 0 = 0 ∧ 5 < (octet [0, 6, 0, 0] 1).toNat) ∧ 3 < (octet [0, 5, 4, 0] 2).toNat ∧
    base.flows[(255 : FlowIdx)] = none ∧ (∀ i : FlowIdx, ¬holdsKeyOf base i entry) ∧
    ([((3 : FlowIdx), entry)].Pairwise fun x y => x.1 < y.1) ∧
    (∀ i e, (i, e) ∈ [((3 : FlowIdx), entry)] ↔
      (3 : Byte).toNat ≤ i.val ∧ (withEntry entry base).flows[i] = some e) := by
  have n : ∀ i : FlowIdx, base.flows[i] = none := by decide +kernel
  refine ⟨⟨(one_ready entry).1, (one_ready entry).2.2, by decide +kernel⟩, by decide, by decide, by decide, n 255,
    ?_, by simp, ?_⟩
  · rintro i ⟨x, h, -⟩; rw [n i] at h; cases h
  · intro i e
    have hb : base.flows = Vector.replicate 256 none := rfl
    by_cases hi : 3 = i.val
    · have : i = 3 := Fin.ext hi.symm
      subst this
      simp [withEntry, eq_comm]
    · simp only [withEntry, hb, Fin.getElem_fin, Vector.getElem_set, hi, Vector.getElem_replicate, if_false]
      simp
      intro h
      exact absurd (by simpa using congrArg Fin.val h.symm) hi

theorem witness_SchedWriteAndRead :
    takesAtOnce base 6 ∧ ownedBy base 6 ∧ (List.replicate 25 (⟨.mgmt, true⟩ : SlotEntry)).length ≤ 25 ∧
    16 < (List.replicate 17 (⟨.mgmt, true⟩ : SlotEntry)).length ∧ 64 < (63 : Byte).toNat + 2 ∧
    (63 : Byte).toNat + 1 ≤ 64 ∧ (48 : Byte).toNat + 16 ≤ 64 ∧ base.sched.swapPending = false ∧
    (takesAtOnce swapping 6 ∧ ownedBy swapping 6 ∧ swapping.sched.swapPending = true) ∧ 1 < (2 : Byte).toNat ∧
    (∀ b : Vector SlotEntry 64, ∀ n : Slot,
      (writeRun 63 [⟨.mgmt, true⟩] b)[n] =
        if (63 : Byte).toNat ≤ n.val then
          (([⟨.mgmt, true⟩] : List SlotEntry)[n.val - (63 : Byte).toNat]?).getD b[n]
        else b[n]) := by
  refine ⟨base_takes_at_once _, rfl, by decide, by decide, by decide, by decide, by decide, rfl,
    ⟨takes _ _ rfl (.inl rfl) ⟨rfl, by decide, rfl⟩, rfl, rfl⟩, by decide, ?_⟩
  intro b n
  simp only [writeRun, Fin.getElem_fin, Vector.getElem_ofFn]
  show (if 63 ≤ n.val then _ else _) = if 63 ≤ n.val then _ else _
  split
  · have h : n.val - 63 = 0 := by omega
    have k : n.val - (63 : Byte).toNat = 0 := h
    rw [h, k]; rfl
  · rfl
theorem witness_SchedWrite_outsideEntries :
    2 ∣ (List.replicate 48 (0 : Byte)).length ∧ 2 ∣ ([] : Octets).length ∧
    (List.replicate 48 (0 : Byte)).length + ([] : Octets).length ≤ 48 ∧
    (1 < (2 : Byte).toNat ∧ (15 : Byte).toNat < 16) ∧ 31 < (32 : Byte).toNat := by decide

theorem witness_SchedSwapAndCancel :
    (takesAtOnce swapping 6 ∧ ownedBy swapping 6 ∧ swapping.sched.swapPending = true ∧ Bank.b ≠ swapping.sched.active ∧
      onlyOperation swapping (.bank .b) swapOp) ∧
    (takesAtOnce base 6 ∧ ownedBy base 6 ∧ base.sched.swapPending = false ∧ Bank.b ≠ base.sched.active ∧
      ¬capable base.sched.bankB) ∧
    capable (base.sched.bankB.set 63 ⟨.idle, true⟩) ∧ tagRuns draining 0 3 ∧
    (takesAtOnce (busy base) 6 ∧ ¬tagRuns (busy base) 6 9 ∧ 4 ≤ (tableEntries (busy base)).length) ∧
    (¬tagRuns base 6 9 ∧ (tableEntries base).length < 4) := by
  refine ⟨⟨takes _ _ rfl (.inl rfl) ⟨rfl, by decide, rfl⟩, rfl, rfl, by decide, only_one _ swapOp rfl⟩,
    ⟨base_takes_at_once _, rfl, rfl, by decide, ?_⟩, ⟨63, by decide +kernel⟩, ⟨drainOp, by decide, rfl, rfl⟩,
    ⟨takes _ _ rfl (.inl rfl) ⟨rfl, by decide, rfl⟩, ?_, by decide⟩, ?_, by decide⟩
  · unfold capable; decide +kernel
  · unfold tagRuns; decide
  · unfold tagRuns; decide

theorem witness_GroupSetAndGet :
    takesAtOnce loaded 6 ∧ ownedBy loaded 6 ∧ 15 < (16 : Byte).toNat ∧ (0 : Byte).toNat * 256 + (0 : Byte).toNat < 1 ∧
    1024 < (4 : Byte).toNat * 256 + (1 : Byte).toNat ∧ 1 < (2 : Byte).toNat ∧ (15 : Byte).toNat = (15 : Group).val ∧
    (4 : Byte).toNat * 256 + (0 : Byte).toNat ≤ 1024 ∧
    (0 : Byte).toNat * 256 + (1 : Byte).toNat <
      (withQueue 0 [queued, queued] base).groups[(0 : Group)].queue.length ∧
    loaded.groups[(0 : Group)].queue.length ≤ (0 : Byte).toNat * 256 + (1 : Byte).toNat :=
  ⟨takes _ _ rfl (.inl rfl) ⟨rfl, by decide, rfl⟩, rfl, by decide, by decide, by decide, by decide, by decide,
    by decide, by decide +kernel,
    by decide +kernel⟩

theorem witness_GroupFlushEmptiesTheQueue :
    (takesAtOnce loaded 6 ∧ ownedBy loaded 6 ∧ 15 < (16 : Byte).toNat ∧
      ∀ r ∈ loaded.groups[(0 : Group)].queue, ∃ e, loaded.flows[r.entry] = some e ∧ e.draining = false) ∧
    (takesAtOnce flushing 6 ∧ ownedBy flushing 6 ∧ flushing.groups[(0 : Group)].queue ≠ [] ∧
      (∀ r ∈ flushing.groups[(0 : Group)].queue, r.entry = 3) ∧
      flushing.flows[(3 : FlowIdx)] = some { entry with draining := true, inQueue := 1 } ∧
      1 = flushing.groups[(0 : Group)].queue.length ∧ onlyOperation flushing (.flow 3) drainOp) := by
  refine ⟨⟨takes _ _ rfl (.inl rfl) ⟨rfl, by decide, rfl⟩, rfl, by decide, ?_⟩, takes _ _ rfl (.inl rfl) ⟨rfl,
    by decide, rfl⟩, rfl, by decide +kernel,
    by decide +kernel, by decide +kernel, by decide +kernel, only_one _ drainOp rfl⟩
  intro r hr
  have h : loaded.groups[(0 : Group)].queue = [queued] := by decide +kernel
  rw [h, List.mem_singleton] at hr
  subst hr
  exact ⟨{ entry with inQueue := 1 }, by decide +kernel, rfl⟩

/-- A DRAINING entry of an inflow with cells queued. -/
def drainer (n : BitVec 10) (k : Nat) : Option FlowEntry :=
  some { entry with inflow := n, draining := true, inQueue := k }

/-- Two entries drain with their last cells in group 0, the one at place 4 first by its last record, and a third has a
cell in another group too. -/
def mixed : State :=
  withEngine (fun e => { e with inFlight := [drainOp, { drainOp with tag := 4, target := .flow 4 }] })
    (withQueue 0 [queued, { queued with entry := 4 }, { queued with entry := 5 }, queued]
      { base with flows := ((base.flows.set 3 (drainer 7 2)).set 4 (drainer 8 1)).set 5 (drainer 9 2) })

theorem witness_GroupFlushEmptiesTheQueue_mixed :
    takesAtOnce mixed 6 ∧ ownedBy mixed 6 ∧
    (∀ i : FlowIdx, ∀ f ∈ mixed.flows[i], f.draining = true → recordsIn mixed 0 i ≤ f.inQueue) ∧
    [4, 3] = (byLastRecord mixed.groups[(0 : Group)].queue).filter (flushEndsDrain mixed 0) ∧
    onlyOperation mixed (.flow 3) drainOp ∧
    onlyOperation mixed (.flow 4) { drainOp with tag := 4, target := .flow 4 } := by
  refine ⟨takes _ _ rfl (.inl rfl) ⟨rfl, by decide, rfl⟩, rfl, by decide +kernel, by decide +kernel, ?_, ?_⟩ <;>
    (unfold onlyOperation; decide)

theorem witness_CycleSetAndArm :
    takesAtOnce armed 6 ∧ ownedBy armed 6 ∧ 3 < (4 : Byte).toNat ∧ 31 < (32 : Byte).toNat ∧ (31 : Byte).toNat ≤ 31 ∧
    base.follower.armed = false ∧ armed.follower.armed = true ∧ onlyOperation armed .follower armOp ∧
    base.follower.mode ≠ .once ∧ armed.follower.mode = .once ∧ (following .once 0).follower.armed = false ∧
    tagRuns armed 0 2 ∧ (¬tagRuns (busy base) 6 9 ∧ 4 ≤ (tableEntries (busy base)).length) ∧
    (¬tagRuns base 6 9 ∧ (tableEntries base).length < 4) := by
  refine ⟨takes _ _ rfl (.inl rfl) ⟨rfl, by decide, rfl⟩, rfl, by decide, by decide, by decide, rfl, rfl,
    only_one _ armOp rfl, by decide, rfl,
    rfl, ⟨armOp, by decide, rfl, rfl⟩, ⟨?_, by decide⟩, ?_, by decide⟩ <;> (unfold tagRuns; decide)

theorem witness_SnapTakeCopiesEveryCounter :
    (waitsAlone (waiting ⟨0, 0x50, 1, [0, 9]⟩ (checking 1 0)) ⟨0, 0x50, 1, [if false then 1 else 0, 9]⟩ ∧
      (waiting ⟨0, 0x50, 1, [0, 9]⟩ (checking 1 0)).ports[(0 : Port)].rx.st ≠ .up) ∧
    takesAtOnce base 6 ∧ ownedBy base 6 ∧ 1 < (2 : Byte).toNat ∧
    (takesAtOnce { base with snapshot := some (snapOf 2) } 6 ∧
      ({ base with snapshot := some (snapOf 2) } : State).snapshot = some (snapOf 2) ∧ (snapOf 2).holder ≠ 6) ∧
    base.snapshot = none ∧ ({ base with snapshot := some (snapOf 6) } : State).snapshot.map Snapshot.holder = some 6 :=
  ⟨⟨⟨rfl, by decide, rfl⟩, by decide +kernel⟩, base_takes_at_once _, rfl, by decide,
    ⟨takes _ _ rfl (.inl rfl) ⟨rfl, by decide, rfl⟩, rfl, by decide⟩, rfl, rfl⟩

theorem witness_SnapReadGivesTheBlock :
    takesAtOnce { base with snapshot := some (snapOf 2) } 2 ∧ (snapOf 2).holder = 2 ∧
    base.snapshot.map Snapshot.holder ≠ some 2 ∧
    255 = (0 : Byte).toNat * 256 + (255 : Byte).toNat ∧
    ¬blockNamed 1 7 0 ∧ blockNamed 1 6 1 ∧ blockNamed 0 0 0 ∧
    (6 : Port).val = (0 : Byte).toNat * 256 + (6 : Byte).toNat ∧
    (5 : Lane).val = (0 : Byte).toNat * 256 + (5 : Byte).toNat ∧
    (255 : FlowIdx).val = (0 : Byte).toNat * 256 + (255 : Byte).toNat ∧
    (15 : Group).val = (0 : Byte).toNat * 256 + (15 : Byte).toNat ∧ (1 : Byte).toNat ≤ 1 :=
  ⟨takes _ _ rfl (.inl rfl) ⟨rfl, by decide, rfl⟩, rfl, by decide, by decide, by unfold blockNamed; decide,
    by unfold blockNamed; decide,
    by unfold blockNamed; decide, by decide, by decide, by decide, by decide, by decide⟩

theorem witness_SnapDropEndsTheSnapshot :
    takesAtOnce base 6 ∧ base.snapshot = none ∧
    (∀ p, takesAtOnce { base with snapshot := some (snapOf 2) } p) ∧ (snapOf 2).holder = 2 ∧ (snapOf 2).holder ≠ 6 :=
  ⟨base_takes_at_once _, rfl, fun _ => takes _ _ rfl (.inl rfl) ⟨rfl, by decide, rfl⟩, rfl, by decide⟩

theorem witness_CountClearZeroesWhatItNames :
    takesAtOnce base 6 ∧ ownedBy base 6 ∧ 65535 = (255 : Byte).toNat * 256 + (255 : Byte).toNat ∧
    (6 : Port).val = (0 : Byte).toNat * 256 + (6 : Byte).toNat ∧
    (5 : Lane).val = (0 : Byte).toNat * 256 + (5 : Byte).toNat ∧
    (255 : FlowIdx).val = (0 : Byte).toNat * 256 + (255 : Byte).toNat ∧
    (15 : Group).val = (0 : Byte).toNat * 256 + (15 : Byte).toNat ∧
    ¬((6 : Byte) = 255) ∧ ¬(1 ≤ (6 : Byte).toNat ∧ (6 : Byte).toNat ≤ 5) :=
  ⟨base_takes_at_once _, rfl, by decide, by decide, by decide, by decide, by decide, by decide, by decide⟩

theorem witness_NoticeEnableMovesTheSet :
    takesAtOnce base 6 ∧ ownedBy base 6 ∧ ([1, 14] : Octets).length ≤ 50 ∧ ((0 : Byte) ≠ 1 ∧ (0 : Byte) ≠ 2) ∧
    14 < (List.replicate 15 (1 : Byte)).length ∧ (∃ b ∈ ([15] : Octets), b.toNat < 1 ∨ 14 < b.toNat) ∧
    1 ≤ ([1, 14] : Octets).length ∧ ([1, 14] : Octets).length ≤ 14 ∧
    (∀ b ∈ ([1, 14] : Octets), 1 ≤ b.toNat ∧ b.toNat ≤ 14) ∧
    (∀ k : Fin 14, (setKinds [1, 14] true base.notices.enabled)[k] =
      if BitVec.ofNat 8 (k.val + 1) ∈ ([1, 14] : Octets) then decide ((1 : Byte) = 1) else base.notices.enabled[k]) :=
  ⟨base_takes_at_once _, rfl, by decide, by decide, by decide, by decide, by decide, by decide, by decide,
    by decide +kernel⟩

/-- A request that is refused. -/
def asking : State := requesting [{ port := 0, code := 0x03, tag := 1, args := [] }] base

theorem witness_RefusedRequestChangesOnlyTheLease :
    asking.engine.requests = { port := 0, code := 0x03, tag := 1, args := [] } :: [] ∧
    asking.engine.replies.length < 16 ∧ asking.engine.held = [] ∧
    (∃ t, exec .requestTake asking = .next t ∧
      t.engine.replies =
        asking.engine.replies ++ { port := 0, code := 0x03, tag := 1, status := .notOwner, result := [] } :: []) ∧
    Status.notOwner.refusal = true :=
  ⟨rfl, by decide, rfl, ⟨_, rfl, by decide +kernel⟩, rfl⟩

/-- The base part with a command that waits. -/
def awaiting : State := { base with pending := [.slotBoundary] }

theorem awaiting_steps : ∃ t, step awaiting = .next t := ⟨_, rfl⟩

theorem base_lane (l : Lane) : awaiting.lanes[l] = LaneState.powerOn := by revert l; decide +kernel
theorem base_flow (i : FlowIdx) : awaiting.flows[i] = none := by revert i; decide +kernel
theorem base_group (g : Group) : awaiting.groups[g].queue = [] ∧ awaiting.groups[g].limit = 128 := by
  revert g; decide +kernel
theorem base_port (p : Port) : awaiting.ports[p].rx = rxUp 5 := by revert p; decide +kernel

theorem witness_EveryStepKeepsBuffers : buffersAddUp awaiting ∧ ∃ t, step awaiting = .next t :=
  ⟨by unfold buffersAddUp; decide +kernel, awaiting_steps⟩

theorem witness_EveryStepKeepsQueuesWithinLimits : queuesWithinLimits awaiting ∧ ∃ t, step awaiting = .next t := by
  refine ⟨⟨fun l => ?_, fun g => ?_⟩, awaiting_steps⟩
  · have h : awaiting.ports[l.port].profile = { Profile.powerOnLane with mgmt := true } := by revert l; decide +kernel
    rw [h, base_lane l]
    simp [Profile.related, hysteresisAgrees, Profile.powerOnLane, LaneState.powerOn]
  · rw [(base_group g).1, (base_group g).2]; decide

theorem witness_EveryStepKeepsFlowEntriesSound :
    (keysDistinct awaiting ∧ countsMatchRecords awaiting) ∧ ∃ t, step awaiting = .next t := by
  refine ⟨⟨fun i j _ => by rw [base_flow i]; rfl, fun i => ?_⟩, awaiting_steps⟩
  rw [base_flow i]
  revert i; decide +kernel

theorem awaiting_quiet : quietUntilRunning awaiting := fun h => absurd rfl h

theorem witness_EveryStepKeepsTheAlignerSound :
    (quietUntilRunning awaiting ∧ alignerSound awaiting) ∧ ∃ t, step awaiting = .next t := by
  refine ⟨⟨awaiting_quiet, ⟨by decide, trivial⟩, ⟨fun _ => ⟨rfl, rfl, fun l => by rw [base_lane l]; rfl⟩,
    fun h => (by cases h), fun x h => (by cases h)⟩, by decide, by decide, by decide, fun l => ?_⟩, awaiting_steps⟩
  simp only [memberSound, laneQueueOrdered, memberQualified, base_lane l, LaneState.powerOn]
  refine ⟨?_, ⟨?_, List.Pairwise.nil⟩, fun h => absurd rfl h, by decide⟩
  · intro r h; cases h
  · intro q h; cases h

theorem witness_EveryStepKeepsOwnerAndHolderQualified :
    (quietUntilRunning awaiting ∧ ownerQualified awaiting ∧ holderQualified awaiting) ∧
    ∃ t, step awaiting = .next t := by
  refine ⟨⟨awaiting_quiet, ?_, trivial⟩, awaiting_steps⟩
  show awaiting.ports[(6 : Port)].rx.st = .up ∧ _
  exact ⟨by decide +kernel, by decide +kernel, by decide, by decide, by decide⟩

theorem witness_EveryStepKeepsTheEngineWithinCapacity :
    (engineWithinCapacity awaiting ∧ unitAddressLegal awaiting) ∧ ∃ t, step awaiting = .next t :=
  ⟨⟨⟨by decide, by decide, by decide, List.Pairwise.nil, fun h => absurd rfl h, fun h => absurd rfl h⟩,
    by unfold unitAddressLegal; decide⟩,
    awaiting_steps⟩

theorem witness_EveryStepKeepsOperationsOwned : operationsOwned awaiting ∧ ∃ t, step awaiting = .next t := by
  refine ⟨⟨List.Pairwise.nil, fun i => ?_, fun x => ?_, ?_⟩, awaiting_steps⟩
  · constructor
    · rintro ⟨o, h, -⟩; cases h
    · intro h; rw [drainsAt, base_flow i] at h; cases h
  · constructor
    · rintro ⟨o, h, -⟩; cases h
    · rintro ⟨h, -⟩; cases h
  · constructor
    · rintro ⟨o, h, -⟩; cases h
    · intro h; cases h

theorem witness_EveryStepKeepsNoticesSound : noticesSound awaiting ∧ ∃ t, step awaiting = .next t :=
  ⟨⟨List.Pairwise.nil, fun n h => by cases h⟩, awaiting_steps⟩

theorem witness_EveryStepKeepsScheduleTimeAndTrunk :
    (activeBankCapable awaiting ∧ timeSound awaiting ∧ trunkSound awaiting) ∧ ∃ t, step awaiting = .next t := by
  refine ⟨⟨⟨⟨0, by decide +kernel⟩, fun h => by cases h⟩, ⟨by decide, fun h => (by cases h), by decide,
    fun p h => (by cases h)⟩, ?_⟩,
    awaiting_steps⟩
  show headerValid fillCell = true
  decide +kernel

theorem witness_EveryStepKeepsReceiversSound :
    (quietUntilRunning awaiting ∧ receiversSound awaiting) ∧ ∃ t, step awaiting = .next t := by
  refine ⟨⟨awaiting_quiet, fun p => ?_, by decide +kernel, by decide +kernel, by decide +kernel⟩, awaiting_steps⟩
  have h : 16 ≤ awaiting.ports[p].profile.limit ∧ awaiting.ports[p].profile.limit ≤ 255 ∧
      awaiting.ports[p].profile.enabled = true := by revert p; decide +kernel
  rw [base_port p, h.2.2]
  exact ⟨by unfold Receiver.sound rxUp; decide, h.1, h.2.1, fun _ => ⟨fun x => (by cases x), fun x => (by cases x)⟩⟩
end

section
/-! PROOF. What the engine does with a management command that it takes at once: the rules by which every statement
about one management command goes (R31, R144, R145). -/

namespace Sys2Proof.Machine

theorem renewLease_eq_leaseRenewed (p : Port) (s : State) : renewLease p s = leaseRenewed p s := renewLease_eq p s

/-- The lease renewal leaves the lanes and the aligner as they are (R144 step 2). -/
@[simp] theorem leaseRenewed_lanes (p : Port) (s : State) : (leaseRenewed p s).lanes = s.lanes := rfl
@[simp] theorem leaseRenewed_aligner (p : Port) (s : State) : (leaseRenewed p s).aligner = s.aligner := rfl

/-- A reply to the request of a port is the answer to that port (R10). -/
@[simp] theorem reply_eq_answered (p : Port) (code tag : Byte) (args : Octets) (st : Status) (o : Octets) (s : State) :
    reply { port := p, code := code, tag := tag, args := args } st o s = answered p code tag st o s := rfl

/-- Answers with equal results are equal next states. -/
theorem next_answered_congr {p : Port} {code tag : Byte} {st : Status} {o o' : Octets} {s : State} (h : o = o') :
    (Host.Outcome.next (answered p code tag st o s) : Host.Outcome State Fault Refusal) =
      .next (answered p code tag st o' s) := by rw [h]

/-- A request that is taken at once, fits in length and passes the ownership check reaches its command, after the lease
renewal (R144, R145). -/
theorem submit_carriesOut (c : Command) {p : Port} (tag : Byte) {args : Octets} {s : State} (h : takesAtOnce s p)
    (hl : lengthFits c args = true) (ho : ownerCommand c args = true → ownedBy s p) :
    submit c p tag args s =
      carryOut c { port := p, code := c.code, tag := tag, args := args } (leaseRenewed p s) := by
  obtain ⟨hrun, hup, hmgmt, hreq, hrep, hheld⟩ := h
  rw [submit_passes c p tag args s hrun hup hmgmt hreq hrep hheld hl ho, renewLease_eq_leaseRenewed]

/-- The one-octet arguments of a request, by place (R9). -/
@[simp] theorem Request.arg_zero (p : Port) (code tag a : Byte) (rest : Octets) :
    Request.arg { port := p, code := code, tag := tag, args := a :: rest } 0 = a.toNat := rfl
@[simp] theorem Request.arg_one (p : Port) (code tag a b : Byte) (rest : Octets) :
    Request.arg { port := p, code := code, tag := tag, args := a :: b :: rest } 1 = b.toNat := rfl
@[simp] theorem Request.arg_two (p : Port) (code tag a b c : Byte) (rest : Octets) :
    Request.arg { port := p, code := code, tag := tag, args := a :: b :: c :: rest } 2 = c.toNat := rfl

/-- A number below the bound is the member of the range that it names. -/
@[simp] theorem fin?_val {k : Nat} (i : Fin k) : fin? i.val k = some i := by simp [fin?]

theorem fin?_eq_none {n k : Nat} (h : k ≤ n) : fin? n k = none := by simp [fin?, h]

end Sys2Proof.Machine
end

section
/-! PROOF. ALIGN_GET, ALIGN_SET and ALIGN_REJOIN (R77, R78, R80). -/

namespace Sys2Proof.Machine

/-! ### The three commands reach the aligner -/

section
variable {s : State} {p : Port} (tag : Byte)

theorem exec_alignGet (h : takesAtOnce s p) (n : Byte) :
    exec (.alignGet p tag [n]) s =
      .next (doAlignGet { port := p, code := 0x18, tag := tag, args := [n] } (leaseRenewed p s)) :=
  congrArg Host.Outcome.next (submit_carriesOut .alignGet tag h rfl (fun e => nomatch e))

theorem exec_alignSet (h : takesAtOnce s p) (o : ownedBy s p) (d n m : Byte) :
    exec (.alignSet p tag [d, n, m]) s =
      .next (doAlignSet { port := p, code := 0x19, tag := tag, args := [d, n, m] } (leaseRenewed p s)) :=
  congrArg Host.Outcome.next (submit_carriesOut .alignSet tag h rfl fun _ => o)

theorem exec_alignRejoin (h : takesAtOnce s p) (o : ownedBy s p) (n : Byte) :
    exec (.alignRejoin p tag [n]) s =
      .next (doAlignRejoin { port := p, code := 0x1A, tag := tag, args := [n] } (leaseRenewed p s)) :=
  congrArg Host.Outcome.next (submit_carriesOut .alignRejoin tag h rfl fun _ => o)

end

/-! ### A lane's five octets of the summary, by its membership (R77) -/

theorem memberOctets_waiting {x : LaneState} (h : x.member = .waiting) :
    memberOctets x = [0, 0, 0, 0, o8 x.lateCount] := by
  rw [memberOctets, h]; rfl

theorem memberOctets_joining {x : LaneState} (h : x.member = .joining) :
    memberOctets x = [1, 0, 0, 0, o8 x.lateCount] := by
  rw [memberOctets, h]; rfl

theorem memberOctets_isIn {x : LaneState} {c : Epoch} {late : Bool} (h : x.member = .isIn c late) :
    memberOctets x = [2] ++ o16 c.toNat ++ [yn late, o8 x.lateCount] := by
  rw [memberOctets, h]; rfl

theorem memberOctets_lagging {x : LaneState} (h : x.member = .lagging) :
    memberOctets x = [3, 0, 0, 0, o8 x.lateCount] := by
  rw [memberOctets, h]; rfl

section
variable (p : Port) (tag : Byte) (s : State)

/-! ### ALIGN_GET by section (R77) -/

/-- Section 00h is the summary. -/
theorem doAlignGet_summary :
    doAlignGet { port := p, code := 0x18, tag := tag, args := [0] } s =
      answered p 0x18 tag .ok (alignSummary s) s := rfl

/-- Sections 01h to 04h are the positions of the window, oldest first. -/
theorem doAlignGet_record {n : Byte} {k : Nat} (hn : n.toNat = k + 1) (hk : k < 4) :
    doAlignGet { port := p, code := 0x18, tag := tag, args := [n] } s =
      answered p 0x18 tag .ok (recordOctets s.aligner.window[k]?) s := by
  have hle : k + 1 ≤ 4 := hk
  simp [doAlignGet, Request.arg_zero, hn, hle]

theorem doAlignGet_refuses {n : Byte} (hn : 4 < n.toNat) :
    doAlignGet { port := p, code := 0x18, tag := tag, args := [n] } s = answered p 0x18 tag .badArgument [] s := by
  have h0 : n.toNat ≠ 0 := by omega
  have h4 : ¬n.toNat ≤ 4 := by omega
  simp only [doAlignGet, Request.arg_zero, h0, h4, if_false, refuse_eq, reply_eq_answered]

/-! ### ALIGN_SET and ALIGN_REJOIN (R78, R80) -/

theorem doAlignSet_refuses {d n m : Byte} (h : 7 < d.toNat ∨ 63 < n.toNat ∨ m.toNat < 1 ∨ 7 < m.toNat) :
    doAlignSet { port := p, code := 0x19, tag := tag, args := [d, n, m] } s =
      answered p 0x19 tag .badArgument [] s := by
  by_cases hn : 63 < n.toNat
  · simp [doAlignSet, Request.arg_one, fin?_eq_none (show 64 ≤ n.toNat from hn)]
  · have hlt : n.toNat < 64 := by omega
    have hslot : fin? n.toNat 64 = some ⟨n.toNat, hlt⟩ := fin?_val ⟨n.toNat, hlt⟩
    have hout : 7 < d.toNat ∨ m.toNat < 1 ∨ 7 < m.toNat := by omega
    simp only [doAlignSet, Request.arg_zero, Request.arg_one, Request.arg_two, hslot, hout, if_true, refuse_eq,
      reply_eq_answered]

theorem doAlignSet_replaces {d n m : Byte} (k : Slot) (hd : d.toNat ≤ 7) (hm : 1 ≤ m.toNat) (hm' : m.toNat ≤ 7)
    (hn : n.toNat = k.val) :
    doAlignSet { port := p, code := 0x19, tag := tag, args := [d, n, m] } s =
      answered p 0x19 tag .ok []
        { s with aligner := { s.aligner with skew := d.toNat, releaseSlot := k, lateLimit := m.toNat } } := by
  have hin : ¬(7 < d.toNat ∨ m.toNat < 1 ∨ 7 < m.toNat) := by omega
  simp only [doAlignSet, Request.arg_zero, Request.arg_one, Request.arg_two, hn, fin?_val, hin, if_false,
    reply_eq_answered]

theorem doAlignRejoin_noLane {n : Byte} (hn : 5 < n.toNat) :
    doAlignRejoin { port := p, code := 0x1A, tag := tag, args := [n] } s = answered p 0x1A tag .badArgument [] s := by
  simp [doAlignRejoin, Request.arg_zero, fin?_eq_none (show 6 ≤ n.toNat from hn)]

/-- What ALIGN_REJOIN does for a lane, by the lane's membership. -/
theorem doAlignRejoin_lane (l : Lane) :
    doAlignRejoin { port := p, code := 0x1A, tag := tag, args := [BitVec.ofNat 8 l.val] } s =
      if s.lanes[l].member = .lagging then
        modLane l (fun x => { x with member := .joining, lateCount := 0 }) (answered p 0x1A tag .ok [] s)
      else answered p 0x1A tag .badArgument [] s := by
  have hl : (BitVec.ofNat 8 l.val).toNat = l.val := by
    simp only [BitVec.toNat_ofNat]
    omega
  simp only [doAlignRejoin, Request.arg_zero, hl, fin?_val, refuse_eq, reply_eq_answered]

end

/-- Settles O36: each command reaches the aligner by its `exec_` rule, and the case of its `do` function answers it; the
result octets of ALIGN_GET are compared field by field. -/
theorem alignGetSetAndRejoin : Obligations.AlignGetSetAndRejoin := by
  refine ⟨fun s p tag n ht => ⟨fun hn => ?getRefused, fun hn => ?getSummary, fun k hn hk =>
      ⟨fun hlen => ?getBeyond, fun r hr => ?getRecord⟩⟩,
    fun s p tag ht ho => ⟨fun d n m => ⟨fun hout => ?setRefused, fun hd hm hm' k hn => ?setReplaces⟩,
      fun n hn => ?rejoinNoLane, fun l => ⟨fun hl => ?rejoinRefused, fun hl => ?rejoinTakes⟩⟩⟩
  case getRefused => rw [exec_alignGet tag ht, doAlignGet_refuses _ _ _ hn]
  case getSummary =>
    subst hn
    rw [exec_alignGet tag ht, doAlignGet_summary]
    refine next_answered_congr (congrArg₂ (· ++ ·) ?fields (List.flatMap_congr fun x _ => ?lane))
    case fields =>
      rw [leaseRenewed_aligner]
      cases s.aligner.lastReleased <;> cases s.aligner.window <;> rfl
    case lane =>
      obtain ⟨queue, high, member, lateCount⟩ := x
      cases member with
      | waiting => exact memberOctets_waiting rfl
      | joining => exact memberOctets_joining rfl
      | isIn c late => exact memberOctets_isIn rfl
      | lagging => exact memberOctets_lagging rfl
  case getBeyond =>
    rw [exec_alignGet tag ht, doAlignGet_record _ _ _ hn hk, leaseRenewed_aligner, List.getElem?_eq_none hlen]
    rfl
  case getRecord =>
    rw [exec_alignGet tag ht, doAlignGet_record _ _ _ hn hk, leaseRenewed_aligner, hr]
    refine next_answered_congr (congrArg (· ++ _) (congrArg (_ ++ ·) (List.map_congr_left fun x _ => ?status)))
    case status => cases x <;> rfl
  case setRefused => rw [exec_alignSet tag ht ho, doAlignSet_refuses _ _ _ hout]
  case setReplaces =>
    rw [exec_alignSet tag ht ho, doAlignSet_replaces _ _ _ k hd hm hm' hn]
    rfl
  case rejoinNoLane => rw [exec_alignRejoin tag ht ho, doAlignRejoin_noLane _ _ _ hn]
  case rejoinRefused => rw [exec_alignRejoin tag ht ho, doAlignRejoin_lane, leaseRenewed_lanes, if_neg hl]
  case rejoinTakes =>
    rw [exec_alignRejoin tag ht ho, doAlignRejoin_lane, leaseRenewed_lanes, if_pos hl]
    rfl

end Sys2Proof.Machine
end

section
/-! PROOF. What any management command shares besides its take: the refusal by its length, and numbers read back from
their octets (R1, R35, R145, R146). -/

namespace Sys2Proof.Machine

/-- A taken request whose argument length does not fit its command is refused (R145 step 2, R146). -/
theorem submit_refusesLength (c : Command) {p : Port} (tag : Byte) {args : Octets} {s : State} (h : takesAtOnce s p)
    (hl : lengthFits c args = false) :
    submit c p tag args s = answered p c.code tag .badArgument [] (leaseRenewed p s) := by
  obtain ⟨hrun, hup, hmgmt, hreq, hrep, hheld⟩ := h
  rw [submit_reaches c p tag args s hrun hup hmgmt, requestReaches_ready _ s hreq hrep hheld, handle_code, hl,
    renewLease_eq_leaseRenewed]
  rfl

/-- A number below 256 is read back from its octet. -/
theorem toNat_ofNat_octet {n : Nat} (h : n < 256) : (BitVec.ofNat 8 n).toNat = n := Nat.mod_eq_of_lt h

/-- A number below 65536 is read back from its two octets (R1). -/
theorem o16_value {n : Nat} (h : n < 65536) : (o8 (n / 256)).toNat * 256 + (o8 n).toNat = n := by
  simp only [o8, BitVec.toNat_ofNat]
  omega

/-- A yes/no octet is read back as 1 for yes and 0 for no (R35). -/
theorem yn_value (b : Bool) : (yn b).toNat = b.toNat := by cases b <;> rfl

theorem yn_decide (c : Prop) [Decidable c] : yn (decide c) = if c then 1 else 0 := by simp [yn]

end Sys2Proof.Machine
end

section
/-! PROOF. The Flow Table by key and by place, and the argument octets that carry a flow entry (R83, R84, R97). -/

namespace Sys2Proof.Machine

/-- The lease renewal leaves every key where it is (R144 step 2). -/
@[simp] theorem findKey_leaseRenewed (p : Port) (s : State) (lane inflow : Nat) :
    findKey (leaseRenewed p s) lane inflow = findKey s lane inflow := rfl

/-! ### Places and keys -/

section
variable {s : State}

/-- Two places that hold one key are one place (R83). -/
theorem keysDistinct_place_eq (hd : keysDistinct s) {i j : FlowIdx} {x y : FlowEntry} (hi : s.flows[i] = some x)
    (hj : s.flows[j] = some y) (hl : x.lane = y.lane) (hf : x.inflow = y.inflow) : i = j := by
  by_contra hne
  have hkey := hd i j hne
  rw [hi, hj] at hkey
  simp [sameKey, hl, hf] at hkey

/-- A key that an entry holds is found in the place of that entry. -/
theorem findKey_of_held (hd : keysDistinct s) {i : FlowIdx} {x : FlowEntry} (hi : s.flows[i] = some x) :
    findKey s x.lane.val x.inflow.toNat = some i := by
  cases h : findKey s x.lane.val x.inflow.toNat with
  | none => exact absurd ⟨rfl, rfl⟩ (findKey_none h i x hi)
  | some k =>
    obtain ⟨y, hk, hl, hf⟩ := findKey_some h
    rw [keysDistinct_place_eq hd hk hi (Fin.ext hl) (BitVec.eq_of_toNat_eq hf)]

/-- A key that no entry holds is not found. -/
theorem findKey_of_notHeld {e : FlowEntry} (h : ∀ i : FlowIdx, ¬holdsKeyOf s i e) :
    findKey s e.lane.val e.inflow.toNat = none := by
  cases hk : findKey s e.lane.val e.inflow.toNat with
  | none => rfl
  | some i =>
    obtain ⟨y, hi, hl, hf⟩ := findKey_some hk
    exact absurd ⟨y, hi, Fin.ext hl, BitVec.eq_of_toNat_eq hf⟩ (h i)

theorem isDraining_of_held {i : FlowIdx} {x : FlowEntry} (hi : s.flows[i] = some x) : isDraining s i = x.draining := by
  simp [isDraining, hi]

theorem lowestFree_of_full (h : ∀ i : FlowIdx, s.flows[i] ≠ none) : lowestFree s = none := by
  cases hk : lowestFree s with
  | none => rfl
  | some i => exact absurd (lowestFree_some hk).1 (h i)

/-- A free place with no free place below it is the lowest free place. -/
theorem lowestFree_of_least {i : FlowIdx} (hi : s.flows[i] = none) (hlow : ∀ j : FlowIdx, j < i → s.flows[j] ≠ none) :
    lowestFree s = some i := by
  cases h : lowestFree s with
  | none => exact absurd hi (lowestFree_none h i)
  | some k =>
    obtain ⟨hk, hbelow⟩ := lowestFree_some h
    rcases lt_trichotomy k i with hlt | heq | hgt
    · exact absurd hk (hlow k hlt)
    · rw [heq]
    · exact absurd hi (hbelow i hgt)

end

/-! ### The arguments of FLOW_ADD and FLOW_MODIFY (R97) -/

/-- A stamp is read back from its code. -/
theorem stampOf_code (x : Stamp) : stampOf x.code.toNat = some x := by cases x <;> rfl

theorem stampOf_eq_none {n : Nat} (h : 2 < n) : stampOf n = none := by
  match n, h with
  | _ + 3, _ => rfl

section
variable (p : Port) (code tag : Byte) (e : FlowEntry)

@[simp] theorem flowArguments_lane :
    Request.arg { port := p, code := code, tag := tag, args := flowArguments e } 0 = e.lane.val :=
  toNat_ofNat_octet (by omega)

@[simp] theorem flowArguments_inflow :
    Request.arg16 { port := p, code := code, tag := tag, args := flowArguments e } 1 = e.inflow.toNat :=
  o16_value (by omega)

@[simp] theorem flowArguments_group :
    Request.arg { port := p, code := code, tag := tag, args := flowArguments e } 3 = e.group.val :=
  toNat_ofNat_octet (by omega)

@[simp] theorem flowArguments_outflow :
    Request.arg16 { port := p, code := code, tag := tag, args := flowArguments e } 4 = e.outflow.toNat :=
  o16_value (by omega)

@[simp] theorem flowArguments_seqCheck :
    Request.arg { port := p, code := code, tag := tag, args := flowArguments e } 6 = e.seqCheck.toNat :=
  yn_value e.seqCheck

@[simp] theorem flowArguments_renumber :
    Request.arg { port := p, code := code, tag := tag, args := flowArguments e } 7 = e.renumber.toNat :=
  yn_value e.renumber

@[simp] theorem flowArguments_stamp :
    stampOf (Request.arg { port := p, code := code, tag := tag, args := flowArguments e } 8) = some e.stamp :=
  stampOf_code e.stamp

theorem budget_le_of_legal {e : FlowEntry} (hb : budgetLegal e) : e.budget.getD 0 ≤ 4095 := by
  cases h : e.budget with
  | none => exact Nat.zero_le _
  | some b => exact (hb b h).2

theorem flowArguments_budget {e : FlowEntry} (hb : budgetLegal e) :
    Request.arg16 { port := p, code := code, tag := tag, args := flowArguments e } 9 = e.budget.getD 0 :=
  o16_value (by have := budget_le_of_legal hb; omega)

/-- Budget 0 in the arguments stands for an absent budget (R84, R97). -/
theorem budget_of_argument {e : FlowEntry} (hb : budgetLegal e) :
    (if e.budget.getD 0 = 0 then none else some (e.budget.getD 0)) = e.budget := by
  cases h : e.budget with
  | none => rfl
  | some b =>
    have hne : b ≠ 0 := by have := (hb b h).1; omega
    simp [hne]

/-- An entry as FLOW_ADD puts it into its place: not draining, with nothing counted and no sequence seen (R98). -/
def FlowEntry.fresh (e : FlowEntry) : FlowEntry :=
  { e with draining := false, expected := none, egressSeq := 0, admitted := 0, inQueue := 0 }

/-- The argument octets of a legal entry are read back as the entry, fresh. -/
theorem flowArgs_flowArguments {e : FlowEntry} (hb : budgetLegal e) :
    flowArgs { port := p, code := code, tag := tag, args := flowArguments e } = some e.fresh := by
  have hin : e.inflow.toNat ≤ 1023 := by omega
  have hout : e.outflow.toNat ≤ 1023 := by omega
  simp [flowArgs, newEntry, flowArguments_budget p code tag hb, budget_le_of_legal hb, budget_of_argument hb, hin, hout,
    isYesNo, Bool.toNat_le, FlowEntry.fresh]

/-- Arguments with a value outside its range carry no entry (R97 step 1). -/
theorem flowArgs_outside {a : Octets} (h : outsideFlowValues a) :
    flowArgs { port := p, code := code, tag := tag, args := a } = none := by
  obtain ⟨-, h⟩ := h
  simp only [flowArgs]
  split
  · next l g x hl hg hs =>
    rw [if_neg]
    rintro ⟨hin, hout, hsq, hrn, hbu⟩
    have hsq' := of_decide_eq_true hsq
    have hrn' := of_decide_eq_true hrn
    simp only [Request.arg, Request.arg16, pair] at hl hg hs hin hout hsq' hrn' hbu
    rcases h with hlane | hflow | hgroup | hflow' | hyn | hyn' | hstamp | hbudget
    · rw [fin?_eq_none hlane] at hl
      cases hl
    · omega
    · rw [fin?_eq_none hgroup] at hg
      cases hg
    · omega
    · omega
    · omega
    · rw [stampOf_eq_none hstamp] at hs
      cases hs
    · omega
  · rfl

end

end Sys2Proof.Machine
end

section
/-! PROOF. FLOW_ADD (R97, R98). -/

namespace Sys2Proof.Machine

section
variable {s : State} {p : Port} (tag : Byte)

theorem exec_flowAdd (h : takesAtOnce s p) (o : ownedBy s p) {a : Octets} (hl : a.length = 11) :
    exec (.flowAdd p tag a) s =
      .next (doFlowAdd { port := p, code := 0x20, tag := tag, args := a } (leaseRenewed p s)) :=
  congrArg Host.Outcome.next (submit_carriesOut .flowAdd tag h (by simp [lengthFits, hl]) fun _ => o)

end

section
variable (p : Port) (tag : Byte) {s : State} {e : FlowEntry}

theorem doFlowAdd_outside {a : Octets} (h : outsideFlowValues a) :
    doFlowAdd { port := p, code := 0x20, tag := tag, args := a } s = answered p 0x20 tag .badArgument [] s := by
  simp only [doFlowAdd, flowArgs_outside p 0x20 tag h, refuse_eq, reply_eq_answered]

theorem doFlowAdd_keyHeld (hb : budgetLegal e) (hd : keysDistinct s) {i : FlowIdx} {x : FlowEntry}
    (hi : s.flows[i] = some x) (hl : x.lane = e.lane) (hf : x.inflow = e.inflow) :
    doFlowAdd { port := p, code := 0x20, tag := tag, args := flowArguments e } s =
      answered p 0x20 tag (if x.draining then .keyBusy else .keyExists) [] s := by
  have hfind : findKey s e.fresh.lane.val e.fresh.inflow.toNat = some i := by
    have hheld := findKey_of_held hd hi
    rwa [hl, hf] at hheld
  simp only [doFlowAdd, flowArgs_flowArguments p 0x20 tag hb, hfind, isDraining_of_held hi, refuse_eq,
    reply_eq_answered]

theorem doFlowAdd_full (hb : budgetLegal e) (hn : ∀ i : FlowIdx, ¬holdsKeyOf s i e)
    (hfull : ∀ i : FlowIdx, s.flows[i] ≠ none) :
    doFlowAdd { port := p, code := 0x20, tag := tag, args := flowArguments e } s =
      answered p 0x20 tag .tableFull [] s := by
  have hfind : findKey s e.fresh.lane.val e.fresh.inflow.toNat = none := findKey_of_notHeld hn
  simp only [doFlowAdd, flowArgs_flowArguments p 0x20 tag hb, hfind, lowestFree_of_full hfull, refuse_eq,
    reply_eq_answered]

theorem doFlowAdd_takesPlace (hb : budgetLegal e) (hn : ∀ i : FlowIdx, ¬holdsKeyOf s i e) {i : FlowIdx}
    (hi : s.flows[i] = none) (hlow : ∀ j : FlowIdx, j < i → s.flows[j] ≠ none) :
    doFlowAdd { port := p, code := 0x20, tag := tag, args := flowArguments e } s =
      answered p 0x20 tag .ok [o8 i.val]
        (countFlow i (fun _ => {}) { s with flows := upd s.flows i fun _ => some e.fresh }) := by
  have hfind : findKey s e.fresh.lane.val e.fresh.inflow.toNat = none := findKey_of_notHeld hn
  simp only [doFlowAdd, flowArgs_flowArguments p 0x20 tag hb, hfind, lowestFree_of_least hi hlow, reply_eq_answered]

end

/-- Settles O37: the request reaches `doFlowAdd`, whose cases are the value checks, the key, the full table and the
lowest free place, in the order of R97. -/
theorem flowAddTakesTheLowestFreePlace : Obligations.FlowAddTakesTheLowestFreePlace := by
  refine ⟨fun s p tag a ht ho hout => ?outside, fun s p tag e ht ho hd hb =>
    ⟨fun i x hi hl hf => ?keyHeld, fun hn => ⟨fun hfull => ?full, fun i hi hlow => ?takesPlace⟩⟩⟩
  case outside => rw [exec_flowAdd tag ht ho hout.1, doFlowAdd_outside p tag hout]
  case keyHeld => rw [exec_flowAdd tag ht ho rfl, doFlowAdd_keyHeld (s := leaseRenewed p s) p tag hb hd hi hl hf]
  case full => rw [exec_flowAdd tag ht ho rfl, doFlowAdd_full (s := leaseRenewed p s) p tag hb hn hfull]
  case takesPlace =>
    rw [exec_flowAdd tag ht ho rfl, doFlowAdd_takesPlace (s := leaseRenewed p s) p tag hb hn hi hlow]
    rfl

end Sys2Proof.Machine
end

section
/-! PROOF. FLOW_GET and FLOW_LIST (R102, R103). -/

namespace Sys2Proof.Machine

/-! ### The two commands reach the Flow Table -/

section
variable {s : State} {p : Port} (tag : Byte)

/-- FLOW_GET fits with a selector and a key or with a selector and an index, and with nothing else (R146). -/
theorem lengthFits_flowGet (a : Octets) :
    lengthFits .flowGet a = true ↔ (a.length = 4 ∧ octet a 0 = 0) ∨ (a.length = 2 ∧ octet a 0 = 1) := by
  simp [lengthFits]

theorem exec_flowGet (h : takesAtOnce s p) {a : Octets}
    (hl : (a.length = 4 ∧ octet a 0 = 0) ∨ (a.length = 2 ∧ octet a 0 = 1)) :
    exec (.flowGet p tag a) s =
      .next (doFlowGet { port := p, code := 0x23, tag := tag, args := a } (leaseRenewed p s)) :=
  congrArg Host.Outcome.next
    (submit_carriesOut .flowGet tag h ((lengthFits_flowGet a).mpr hl) (fun e => nomatch e))

theorem exec_flowGet_refusesLength (h : takesAtOnce s p) {a : Octets}
    (hl : ¬((a.length = 4 ∧ octet a 0 = 0) ∨ (a.length = 2 ∧ octet a 0 = 1))) :
    exec (.flowGet p tag a) s = .next (answered p 0x23 tag .badArgument [] (leaseRenewed p s)) :=
  congrArg Host.Outcome.next
    (submit_refusesLength .flowGet tag h (Bool.eq_false_iff.mpr (hl ∘ (lengthFits_flowGet a).mp)))

theorem exec_flowList (h : takesAtOnce s p) (n : Byte) :
    exec (.flowList p tag [n]) s =
      .next (doFlowList { port := p, code := 0x24, tag := tag, args := [n] } (leaseRenewed p s)) :=
  congrArg Host.Outcome.next (submit_carriesOut .flowList tag h rfl (fun e => nomatch e))

end

/-! ### The place that FLOW_GET selects, and its answer (R102) -/

section
variable (p : Port) (tag : Byte) (s : State)

theorem flowSelected_outside {a : Octets} (h0 : octet a 0 = 0)
    (h : 5 < (octet a 1).toNat ∨ 3 < (octet a 2).toNat) :
    flowSelected { port := p, code := 0x23, tag := tag, args := a } s = none := by
  have hout : ¬((octet a 1).toNat ≤ 5 ∧ pair a 2 ≤ 1023) := by
    unfold pair
    omega
  simp [flowSelected, Request.arg, Request.arg16, h0, hout]

/-- Selector 00h selects the place of a key. -/
theorem flowSelected_key (e : FlowEntry) :
    flowSelected { port := p, code := 0x23, tag := tag, args := 0 :: (flowArguments e).take 3 } s =
      some (findKey s e.lane.val e.inflow.toNat) := by
  have hlane : (BitVec.ofNat 8 e.lane.val).toNat = e.lane.val := toNat_ofNat_octet (by omega)
  have hflow : Request.arg16 { port := p, code := 0x23, tag := tag, args := 0 :: (flowArguments e).take 3 } 2 =
      e.inflow.toNat := o16_value (by omega)
  have hin : e.lane.val ≤ 5 ∧ e.inflow.toNat ≤ 1023 := by omega
  simp only [flowSelected, hflow]
  simp [flowArguments, hlane, hin]

/-- Selector 01h selects the place of an index. -/
theorem flowSelected_index (i : FlowIdx) :
    flowSelected { port := p, code := 0x23, tag := tag, args := [1, BitVec.ofNat 8 i.val] } s = some (some i) := by
  have hi : (BitVec.ofNat 8 i.val).toNat = i.val := toNat_ofNat_octet i.isLt
  simp only [flowSelected, Request.arg_zero, Request.arg_one, hi, fin?_val]
  rfl

variable {s} {a : Octets}

theorem doFlowGet_outside (h : flowSelected { port := p, code := 0x23, tag := tag, args := a } s = none) :
    doFlowGet { port := p, code := 0x23, tag := tag, args := a } s = answered p 0x23 tag .badArgument [] s := by
  simp only [doFlowGet, h, refuse_eq, reply_eq_answered]

theorem doFlowGet_noKey (h : flowSelected { port := p, code := 0x23, tag := tag, args := a } s = some none) :
    doFlowGet { port := p, code := 0x23, tag := tag, args := a } s = answered p 0x23 tag .noEntry [] s := by
  simp only [doFlowGet, h, refuse_eq, reply_eq_answered]

theorem doFlowGet_free {i : FlowIdx}
    (h : flowSelected { port := p, code := 0x23, tag := tag, args := a } s = some (some i)) (hi : s.flows[i] = none) :
    doFlowGet { port := p, code := 0x23, tag := tag, args := a } s = answered p 0x23 tag .noEntry [] s := by
  simp only [doFlowGet, h, hi, refuse_eq, reply_eq_answered]

theorem doFlowGet_held {i : FlowIdx} {e : FlowEntry}
    (h : flowSelected { port := p, code := 0x23, tag := tag, args := a } s = some (some i))
    (hi : s.flows[i] = some e) :
    doFlowGet { port := p, code := 0x23, tag := tag, args := a } s = answered p 0x23 tag .ok (e.octets i) s := by
  simp only [doFlowGet, h, hi, reply_eq_answered]

end

/-! ### The entries that FLOW_LIST finds (R103) -/

/-- The places from a starting index upward that hold an entry, each with its entry, in index order. -/
def placesFrom (s : State) (start : Nat) : List (FlowIdx × FlowEntry) :=
  allIndices.filterMap fun i => if start ≤ i.val then s.flows[i].map (i, ·) else none

theorem entriesFrom_eq_map (s : State) (start : Nat) :
    entriesFrom s start = (placesFrom s start).map fun x => listedOctets x.1 x.2 := by
  rw [placesFrom, List.map_filterMap]
  refine List.filterMap_congr fun i _ => ?_
  split
  · cases s.flows[i] <;> rfl
  · rfl

theorem mem_placesFrom {s : State} {start : Nat} {i : FlowIdx} {e : FlowEntry} :
    (i, e) ∈ placesFrom s start ↔ start ≤ i.val ∧ s.flows[i] = some e := by
  simp [placesFrom, allIndices]

theorem placesFrom_pairwise (s : State) (start : Nat) : (placesFrom s start).Pairwise fun x y => x.1 < y.1 := by
  have hplace {i : FlowIdx} {x : FlowIdx × FlowEntry}
      (h : (if start ≤ i.val then s.flows[i].map (i, ·) else none) = some x) : x.1 = i := by
    split at h
    · obtain ⟨e, -, rfl⟩ := Option.map_eq_some_iff.mp h
      rfl
    · cases h
  refine List.pairwise_filterMap.mpr ((List.pairwise_lt_finRange 256).imp fun hlt x hx y hy => ?_)
  rwa [hplace hx, hplace hy]

/-- A list of places in index order is determined by its members. -/
theorem placesFrom_unique {s : State} {start : Nat} {found : List (FlowIdx × FlowEntry)}
    (ho : found.Pairwise fun x y => x.1 < y.1)
    (hm : ∀ i e, (i, e) ∈ found ↔ start ≤ i.val ∧ s.flows[i] = some e) : found = placesFrom s start := by
  have hnodup {l : List (FlowIdx × FlowEntry)} (h : l.Pairwise fun x y => x.1 < y.1) : l.Nodup :=
    h.imp fun hlt heq => absurd (heq ▸ hlt) (lt_irrefl _)
  have hperm : found.Perm (placesFrom s start) :=
    (List.perm_ext_iff_of_nodup (hnodup ho) (hnodup (placesFrom_pairwise s start))).mpr fun ⟨i, e⟩ =>
      (hm i e).trans mem_placesFrom.symm
  exact hperm.eq_of_pairwise (fun x y _ _ hxy hyx => absurd hxy (lt_asymm hyx)) ho (placesFrom_pairwise s start)

theorem doFlowList_found (p : Port) (tag n : Byte) (s : State) {found : List (FlowIdx × FlowEntry)}
    (h : found = placesFrom s n.toNat) :
    doFlowList { port := p, code := 0x24, tag := tag, args := [n] } s =
      answered p 0x24 tag .ok
        ([o8 (min found.length 8), yn (8 < found.length)] ++
          (found.take 8).flatMap fun x => listedOctets x.1 x.2) s := by
  simp only [doFlowList, Request.arg_zero, entriesFrom_eq_map, ← h, reply_eq_answered, List.length_take,
    List.length_map, ← List.map_take, List.flatMap_def, Nat.min_comm]

/-- Settles O39: FLOW_GET answers by the place that its arguments select, the same place for an entry's index and for its
key; FLOW_LIST reports the one list of places in index order that has the given members. -/
theorem flowGetAndFlowListReport : Obligations.FlowGetAndFlowListReport := by
  intro s p tag ht
  refine ⟨fun a hbad => ?badArgument, fun e hn => ?noKey, fun i => ⟨fun hi => ?free, fun e hi hd a ha => ?held⟩,
    fun n found ho hm => ?list⟩
  case badArgument =>
    by_cases hl : (a.length = 4 ∧ octet a 0 = 0) ∨ (a.length = 2 ∧ octet a 0 = 1)
    · obtain ⟨h0, hkey⟩ := hbad.resolve_left (not_not_intro hl)
      rw [exec_flowGet tag ht hl, doFlowGet_outside p tag (flowSelected_outside p tag _ h0 hkey)]
    · exact exec_flowGet_refusesLength tag ht hl
  case noKey =>
    have hsel := flowSelected_key p tag (leaseRenewed p s) e
    rw [findKey_leaseRenewed, findKey_of_notHeld hn] at hsel
    rw [exec_flowGet tag ht (.inl ⟨rfl, rfl⟩), doFlowGet_noKey p tag hsel]
  case free =>
    have hsel := flowSelected_index p tag (leaseRenewed p s) i
    rw [exec_flowGet tag ht (.inr ⟨rfl, rfl⟩), doFlowGet_free p tag hsel hi]
  case held =>
    have hans : exec (.flowGet p tag a) s =
        .next (answered p 0x23 tag .ok (e.octets i) (leaseRenewed p s)) := by
      rcases ha with rfl | rfl
      · have hsel := flowSelected_index p tag (leaseRenewed p s) i
        rw [exec_flowGet tag ht (.inr ⟨rfl, rfl⟩), doFlowGet_held p tag hsel hi]
      · have hsel := flowSelected_key p tag (leaseRenewed p s) e
        rw [findKey_leaseRenewed, findKey_of_held hd hi] at hsel
        rw [exec_flowGet tag ht (.inl ⟨rfl, rfl⟩), doFlowGet_held p tag hsel hi]
    rw [hans]
    refine next_answered_congr ?_
    cases hx : e.expected <;>
      · simp only [FlowEntry.octets, hx]
        cases e.stamp <;> rfl
  case list =>
    rw [exec_flowList tag ht, doFlowList_found p tag n _ (placesFrom_unique (s := leaseRenewed p s) ho hm),
      yn_decide]
    rfl

end Sys2Proof.Machine
end

section
/-! PROOF. Schedule banks and the in-flight table in the words of the statements (R106, R107, R143, R150, R151). -/

namespace Sys2Proof.Machine

/-- The lease renewal leaves the schedule and the groups as they are (R144 step 2). -/
@[simp] theorem leaseRenewed_sched (p : Port) (s : State) : (leaseRenewed p s).sched = s.sched := rfl
@[simp] theorem leaseRenewed_groups (p : Port) (s : State) : (leaseRenewed p s).groups = s.groups := rfl

/-- An octet's number as one octet is the octet. -/
theorem o8_toNat (n : Byte) : o8 n.toNat = n := BitVec.eq_of_toNat_eq (toNat_ofNat_octet n.isLt)

/-! ### The two banks (R107) -/

/-- The bank that is not active is the staged one. -/
theorem staged_eq_of_ne_active {c : Schedule} {x : Bank} (h : x ≠ c.active) : c.staged = x := by
  unfold Schedule.staged
  cases hx : c.active <;> cases x <;> simp_all [Bank.other]

theorem bank_eq_ite (c : Schedule) (x : Bank) : c.bank x = if x = .a then c.bankA else c.bankB := by cases x <;> rfl

theorem code_eq_ite (x : Bank) : x.code = if x = .a then 0 else 1 := by cases x <;> rfl

/-- A bank is management-capable when one of its entries is (R107). -/
theorem bankCapable_iff (v : Vector SlotEntry 64) : bankCapable v = true ↔ capable v := by
  have hentry (e : SlotEntry) : e.capable = true ↔ e.kind = .mgmt ∨ e.lend = true := by simp [SlotEntry.capable]
  simp only [bankCapable, List.any_eq_true, Vector.mem_toList_iff, Vector.mem_iff_getElem, hentry]
  constructor
  · rintro ⟨_, ⟨n, hn, rfl⟩, he⟩
    exact ⟨⟨n, hn⟩, he⟩
  · rintro ⟨n, he⟩
    exact ⟨_, ⟨n.val, n.isLt, rfl⟩, he⟩

/-! ### The in-flight table (R143, R150, R151) -/

theorem tagInUse_iff (s : State) (p : Port) (tag : Byte) : s.engine.tagInUse p tag = true ↔ tagRuns s p tag := by
  simp only [Engine.tagInUse, tagRuns, tableEntries, List.any_eq_true, Bool.and_eq_true, beq_iff_eq]

theorem tableSize_eq (s : State) : s.engine.tableSize = (tableEntries s).length := by
  simp [Engine.tableSize, tableEntries]

theorem engineReady_iff (s : State) : engineReady s = true ↔ s.engine.replies.length < 16 ∧ s.engine.held = [] := by
  rw [engineReady, Bool.and_eq_true, decide_eq_true_eq, List.isEmpty_iff]
  rfl

/-- The end of the only operation on a target is reported for that operation. -/
theorem complete_eq_reported {s : State} {t : Target} {o : Operation} (h : onlyOperation s t o) (st : Status)
    (result : Octets) : complete t st result s = reported o st result s := by
  obtain ⟨hmem, htarget, honly⟩ := h
  rcases complete_cases t st result s with ⟨hnone, -⟩ | ⟨x, hx, hxt, ⟨hready, heq⟩ | ⟨hready, heq⟩⟩
  · exact absurd htarget (hnone o hmem)
  · rw [heq, honly x hx hxt, reported, if_pos ((engineReady_iff s).mp hready)]
    rfl
  · have hnot : ¬(s.engine.replies.length < 16 ∧ s.engine.held = []) := fun hr =>
      Bool.false_ne_true (hready.symm.trans ((engineReady_iff s).mpr hr))
    rw [heq, honly x hx hxt, reported, if_neg hnot]

end Sys2Proof.Machine
end

section
/-! PROOF. SCHED_WRITE and SCHED_READ (R106, R109, R110). -/

namespace Sys2Proof.Machine

/-! ### Slot entries as octets (R106) -/

theorem slotOctets_eq (e : SlotEntry) : slotOctets e = e.octets := by
  obtain ⟨kind, lend⟩ := e
  cases kind <;> rfl

theorem slotKindOf_code (k : SlotKind) : slotKindOf k.code.toNat = some k := by
  cases k with
  | idle => rfl
  | mgmt => rfl
  | group g =>
    have hcode : (SlotKind.group g).code.toNat = 16 + g.val := toNat_ofNat_octet (by omega)
    have h1 : 16 + g.val ≠ 1 := by omega
    simp [slotKindOf, hcode, h1]

theorem slotKindOf_eq_none {n : Nat} (h : 1 < n ∧ n < 16 ∨ 31 < n) : slotKindOf n = none := by
  have h0 : n ≠ 0 := by omega
  have h1 : n ≠ 1 := by omega
  rw [slotKindOf, if_neg h0, if_neg h1]
  rcases h with ⟨-, hlow⟩ | hhigh
  · exact if_neg (by omega)
  · rw [fin?_eq_none (show 16 ≤ n - 16 by omega)]
    exact ite_self _

/-- A slot entry is read back from its two octets. -/
theorem slotEntryOf_octets (e : SlotEntry) : slotEntryOf e.kind.code.toNat (yn e.lend).toNat = some e := by
  obtain ⟨kind, lend⟩ := e
  cases lend <;> simp [slotEntryOf, slotKindOf_code, yn_value, isYesNo]

/-- Two octets carry no slot entry when one of them is outside R106. -/
theorem slotEntryOf_eq_none {k l : Nat} (h : 1 < k ∧ k < 16 ∨ 31 < k ∨ 1 < l) : slotEntryOf k l = none := by
  rcases or_assoc.mpr h with hkind | hlend
  · rw [slotEntryOf, slotKindOf_eq_none hkind]
  · have hno : isYesNo l = false := decide_eq_false (Nat.not_le.mpr hlend)
    unfold slotEntryOf
    split
    · rw [hno]
      rfl
    · rfl

/-! ### A run of entries (R109) -/

/-- A run of entries is read back from its octets. -/
theorem entriesOf_octets (es : List SlotEntry) : entriesOf (es.flatMap slotOctets) = some es := by
  induction es with
  | nil => rfl
  | cons e es ih =>
    rw [List.flatMap_cons, slotOctets_eq]
    simp only [SlotEntry.octets, List.cons_append, List.nil_append, entriesOf, slotEntryOf_octets, ih]

/-- One pair of octets that carries no entry, at any place, leaves no run to write. -/
theorem entriesOf_eq_none {before : Octets} (after : Octets) {kind lend : Byte} (heven : 2 ∣ before.length)
    (h : slotEntryOf kind.toNat lend.toNat = none) : entriesOf (before ++ kind :: lend :: after) = none := by
  induction before using List.twoStepInduction with
  | nil => simp only [List.nil_append, entriesOf, h]
  | singleton x => exact absurd heven (by simp)
  | cons_cons x y before ih _ =>
    have hrest : 2 ∣ before.length := (Nat.dvd_add_left (dvd_refl 2)).mp heven
    simp only [List.cons_append, entriesOf, ih hrest]
    cases slotEntryOf x.toNat y.toNat <;> rfl

theorem length_flatMap_slotOctets (es : List SlotEntry) : (es.flatMap slotOctets).length = 2 * es.length := by
  induction es with
  | nil => rfl
  | cons e es ih =>
    simp only [List.flatMap_cons, List.length_append, List.length_cons, ih, slotOctets, List.length_nil]
    omega

/-- 1 to 16 entries that do not go past slot 63. -/
theorem runOk_iff (first count : Nat) :
    runOk first count = true ↔ 1 ≤ count ∧ count ≤ 16 ∧ first + count ≤ 64 := by
  simp only [runOk, Bool.and_eq_true, decide_eq_true_eq]
  omega

/-- A bank with a run written into it is determined by its slots. -/
theorem eq_writeRun {first : Nat} {es : List SlotEntry} {b v : Vector SlotEntry 64}
    (h : ∀ n : Slot, v[n] = if first ≤ n.val then (es[n.val - first]?).getD b[n] else b[n]) :
    v = writeRun first es b := by
  refine Vector.ext fun i hi => (h ⟨i, hi⟩).trans ?_
  simp only [writeRun, Vector.getElem_ofFn]
  cases es[i - first]? <;> rfl

/-! ### The two commands reach the schedule -/

section
variable {s : State} {p : Port} (tag : Byte)

theorem exec_schedWrite (h : takesAtOnce s p) (o : ownedBy s p) (first n : Byte) {rest : Octets}
    (hl : rest.length = 2 * n.toNat) :
    exec (.schedWrite p tag (first :: n :: rest)) s =
      .next (doSchedWrite { port := p, code := 0x30, tag := tag, args := first :: n :: rest } (leaseRenewed p s)) := by
  have hfits : lengthFits .schedWrite (first :: n :: rest) = true := by
    have hn : octet (first :: n :: rest) 1 = n := rfl
    simp only [lengthFits, hn, List.length_cons, hl, Bool.and_eq_true, decide_eq_true_eq, beq_iff_eq]
    omega
  exact congrArg Host.Outcome.next (submit_carriesOut .schedWrite tag h hfits fun _ => o)

theorem exec_schedRead (h : takesAtOnce s p) (x n k : Byte) :
    exec (.schedRead p tag [x, n, k]) s =
      .next (doSchedRead { port := p, code := 0x31, tag := tag, args := [x, n, k] } (leaseRenewed p s)) :=
  congrArg Host.Outcome.next (submit_carriesOut .schedRead tag h rfl (fun e => nomatch e))

end

/-! ### SCHED_WRITE by case (R109) -/

section
variable (p : Port) (tag : Byte) {s : State} {first n : Byte} {rest : Octets} {es : List SlotEntry}

theorem doSchedWrite_noEntries (h : entriesOf rest = none) :
    doSchedWrite { port := p, code := 0x30, tag := tag, args := first :: n :: rest } s =
      answered p 0x30 tag .badArgument [] s := by
  simp only [doSchedWrite, List.drop_succ_cons, List.drop_zero, h, refuse_eq, reply_eq_answered]

/-- What SCHED_WRITE of a run of legal entries does. -/
theorem doSchedWrite_entries (h : entriesOf rest = some es) :
    doSchedWrite { port := p, code := 0x30, tag := tag, args := first :: n :: rest } s =
      if runOk first.toNat n.toNat = false then answered p 0x30 tag .badArgument [] s
      else if s.sched.swapPending = true then answered p 0x30 tag .bankLocked [] s
      else
        answered p 0x30 tag .ok []
          { s with sched :=
              s.sched.setBank s.sched.staged (writeRun first.toNat es (s.sched.bank s.sched.staged)) } := by
  simp only [doSchedWrite, List.drop_succ_cons, List.drop_zero, h, Request.arg_zero, Request.arg_one, refuse_eq,
    reply_eq_answered, Bool.not_eq_true']

end

/-- The staged bank replaced is bank B while bank A is active, and bank A while bank B is. -/
theorem setBank_staged (c : Schedule) (f : Vector SlotEntry 64 → Vector SlotEntry 64) :
    c.setBank c.staged (f (c.bank c.staged)) =
      match c.active with
      | .a => { c with bankB := f c.bankB }
      | .b => { c with bankA := f c.bankA } := by
  obtain ⟨_, _, active, _, _⟩ := c
  cases active <;> rfl

/-! ### SCHED_READ by case (R110) -/

section
variable (p : Port) (tag : Byte) (s : State) {x n k : Byte}

theorem bankOf_eq_none {n : Nat} (h : 1 < n) : bankOf n = none := by
  match n, h with
  | _ + 2, _ => rfl

theorem bankOf_code (x : Bank) : bankOf x.code.toNat = some x := by cases x <;> rfl

/-- An octet of at most 01h is the code of a bank. -/
theorem exists_code_eq (h : x.toNat ≤ 1) : ∃ y : Bank, y.code = x := by
  rcases Nat.le_one_iff_eq_zero_or_eq_one.mp h with h0 | h1
  · exact ⟨.a, (BitVec.eq_of_toNat_eq h0).symm⟩
  · exact ⟨.b, (BitVec.eq_of_toNat_eq h1).symm⟩

theorem doSchedRead_refuses (h : 1 < x.toNat ∨ runOk n.toNat k.toNat = false) :
    doSchedRead { port := p, code := 0x31, tag := tag, args := [x, n, k] } s =
      answered p 0x31 tag .badArgument [] s := by
  by_cases hx : 1 < x.toNat
  · simp only [doSchedRead, Request.arg_zero, bankOf_eq_none hx, refuse_eq, reply_eq_answered]
  · obtain ⟨y, rfl⟩ := exists_code_eq (Nat.not_lt.mp hx)
    simp only [doSchedRead, Request.arg_zero, Request.arg_one, Request.arg_two, bankOf_code, h.resolve_left hx,
      Bool.false_eq_true, if_false, refuse_eq, reply_eq_answered]

theorem doSchedRead_run (y : Bank) (h : runOk n.toNat k.toNat = true) :
    doSchedRead { port := p, code := 0x31, tag := tag, args := [y.code, n, k] } s =
      answered p 0x31 tag .ok (schedReadResult s y n.toNat k.toNat) s := by
  simp only [doSchedRead, Request.arg_zero, Request.arg_one, Request.arg_two, bankOf_code, h, if_true,
    reply_eq_answered]

/-- The result of SCHED_READ, octet by octet. -/
theorem schedReadResult_eq (y : Bank) (n k : Byte) :
    schedReadResult s y n.toNat k.toNat =
      [y.code, if (y.code = 0 ∧ s.sched.active = .a) ∨ (y.code = 1 ∧ s.sched.active = .b) then 1 else 0,
        if s.sched.swapPending then 1 else 0, BitVec.ofNat 8 s.sched.lendPointer.val, n, k] ++
        (((if y.code = 0 then s.sched.bankA else s.sched.bankB).toList.drop n.toNat).take k.toNat).flatMap
          slotOctets := by
  rw [funext slotOctets_eq, schedReadResult, o8_toNat, o8_toNat]
  cases y <;> cases s.sched.active <;> rfl

end

/-- Settles O40: an entry outside R106 leaves SCHED_WRITE no run; a legal run is read back from its octets, and then the
run's bounds, the pending swap and the write decide in that order. SCHED_READ of a bank's code reports that bank. -/
theorem schedWriteAndRead : Obligations.SchedWriteAndRead := by
  intro s p tag ht
  refine ⟨fun first before after kind lend ho hb ha hlen hout a hargs => ?noEntries,
    fun first es a ho hes hargs => ?entries, fun x n k => ⟨fun hout => ?readRefused, fun hx h1 h16 h64 => ?readRun⟩⟩
  case noEntries =>
    have hn : (BitVec.ofNat 8 (before.length / 2 + 1 + after.length / 2)).toNat =
        before.length / 2 + 1 + after.length / 2 := toNat_ofNat_octet (by omega)
    have hl : (before ++ kind :: lend :: after).length = 2 * (before.length / 2 + 1 + after.length / 2) := by
      simp only [List.length_append, List.length_cons]
      omega
    rw [hargs, exec_schedWrite tag ht ho _ _ (hl.trans (by rw [hn])),
      doSchedWrite_noEntries p tag (entriesOf_eq_none after hb (slotEntryOf_eq_none hout))]
  case entries =>
    have hn : (BitVec.ofNat 8 es.length).toNat = es.length := toNat_ofNat_octet (by omega)
    have hl : (es.flatMap slotOctets).length = 2 * (BitVec.ofNat 8 es.length).toNat := by
      rw [length_flatMap_slotOctets, hn]
    have hrun := runOk_iff first.toNat es.length
    rw [hargs, exec_schedWrite tag ht ho _ _ hl, doSchedWrite_entries p tag (entriesOf_octets es), hn]
    refine ⟨fun hout => ?_, fun h1 h16 h64 => ?_⟩
    · have hbad : runOk first.toNat es.length = false := Bool.eq_false_iff.mpr fun h => by have := hrun.mp h; omega
      rw [if_pos hbad]
    · have hgood : ¬runOk first.toNat es.length = false := ne_false_of_eq_true (hrun.mpr ⟨h1, h16, h64⟩)
      rw [if_neg hgood, leaseRenewed_sched]
      refine ⟨fun hp => by rw [if_pos hp], fun hp written hw => ?_⟩
      have hsched := setBank_staged s.sched written
      rw [eq_writeRun (hw (s.sched.bank s.sched.staged))] at hsched
      rw [if_neg (ne_true_of_eq_false hp)]
      exact congrArg (fun c => Host.Outcome.next (answered p 0x30 tag .ok [] { leaseRenewed p s with sched := c }))
        hsched
  case readRefused =>
    have hbad : 1 < x.toNat ∨ runOk n.toNat k.toNat = false := by
      rw [Bool.eq_false_iff, ne_eq, runOk_iff]
      omega
    rw [exec_schedRead tag ht, doSchedRead_refuses p tag _ hbad]
  case readRun =>
    obtain ⟨y, rfl⟩ := exists_code_eq hx
    rw [exec_schedRead tag ht, doSchedRead_run p tag _ y ((runOk_iff _ _).mpr ⟨h1, h16, h64⟩), schedReadResult_eq,
      leaseRenewed_sched]

end Sys2Proof.Machine
end

section
/-! PROOF. SCHED_SWAP and SCHED_CANCEL (R111, R113). -/

namespace Sys2Proof.Machine

section
variable {s : State} {p : Port} (tag : Byte)

theorem exec_schedSwap (h : takesAtOnce s p) (o : ownedBy s p) :
    exec (.schedSwap p tag []) s =
      .next (doSchedSwap { port := p, code := 0x32, tag := tag, args := [] } (leaseRenewed p s)) :=
  congrArg Host.Outcome.next (submit_carriesOut .schedSwap tag h rfl fun _ => o)

theorem exec_schedCancel (h : takesAtOnce s p) (o : ownedBy s p) :
    exec (.schedCancel p tag []) s =
      .next (doSchedCancel { port := p, code := 0x33, tag := tag, args := [] } (leaseRenewed p s)) :=
  congrArg Host.Outcome.next (submit_carriesOut .schedCancel tag h rfl fun _ => o)

end

section
variable (p : Port) (tag : Byte) {s : State}

/-! ### SCHED_SWAP: its four refusals in order, and its start (R111) -/

theorem doSchedSwap_pending (h : s.sched.swapPending = true) :
    doSchedSwap { port := p, code := 0x32, tag := tag, args := [] } s = answered p 0x32 tag .swapPending [] s := by
  rw [doSchedSwap, if_pos h]
  rfl

/-- With no swap pending the staged bank's entries, the tag and the table's places decide, in that order. -/
theorem doSchedSwap_idle [Decidable (capable (s.sched.bank s.sched.staged))] [Decidable (tagRuns s p tag)]
    (h : s.sched.swapPending = false) :
    doSchedSwap { port := p, code := 0x32, tag := tag, args := [] } s =
      if ¬capable (s.sched.bank s.sched.staged) then answered p 0x32 tag .badSchedule [] s
      else if tagRuns s p tag then answered p 0x32 tag .tagInUse [] s
      else if 4 ≤ (tableEntries s).length then answered p 0x32 tag .busy [] s
      else
        answered p 0x32 tag .started [s.sched.staged.code]
          (begun p 0x32 tag (.bank s.sched.staged) { s with sched := { s.sched with swapPending := true } }) := by
  simp only [doSchedSwap, h, Bool.false_eq_true, if_false, ← bankCapable_iff, ← tagInUse_iff, tableSize_eq,
    Config.inFlightPlaces, refuse_eq, reply_eq_answered, Bool.not_eq_true, Bool.not_eq_true']
  rfl

/-! ### SCHED_CANCEL (R113) -/

theorem doSchedCancel_noSwap (h : s.sched.swapPending = false) :
    doSchedCancel { port := p, code := 0x33, tag := tag, args := [] } s = answered p 0x33 tag .noSwap [] s := by
  rw [doSchedCancel, if_neg (ne_true_of_eq_false h)]
  rfl

theorem doSchedCancel_drops (h : s.sched.swapPending = true) {o : Operation}
    (ho : onlyOperation s (.bank s.sched.staged) o) :
    doSchedCancel { port := p, code := 0x33, tag := tag, args := [] } s =
      reported o .aborted []
        (answered p 0x33 tag .ok [] { s with sched := { s.sched with swapPending := false } }) := by
  have hsame : onlyOperation (answered p 0x33 tag .ok [] { s with sched := { s.sched with swapPending := false } })
      (.bank s.sched.staged) o := ho
  rw [doSchedCancel, if_pos h, reply_eq_answered, complete_eq_reported hsame]

end

/-- Settles O41: a pending swap refuses SCHED_SWAP and lets SCHED_CANCEL report the swap's operation aborted; with none
pending the bank that is not active is the staged one, and the tests of `doSchedSwap_idle` decide. -/
theorem schedSwapAndCancel : Obligations.SchedSwapAndCancel := by
  classical
  intro s p tag ht ho
  refine ⟨fun hp => ⟨?pending, fun x o hx hop => ?drops⟩, fun hp => ⟨?noSwap, fun x v hx hv => ?idle⟩⟩
  case pending => rw [exec_schedSwap tag ht ho, doSchedSwap_pending (s := leaseRenewed p s) p tag hp]
  case drops =>
    rw [← staged_eq_of_ne_active hx] at hop
    rw [exec_schedCancel tag ht ho, doSchedCancel_drops (s := leaseRenewed p s) p tag hp hop, leaseRenewed_sched]
  case noSwap => rw [exec_schedCancel tag ht ho, doSchedCancel_noSwap (s := leaseRenewed p s) p tag hp]
  case idle =>
    have hstaged : s.sched.staged = x := staged_eq_of_ne_active hx
    have hbank : s.sched.bank x = v := (bank_eq_ite s.sched x).trans hv.symm
    have htag : tagRuns (leaseRenewed p s) p tag ↔ tagRuns s p tag := Iff.rfl
    have htable : tableEntries (leaseRenewed p s) = tableEntries s := rfl
    rw [exec_schedSwap tag ht ho, doSchedSwap_idle (s := leaseRenewed p s) p tag hp]
    simp only [leaseRenewed_sched, hstaged, hbank, htag, htable, code_eq_ite]
    refine ⟨fun hc => ?_, fun hc hr => ?_, fun hc hr hb => ?_, fun hc hr hb => ?_⟩
    · rw [if_pos hc]
    · rw [if_neg (not_not_intro hc), if_pos hr]
    · rw [if_neg (not_not_intro hc), if_neg hr, if_pos hb]
    · rw [if_neg (not_not_intro hc), if_neg hr, if_neg (Nat.not_le.mpr hb)]

end Sys2Proof.Machine
end

section
/-! PROOF. GROUP_SET and GROUP_GET (R117, R118). -/

namespace Sys2Proof.Machine

section
variable {s : State} {p : Port} (tag : Byte)

theorem exec_groupSet (h : takesAtOnce s p) (o : ownedBy s p) (g m l b : Byte) :
    exec (.groupSet p tag [g, m, l, b]) s =
      .next (doGroupSet { port := p, code := 0x34, tag := tag, args := [g, m, l, b] } (leaseRenewed p s)) :=
  congrArg Host.Outcome.next (submit_carriesOut .groupSet tag h rfl fun _ => o)

theorem exec_groupGet (h : takesAtOnce s p) (g : Byte) :
    exec (.groupGet p tag [g]) s =
      .next (doGroupGet { port := p, code := 0x35, tag := tag, args := [g] } (leaseRenewed p s)) :=
  congrArg Host.Outcome.next (submit_carriesOut .groupGet tag h rfl (fun e => nomatch e))

end

/-- The two-octet argument after the first octet, and the octet after it (R9). -/
@[simp] theorem Request.arg16_one (p : Port) (code tag a m l : Byte) (rest : Octets) :
    Request.arg16 { port := p, code := code, tag := tag, args := a :: m :: l :: rest } 1 =
      m.toNat * 256 + l.toNat := rfl
@[simp] theorem Request.arg_three (p : Port) (code tag a b c d : Byte) (rest : Octets) :
    Request.arg { port := p, code := code, tag := tag, args := a :: b :: c :: d :: rest } 3 = d.toNat := rfl

section
variable (p : Port) (tag : Byte) (s : State) {g m l b : Byte}

/-! ### GROUP_SET by case (R117) -/

theorem doGroupSet_noGroup (h : 15 < g.toNat) :
    doGroupSet { port := p, code := 0x34, tag := tag, args := [g, m, l, b] } s =
      answered p 0x34 tag .badArgument [] s := by
  simp only [doGroupSet, Request.arg_zero, fin?_eq_none (show 16 ≤ g.toNat from h), refuse_eq, reply_eq_answered]

/-- What GROUP_SET of one of the sixteen groups does, by the limit and the permission that it is given. -/
theorem doGroupSet_group (k : Group) (h : g.toNat = k.val) :
    doGroupSet { port := p, code := 0x34, tag := tag, args := [g, m, l, b] } s =
      if m.toNat * 256 + l.toNat < 1 ∨ 1024 < m.toNat * 256 + l.toNat ∨ 1 < b.toNat then
        answered p 0x34 tag .badArgument [] s
      else if m.toNat * 256 + l.toNat < s.groups[k].queue.length then answered p 0x34 tag .quotaInUse [] s
      else
        answered p 0x34 tag .ok []
          { s with
            groups := upd s.groups k fun q =>
              { q with limit := m.toNat * 256 + l.toNat, borrow := decide (b = 1) } } := by
  have hyes : isYesNo b.toNat = false ↔ 1 < b.toNat := by simp [isYesNo]
  have hone : (b.toNat == 1) = decide (b = 1) := by
    rw [Bool.eq_iff_iff, beq_iff_eq, decide_eq_true_eq]
    exact ⟨fun e => BitVec.eq_of_toNat_eq e, fun e => e ▸ rfl⟩
  simp only [doGroupSet, Request.arg_zero, Request.arg16_one, Request.arg_three, h, fin?_val, hyes, hone, modGroup,
    refuse_eq, reply_eq_answered]

/-! ### GROUP_GET by case (R118) -/

theorem doGroupGet_noGroup (h : 15 < g.toNat) :
    doGroupGet { port := p, code := 0x35, tag := tag, args := [g] } s = answered p 0x35 tag .badArgument [] s := by
  simp only [doGroupGet, Request.arg_zero, fin?_eq_none (show 16 ≤ g.toNat from h), refuse_eq, reply_eq_answered]

theorem doGroupGet_group (k : Group) :
    doGroupGet { port := p, code := 0x35, tag := tag, args := [BitVec.ofNat 8 k.val] } s =
      answered p 0x35 tag .ok (groupGetResult s k) s := by
  have hk : (BitVec.ofNat 8 k.val).toNat = k.val := toNat_ofNat_octet (by omega)
  simp only [doGroupGet, Request.arg_zero, hk, fin?_val, reply_eq_answered]

/-- The nine octets of a group, with its slots counted in the active bank. -/
theorem groupGetResult_eq (k : Group) :
    groupGetResult s k =
      [BitVec.ofNat 8 k.val] ++ o16 s.groups[k].limit ++ [if s.groups[k].borrow then 1 else 0] ++
        o16 s.groups[k].queue.length ++
        [BitVec.ofNat 8 ((match s.sched.active with
           | .a => s.sched.bankA
           | .b => s.sched.bankB).toList.countP fun (e : SlotEntry) => decide (e.kind = SlotKind.group k))] ++
        (match s.groups[k].queue with
         | [] => [0, 0]
         | r :: _ => [1, BitVec.ofNat 8 r.entry.val]) := by
  have hslots : groupSlots s k =
      (match s.sched.active with
       | .a => s.sched.bankA
       | .b => s.sched.bankB).toList.countP fun (e : SlotEntry) => decide (e.kind = SlotKind.group k) := by
    unfold groupSlots
    cases s.sched.active <;> rfl
  rw [groupGetResult, hslots]
  cases s.groups[k].queue <;> simp [yn, o8]

end

/-- Settles O42: each command reaches its `do` function, a number above 15 names no group, and for a group the tests of
`doGroupSet_group` decide in the order of R117. -/
theorem groupSetAndGet : Obligations.GroupSetAndGet := by
  intro s p tag ht
  refine ⟨fun g m l b ho => ⟨fun hout => ?setRefused, fun k hk h1 h1024 hb => ?setGroup⟩, fun g hg => ?getNoGroup,
    fun k => ?getGroup⟩
  case setRefused =>
    rw [exec_groupSet tag ht ho]
    by_cases hg : 15 < g.toNat
    · rw [doGroupSet_noGroup p tag _ hg]
    · rw [doGroupSet_group p tag _ ⟨g.toNat, by omega⟩ rfl, if_pos (hout.resolve_left hg)]
  case setGroup =>
    have hin : ¬(m.toNat * 256 + l.toNat < 1 ∨ 1024 < m.toNat * 256 + l.toNat ∨ 1 < b.toNat) := by omega
    rw [exec_groupSet tag ht ho, doGroupSet_group p tag _ k hk, if_neg hin, leaseRenewed_groups]
    exact ⟨fun hbelow => by rw [if_pos hbelow], fun hfits => by rw [if_neg (Nat.not_lt.mpr hfits)]⟩
  case getNoGroup => rw [exec_groupGet tag ht, doGroupGet_noGroup p tag _ hg]
  case getGroup =>
    rw [exec_groupGet tag ht, doGroupGet_group]
    exact next_answered_congr (groupGetResult_eq (leaseRenewed p s) k)

end Sys2Proof.Machine
end

section
/-! PROOF. IDENTIFY, CYCLE_GET and NOTICE_GET (R159, R140, R186). -/

namespace Sys2Proof.Machine

/-- The lease renewal leaves the timer, the follower and the notices as they are (R144 step 2). -/
@[simp] theorem leaseRenewed_timer (p : Port) (s : State) : (leaseRenewed p s).timer = s.timer := rfl
@[simp] theorem leaseRenewed_follower (p : Port) (s : State) : (leaseRenewed p s).follower = s.follower := rfl
@[simp] theorem leaseRenewed_notices (p : Port) (s : State) : (leaseRenewed p s).notices = s.notices := rfl

/-! ### The results follow what the lease renewal keeps -/

theorem cycleGetResult_leaseRenewed (p : Port) (s : State) :
    cycleGetResult (leaseRenewed p s) = cycleGetResult s := by
  simp only [cycleGetResult, leaseRenewed_timer, leaseRenewed_follower]

theorem noticeGetResult_leaseRenewed (p : Port) (s : State) :
    noticeGetResult (leaseRenewed p s) = noticeGetResult s := by
  simp only [noticeGetResult, leaseRenewed_notices]

/-! ### The three commands, from any port -/

section
variable {s : State} {p : Port} (tag : Byte)

theorem exec_identify (h : takesAtOnce s p) :
    exec (.identify p tag []) s =
      .next (answered p 0x01 tag .ok (identity s.engine.unitAddr) (leaseRenewed p s)) :=
  congrArg Host.Outcome.next (submit_carriesOut .identify tag h rfl (fun e => nomatch e))

theorem exec_cycleGet (h : takesAtOnce s p) :
    exec (.cycleGet p tag []) s = .next (answered p 0x42 tag .ok (cycleGetResult s) (leaseRenewed p s)) := by
  rw [← cycleGetResult_leaseRenewed p s]
  exact congrArg Host.Outcome.next (submit_carriesOut .cycleGet tag h rfl (fun e => nomatch e))

theorem exec_noticeGet (h : takesAtOnce s p) :
    exec (.noticeGet p tag []) s = .next (answered p 0x61 tag .ok (noticeGetResult s) (leaseRenewed p s)) := by
  rw [← noticeGetResult_leaseRenewed p s]
  exact congrArg Host.Outcome.next (submit_carriesOut .noticeGet tag h rfl (fun e => nomatch e))

end

/-- Settles O29: each command answers with its result function, whose octets are compared with the statement's by follow
mode and last phase error for CYCLE_GET, and by whether a record waits for NOTICE_GET. -/
theorem unitTimerAndNoticesAreReported : Obligations.UnitTimerAndNoticesAreReported := by
  intro s p tag ht
  refine ⟨exec_identify tag ht, (exec_cycleGet tag ht).trans (next_answered_congr ?timer),
    (exec_noticeGet tag ht).trans (next_answered_congr ?notices)⟩
  case timer =>
    rw [cycleGetResult]
    cases s.follower.mode <;> cases s.follower.lastPhase <;> rfl
  case notices =>
    rw [noticeGetResult]
    cases s.notices.waiting <;> rfl

end Sys2Proof.Machine
end

section
/-! PROOF. Owner commands of other ports, and RELEASE (R145, R147, R155). -/

namespace Sys2Proof.Machine

/-- A request from a port that does not own the unit renews no lease (R144 step 2). -/
theorem leaseRenewed_of_not_ownedBy {s : State} {p : Port} (h : ¬ownedBy s p) : leaseRenewed p s = s := by
  have hsame : (s.engine.owner.map fun o => if o.port = p then { o with remaining := o.lease } else o) =
      s.engine.owner := by
    cases ho : s.engine.owner with
    | none => rfl
    | some o =>
      have hport : o.port ≠ p := fun e => h (by rw [ownedBy, ho, Option.map_some, e])
      rw [Option.map_some, if_neg hport]
  rw [leaseRenewed, hsame]

/-- An owner command that fits in length is refused to a port that does not own the unit, and nothing else changes
(R145 step 3, R147). -/
theorem submit_refusesOthers (c : Command) {p : Port} (tag : Byte) {args : Octets} {s : State} (h : takesAtOnce s p)
    (hl : lengthFits c args = true) (hc : ownerCommand c args = true) (ho : ¬ownedBy s p) :
    submit c p tag args s = answered p c.code tag .notOwner [] s := by
  obtain ⟨hrun, hup, hmgmt, hreq, hrep, hheld⟩ := h
  have hother : (s.engine.ownerPort != some p) = true := bne_iff_ne.mpr ho
  rw [submit_reaches c p tag args s hrun hup hmgmt, requestReaches_ready _ s hreq hrep hheld, handle_code, hl, hc,
    hother, renewLease_eq_leaseRenewed, leaseRenewed_of_not_ownedBy ho]
  rfl

section
variable {s : State} {p : Port} (tag : Byte)

/-- The owner that RELEASE ends is the one whose lease the take has renewed, so the renewal leaves no trace. -/
theorem exec_release_owner (h : takesAtOnce s p) (o : ownedBy s p) :
    exec (.release p tag []) s =
      .next (answered p 0x03 tag .ok [] { s with engine := { s.engine with owner := none } }) :=
  congrArg Host.Outcome.next (submit_carriesOut .release tag h rfl fun _ => o)

theorem exec_release_other (h : takesAtOnce s p) (o : ¬ownedBy s p) :
    exec (.release p tag []) s = .next (answered p 0x03 tag .notOwner [] s) :=
  congrArg Host.Outcome.next (submit_refusesOthers .release tag h rfl rfl o)

end

/-- Settles O31: the ownership check passes the owner's RELEASE and refuses any other. -/
theorem releaseEndsOwnership : Obligations.ReleaseEndsOwnership :=
  fun _ _ tag ht => ⟨exec_release_owner tag ht, exec_release_other tag ht⟩

end Sys2Proof.Machine
end

section
/-! PROOF. The Counter Block's snapshot: what the lease renewal leaves of it, and the end of it by SNAP_DROP (R144,
R173). -/

namespace Sys2Proof.Machine

/-- The lease renewal leaves the ports, the flow entries, the counters and the snapshot as they are (R144 step 2). -/
@[simp] theorem leaseRenewed_ports (p : Port) (s : State) : (leaseRenewed p s).ports = s.ports := rfl
@[simp] theorem leaseRenewed_flows (p : Port) (s : State) : (leaseRenewed p s).flows = s.flows := rfl
@[simp] theorem leaseRenewed_counters (p : Port) (s : State) : (leaseRenewed p s).counters = s.counters := rfl
@[simp] theorem leaseRenewed_snapshot (p : Port) (s : State) : (leaseRenewed p s).snapshot = s.snapshot := rfl

/-- A port holds the snapshot when there is one and its holder is the port (R169). -/
theorem holder_eq_some_iff {s : State} {p : Port} :
    s.snapshot.map Snapshot.holder = some p ↔ ∃ x, s.snapshot = some x ∧ x.holder = p := Option.map_eq_some_iff

section
variable (p : Port) (tag : Byte) {s : State}

theorem exec_snapDrop (h : takesAtOnce s p) :
    exec (.snapDrop p tag []) s =
      .next (doSnapDrop { port := p, code := 0x52, tag := tag, args := [] } (leaseRenewed p s)) :=
  congrArg Host.Outcome.next (submit_carriesOut .snapDrop tag h rfl (fun e => nomatch e))

theorem doSnapDrop_refuses (h : s.snapshot.map Snapshot.holder ≠ some p) :
    doSnapDrop { port := p, code := 0x52, tag := tag, args := [] } s = answered p 0x52 tag .noSnapshot [] s := by
  rw [doSnapDrop, if_neg h, refuse_eq, reply_eq_answered]

theorem doSnapDrop_drops (h : s.snapshot.map Snapshot.holder = some p) :
    doSnapDrop { port := p, code := 0x52, tag := tag, args := [] } s =
      answered p 0x52 tag .ok [] { s with snapshot := none } := by
  rw [doSnapDrop, if_pos h, reply_eq_answered]

end

/-- Settles O47: the command asks only whether the request's port holds the snapshot. -/
theorem snapDropEndsTheSnapshot : Obligations.SnapDropEndsTheSnapshot := by
  intro s p tag ht
  refine ⟨fun hother => ?refused, fun x hx hp => ?dropped⟩
  case refused =>
    have hnot : s.snapshot.map Snapshot.holder ≠ some p := by
      intro hholds
      obtain ⟨x, hx, hp⟩ := holder_eq_some_iff.mp hholds
      rcases hother with hnone | ⟨y, hy, hne⟩
      · exact Option.some_ne_none x (hx.symm.trans hnone)
      · exact hne (Option.some.inj (hy.symm.trans hx) ▸ hp)
    rw [exec_snapDrop p tag ht, doSnapDrop_refuses (s := leaseRenewed p s) p tag hnot]
  case dropped =>
    rw [exec_snapDrop p tag ht, doSnapDrop_drops (s := leaseRenewed p s) p tag (holder_eq_some_iff.mpr ⟨x, hx, hp⟩)]

end Sys2Proof.Machine
end

section
/-! PROOF. SNAP_TAKE (R144, R170, R171). -/

namespace Sys2Proof.Machine

/-! ### The command reaches the Counter Block -/

/-- A request that waits alone, fits in length and passes the ownership check reaches its command when it is taken,
after the lease renewal (R144, R145). -/
theorem takeRequest_carriesOut (c : Command) {p : Port} {tag : Byte} {args : Octets} {s : State}
    (h : waitsAlone s { port := p, code := c.code, tag := tag, args := args }) (hl : lengthFits c args = true)
    (ho : ownerCommand c args = true → ownedBy s p) :
    takeRequest s =
      carryOut c { port := p, code := c.code, tag := tag, args := args } (leaseRenewed p (requesting [] s)) := by
  obtain ⟨hreq, hready⟩ := h
  have htake : takeRequest s = handle { port := p, code := c.code, tag := tag, args := args } (requesting [] s) := by
    simp only [takeRequest, hreq, (engineReady_iff s).mpr hready, if_true]
    rfl
  have howner : ¬(ownerCommand c args && (requesting [] s).engine.ownerPort != some p) = true := by
    rw [Bool.and_eq_true, bne_iff_ne]
    exact fun hother => hother.2 (ho hother.1)
  rw [htake, handle_code, hl, if_neg howner, renewLease_eq_leaseRenewed]
  rfl

/-- SNAP_TAKE is an owner command when its clear argument is not 00h (R170). -/
theorem ownerCommand_snapTake (c n : Byte) : ownerCommand .snapTake [c, n] = true ↔ c ≠ 0 := bne_iff_ne

theorem ownedBy_of_clear {clear : Bool} {s : State} {p : Port} {n : Byte} (ho : clear = true → ownedBy s p)
    (h : ownerCommand .snapTake [yn clear, n] = true) : ownedBy s p := by
  cases clear with
  | false => exact absurd rfl ((ownerCommand_snapTake _ _).mp h)
  | true => exact ho rfl

section
variable {s : State} {p : Port} (tag : Byte) {c : Byte} (n : Byte)

theorem exec_snapTake (h : takesAtOnce s p) (ho : ownerCommand .snapTake [c, n] = true → ownedBy s p) :
    exec (.snapTake p tag [c, n]) s =
      .next (doSnapTake { port := p, code := 0x50, tag := tag, args := [c, n] } (leaseRenewed p s)) :=
  congrArg Host.Outcome.next (submit_carriesOut .snapTake tag h rfl ho)

theorem exec_requestTake_snapTake (h : waitsAlone s { port := p, code := 0x50, tag := tag, args := [c, n] })
    (ho : ownerCommand .snapTake [c, n] = true → ownedBy s p) :
    exec .requestTake s =
      .next (doSnapTake { port := p, code := 0x50, tag := tag, args := [c, n] }
        (leaseRenewed p (requesting [] s))) :=
  congrArg Host.Outcome.next (takeRequest_carriesOut .snapTake h rfl ho)

end

/-! ### SNAP_TAKE by case (R170, R171) -/

theorem portUp_iff {s : State} {p : Port} : portUp s p = true ↔ s.ports[p].rx.st = .up := beq_iff_eq

theorem heldByOther_iff {s : State} {p : Port} :
    heldByOther s p = true ↔ ∃ x, s.snapshot = some x ∧ x.holder ≠ p := by
  unfold heldByOther
  cases s.snapshot <;> simp

/-- The port of a request that is taken at once is UP. -/
theorem takesAtOnce_up {s : State} {p : Port} (h : takesAtOnce s p) : s.ports[p].rx.st = .up := by
  obtain ⟨-, hup, -⟩ := h
  exact hup

/-- A yes/no octet is a legal argument (R35). -/
theorem isYesNo_yn (b : Bool) : isYesNo (yn b).toNat = true := by cases b <;> rfl

theorem octet_toNat_eq_zero {n : Byte} : n.toNat = 0 ↔ n = 0 := BitVec.toNat_inj (y := 0)

/-- An argument of 00h selects the default lifetime of eight ticks (R170). -/
theorem lifetimeOf_toNat (n : Byte) : lifetimeOf n.toNat = if n = 0 then 8 else n.toNat := by
  simp only [lifetimeOf, octet_toNat_eq_zero, Config.defaultLifetime]

/-- The snapshot that SNAP_TAKE makes: cycle, slot, every counter and every key record as they are. -/
theorem snapshotOf_eq (p : Port) (code tag n : Byte) (clear : Bool) (s : State) :
    snapshotOf { port := p, code := code, tag := tag, args := [yn clear, n] } s =
      { holder := p, cycle := s.timer.cycle, slot := s.timer.slot, cleared := clear, lifetime := lifetimeOf n.toNat,
        remaining := lifetimeOf n.toNat, counters := s.counters, keys := s.flows.map (Option.map keyRecord) } := by
  cases clear <;> rfl

section
variable (p : Port) (tag : Byte) {s : State} {c : Byte} (n : Byte)

theorem doSnapTake_refusesClear (h : 1 < c.toNat) :
    doSnapTake { port := p, code := 0x50, tag := tag, args := [c, n] } s = answered p 0x50 tag .badArgument [] s := by
  have hno : isYesNo c.toNat = false := decide_eq_false (Nat.not_le.mpr h)
  simp [doSnapTake, hno]

/-- A request whose port is not UP at its take is refused, whatever its arguments. -/
theorem doSnapTake_down (h : s.ports[p].rx.st ≠ .up) :
    doSnapTake { port := p, code := 0x50, tag := tag, args := [c, n] } s = answered p 0x50 tag .badArgument [] s := by
  have hdown : portUp s p = false := Bool.eq_false_iff.mpr (mt portUp_iff.mp h)
  simp [doSnapTake, hdown]

/-- A port that is UP and gives a legal clear argument is refused only for another port's snapshot. -/
theorem doSnapTake_held (clear : Bool) (hup : s.ports[p].rx.st = .up) (h : heldByOther s p = true) :
    doSnapTake { port := p, code := 0x50, tag := tag, args := [yn clear, n] } s =
      answered p 0x50 tag .snapHeld [] s := by
  simp [doSnapTake, isYesNo_yn, portUp_iff.mpr hup, h]

theorem doSnapTake_copies (clear : Bool) (hup : s.ports[p].rx.st = .up) (h : heldByOther s p = false) :
    doSnapTake { port := p, code := 0x50, tag := tag, args := [yn clear, n] } s =
      answered p 0x50 tag .ok (o32 s.timer.cycle.toNat ++ [o8 s.timer.slot.val, o8 (lifetimeOf n.toNat)])
        { s with
          snapshot := some
            { holder := p, cycle := s.timer.cycle, slot := s.timer.slot, cleared := clear,
              lifetime := lifetimeOf n.toNat, remaining := lifetimeOf n.toNat, counters := s.counters,
              keys := s.flows.map (Option.map keyRecord) }
          counters := if clear then Counters.zero else s.counters } := by
  have hclear : (yn clear).toNat = 1 ↔ clear = true := by cases clear <;> decide
  simp only [doSnapTake, Request.arg_zero, isYesNo_yn, portUp_iff.mpr hup, h, Bool.not_true, Bool.false_eq_true,
    if_false, snapshotOf_eq, hclear, reply_eq_answered]

end

/-- Settles O45: the request, taken from the queue or at once, reaches `doSnapTake`, whose tests are the clear argument,
the port's state and another holder, in that order. -/
theorem snapTakeCopiesEveryCounter : Obligations.SnapTakeCopiesEveryCounter := by
  refine ⟨fun s p tag n clear hw ho hdown => ?down, fun s p tag n clear ht ho =>
    ⟨fun c hc howned => ?clearOutside, fun x hx hne => ?held, fun hfree life hlife => ?copied⟩⟩
  case down =>
    rw [exec_requestTake_snapTake tag n hw (ownedBy_of_clear ho),
      doSnapTake_down (s := leaseRenewed p (requesting [] s)) p tag n hdown]
  case clearOutside => rw [exec_snapTake tag n ht fun _ => howned, doSnapTake_refusesClear p tag n hc]
  case held =>
    have hother : heldByOther s p = true := heldByOther_iff.mpr ⟨x, hx, hne⟩
    exact (exec_snapTake tag n ht (ownedBy_of_clear ho)).trans
      (congrArg _ (doSnapTake_held (s := leaseRenewed p s) p tag n clear (takesAtOnce_up ht) hother))
  case copied =>
    have hnone : heldByOther s p = false := by
      rw [Bool.eq_false_iff, ne_eq, heldByOther_iff]
      rintro ⟨x, hx, hne⟩
      simp [hx, hne] at hfree
    rw [hlife, ← lifetimeOf_toNat]
    exact (exec_snapTake tag n ht (ownedBy_of_clear ho)).trans
      (congrArg _ (doSnapTake_copies (s := leaseRenewed p s) p tag n clear (takesAtOnce_up ht) hnone))

end Sys2Proof.Machine
end

section
/-! PROOF. SNAP_READ (R172). -/

namespace Sys2Proof.Machine

section
variable {s : State} {p : Port} (tag : Byte)

theorem exec_snapRead (h : takesAtOnce s p) (c m l part : Byte) :
    exec (.snapRead p tag [c, m, l, part]) s =
      .next (doSnapRead { port := p, code := 0x51, tag := tag, args := [c, m, l, part] } (leaseRenewed p s)) :=
  congrArg Host.Outcome.next (submit_carriesOut .snapRead tag h rfl (fun e => nomatch e))

end

/-! ### The blocks that there are -/

/-- The model's test of section, subject and part says what the statement's words say. -/
theorem blockExists_iff (c part : Byte) (n : Nat) : blockExists c.toNat n part.toNat = true ↔ blockNamed c n part := by
  have hoctet (a k : Byte) : a = k ↔ a.toNat = k.toNat := BitVec.toNat_inj.symm
  simp only [blockNamed, hoctet]
  generalize c.toNat = k
  match k with
  | 0 | 1 | 2 | 3 | 4 | 5 => simp [blockExists]
  | k + 6 => simp [blockExists]

/-- A number names a member of a range when it is below the bound. -/
theorem fin?_isSome (n k : Nat) : (fin? n k).isSome = decide (n < k) := by
  by_cases h : n < k <;> simp [fin?, h]

/-- A snapshot has a block for each section, subject and part that pass the test, and for no others. -/
theorem blockOctets_isSome (x : Snapshot) (c n part : Nat) :
    (blockOctets x c n part).isSome = blockExists c n part := by
  rw [Bool.eq_iff_iff]
  match c with
  | 0 | 5 => simp [blockOctets, blockExists]
  | 1 | 2 | 3 | 4 => simp [blockOctets, blockExists, apply_ite Option.isSome, fin?_isSome, Nat.lt_succ_iff, and_comm]
  | c + 6 => rfl

/-! ### The octets of each block (R172) -/

/-- Part 00h of a port block is positions 1 to 12, and the other part the rest (R164). -/
theorem portBlock_toNat (k : PortCounters) (part : Byte) :
    portBlock k part.toNat = countOctets (if part = 0 then k.list.take 12 else k.list.drop 12) := by
  simp only [portBlock, octet_toNat_eq_zero, apply_ite countOctets]

section
variable (x : Snapshot)

theorem blockOctets_header : blockOctets x 0 0 0 = some (headerOctets x) := rfl

theorem blockOctets_port (q : Port) {part : Nat} (h : part ≤ 1) :
    blockOctets x 1 q.val part = some (portBlock x.counters.ports[q] part) := by
  simp [blockOctets, h]

theorem blockOctets_lane (l : Lane) :
    blockOctets x 2 l.val 0 = some (countOctets x.counters.lanes[l].list) := by
  simp [blockOctets]

theorem blockOctets_flow (i : FlowIdx) :
    blockOctets x 3 i.val 0 = some (keyOctets x.keys[i] ++ countOctets x.counters.flows[i].list) := by
  simp [blockOctets]

theorem blockOctets_group (g : Group) :
    blockOctets x 4 g.val 0 = some (countOctets x.counters.groups[g].list) := by
  simp [blockOctets]

theorem blockOctets_unit : blockOctets x 5 0 0 = some (countOctets x.counters.unit.list) := rfl

end

/-! ### SNAP_READ by case (R172) -/

section
variable (p : Port) (tag : Byte) {s : State} {c m l part : Byte}

theorem doSnapRead_noBlock (h : ¬blockNamed c (m.toNat * 256 + l.toNat) part) :
    doSnapRead { port := p, code := 0x51, tag := tag, args := [c, m, l, part] } s =
      answered p 0x51 tag .badArgument [] s := by
  rw [← blockExists_iff] at h
  simp [doSnapRead, h]

theorem doSnapRead_otherPort (h : blockNamed c (m.toNat * 256 + l.toNat) part)
    (hp : s.snapshot.map Snapshot.holder ≠ some p) :
    doSnapRead { port := p, code := 0x51, tag := tag, args := [c, m, l, part] } s =
      answered p 0x51 tag .noSnapshot [] s := by
  rw [← blockExists_iff] at h
  cases hx : s.snapshot with
  | none => simp [doSnapRead, h, hx]
  | some x =>
    have hne : x.holder ≠ p := fun e => hp (holder_eq_some_iff.mpr ⟨x, hx, e⟩)
    simp [doSnapRead, h, hx, hne]

theorem doSnapRead_block {x : Snapshot} {block : Octets} (hx : s.snapshot = some x) (hp : x.holder = p)
    (hb : blockOctets x c.toNat (m.toNat * 256 + l.toNat) part.toNat = some block) :
    doSnapRead { port := p, code := 0x51, tag := tag, args := [c, m, l, part] } s =
      answered p 0x51 tag .ok ([c, m, l, part] ++ block) s := by
  have hexists : blockExists c.toNat (m.toNat * 256 + l.toNat) part.toNat = true := by
    rw [← blockOctets_isSome x, hb, Option.isSome_some]
  simp [doSnapRead, hexists, hx, hp, hb]

end

/-- Settles O46: the test for a block comes first and the holder second; then the block is the one that `blockOctets`
gives for the section, compared with the statement's octets section by section. -/
theorem snapReadGivesTheBlock : Obligations.SnapReadGivesTheBlock := by
  intro s p tag c m l part ht n hn
  subst hn
  refine ⟨fun h => ?noBlock, fun h hp => ?otherPort, fun x hx hp block => ?holder⟩
  case noBlock => rw [exec_snapRead tag ht, doSnapRead_noBlock p tag h]
  case otherPort => rw [exec_snapRead tag ht, doSnapRead_otherPort (s := leaseRenewed p s) p tag h hp]
  case holder =>
    have hread (hb : blockOctets x c.toNat (m.toNat * 256 + l.toNat) part.toNat = some block) :
        exec (.snapRead p tag [c, m, l, part]) s =
          .next (answered p 0x51 tag .ok ([c, m, l, part] ++ block) (leaseRenewed p s)) :=
      (exec_snapRead tag ht c m l part).trans
        (congrArg _ (doSnapRead_block (s := leaseRenewed p s) p tag hx hp hb))
    refine ⟨?header, fun q => ?port, fun q => ?lane, fun i => ?flow, fun g => ?group, ?unit⟩
    all_goals
      rintro rfl hsubject hpart rfl
      refine hread ?_
      rw [hsubject]
    case header => subst hp hpart; exact blockOctets_header x
    case port => exact (blockOctets_port x q hpart).trans (congrArg some (portBlock_toNat _ part))
    case lane => subst hpart; exact blockOctets_lane x q
    case flow =>
      subst hpart
      refine (blockOctets_flow x i).trans ?_
      cases x.keys[i] <;> rfl
    case group => subst hpart; exact blockOctets_group x g
    case unit => subst hpart; exact blockOctets_unit x

end Sys2Proof.Machine
end

section
/-! PROOF. A raise of a notice, by the enable set and the pending list (R179, R181). -/

namespace Sys2Proof.Machine

theorem NoticeRec.about_iff {k : NoticeKind} {subject : Byte} {n : NoticeRec} :
    n.about k subject = true ↔ n.kind = k ∧ n.subject = subject := by
  simp [NoticeRec.about]

/-- A list without a record of this kind and subject is not changed by the count of one occurrence more. -/
theorem map_about_of_none {k : NoticeKind} {subject : Byte} (f : NoticeRec → NoticeRec) {l : List NoticeRec}
    (h : ∀ x ∈ l, ¬(x.kind = k ∧ x.subject = subject)) :
    (l.map fun x => if x.about k subject then f x else x) = l :=
  (List.map_congr_left fun x hx => if_neg (mt NoticeRec.about_iff.mp (h x hx))).trans (List.map_id' l)

section
variable {k : NoticeKind} {subject : Byte} (detail : Octets) (cycle : CycleNum)

/-- With no record of this kind and subject pending, a raise opens one at the tail. -/
theorem applyRaise_opens {l : List NoticeRec} (h : ∀ x ∈ l, ¬(x.kind = k ∧ x.subject = subject)) :
    applyRaise k subject detail cycle l = l ++ [openedRecord k subject detail cycle] := by
  have hnone : ¬l.any (NoticeRec.about k subject) = true := by
    rw [List.any_eq_true]
    exact fun ⟨x, hx, habout⟩ => h x hx (NoticeRec.about_iff.mp habout)
  rw [applyRaise, if_neg hnone]
  rfl

/-- With one record of this kind and subject pending, a raise adds an occurrence to it in its place. -/
theorem applyRaise_adds {older younger : List NoticeRec} {n : NoticeRec} (hk : n.kind = k) (hs : n.subject = subject)
    (h : ∀ x ∈ older ++ younger, ¬(x.kind = k ∧ x.subject = subject)) :
    applyRaise k subject detail cycle (older ++ n :: younger) =
      older ++ { n with occurrences := min (n.occurrences + 1) 65535 } :: younger := by
  have habout : n.about k subject = true := NoticeRec.about_iff.mpr ⟨hk, hs⟩
  have hany : (older ++ n :: younger).any (NoticeRec.about k subject) = true :=
    List.any_eq_true.mpr ⟨n, List.mem_append_cons_self, habout⟩
  rw [applyRaise, if_pos hany, List.map_append, List.map_cons, if_pos habout,
    map_about_of_none _ fun x hx => h x (List.mem_append_left _ hx),
    map_about_of_none _ fun x hx => h x (List.mem_append_right _ hx)]

end

/-- Settles O24: an enabled kind changes the pending list alone, which `applyRaise` extends or counts in place; a
disabled kind changes the suppressed counter alone. -/
theorem raiseOpensAddsOrIsSuppressed : Obligations.RaiseOpensAddsOrIsSuppressed := by
  intro s k subject detail
  refine ⟨fun ⟨henabled, hnone⟩ => ?opens, fun henabled older n younger hlist hk hs hothers => ?adds,
    fun hdisabled => ?suppressed⟩
  case opens => rw [raise_enabled k subject detail s henabled, applyRaise_opens detail _ hnone]
  case adds => rw [raise_enabled k subject detail s henabled, hlist, applyRaise_adds detail _ hk hs hothers]
  case suppressed => exact raise_disabled k subject detail s hdisabled

end Sys2Proof.Machine
end

section
/-! PROOF. NOTICE_ENABLE (R184, R185). -/

namespace Sys2Proof.Machine

/-! ### The enable set and the pending list after the command (R185) -/

/-- The enable set after the command is determined kind by kind. -/
theorem eq_setKinds {codes : Octets} {value : Bool} {v after : Vector Bool 14}
    (h : ∀ k : Fin 14, after[k] = if BitVec.ofNat 8 (k.val + 1) ∈ codes then value else v[k]) :
    after = setKinds codes value v := by
  refine Vector.ext fun i hi => (h ⟨i, hi⟩).trans ?_
  simp [setKinds, o8]

/-- REMOVE keeps the records of the kinds that it does not list, and ADD keeps them all. -/
theorem keptRecords_eq (remove : Bool) (codes : Octets) (l : List NoticeRec) :
    keptRecords remove codes l = if remove then l.filter fun n => decide (n.kind.code ∉ codes) else l := by
  simp [keptRecords, listed]

/-! ### NOTICE_ENABLE by case (R184, R185) -/

/-- The values of NOTICE_ENABLE: ADD or REMOVE, and 1 to 14 codes, each of them a kind's (R184). -/
def enableValues (op : Byte) (codes : Octets) : Prop :=
  (op = 1 ∨ op = 2) ∧ 1 ≤ codes.length ∧ codes.length ≤ 14 ∧ ∀ b ∈ codes, 1 ≤ b.toNat ∧ b.toNat ≤ 14

section
variable {p : Port} (tag : Byte) {s : State} {op : Byte} {codes : Octets}

/-- The command reaches the Notice Unit when its count octet gives the number of its codes. -/
theorem exec_noticeEnable (h : takesAtOnce s p) (o : ownedBy s p) (hlen : codes.length ≤ 50) :
    exec (.noticeEnable p tag (op :: BitVec.ofNat 8 codes.length :: codes)) s =
      .next (doNoticeEnable
        { port := p, code := 0x60, tag := tag, args := op :: BitVec.ofNat 8 codes.length :: codes }
        (leaseRenewed p s)) := by
  have hfits : lengthFits .noticeEnable (op :: BitVec.ofNat 8 codes.length :: codes) = true := by
    have hn : (octet (op :: BitVec.ofNat 8 codes.length :: codes) 1).toNat = codes.length :=
      toNat_ofNat_octet (by omega)
    simp only [lengthFits, hn, List.length_cons, Bool.and_eq_true, decide_eq_true_eq, beq_iff_eq]
    omega
  exact congrArg Host.Outcome.next (submit_carriesOut .noticeEnable tag h hfits fun _ => o)

theorem noticeEnableOk_iff (hlen : codes.length ≤ 50) :
    noticeEnableOk { port := p, code := 0x60, tag := tag, args := op :: BitVec.ofNat 8 codes.length :: codes } = true ↔
      enableValues op codes := by
  have hn : (BitVec.ofNat 8 codes.length).toNat = codes.length := toNat_ofNat_octet (by omega)
  have hop1 : op.toNat = 1 ↔ op = 1 := BitVec.toNat_inj (y := 1)
  have hop2 : op.toNat = 2 ↔ op = 2 := BitVec.toNat_inj (y := 2)
  simp only [noticeEnableOk, enableValues, Request.arg_zero, Request.arg_one, hn, List.drop_succ_cons, List.drop_zero,
    List.all_eq_true, Bool.and_eq_true, Bool.or_eq_true, beq_iff_eq, decide_eq_true_eq, hop1, hop2, and_assoc]

theorem doNoticeEnable_refuses (hlen : codes.length ≤ 50) (h : ¬enableValues op codes) :
    doNoticeEnable { port := p, code := 0x60, tag := tag, args := op :: BitVec.ofNat 8 codes.length :: codes } s =
      answered p 0x60 tag .badArgument [] s := by
  rw [doNoticeEnable, if_neg (mt (noticeEnableOk_iff tag hlen).mp h), refuse_eq, reply_eq_answered]

/-- What an accepted NOTICE_ENABLE does, with the two counts of its OK (R185). -/
theorem doNoticeEnable_moves (hlen : codes.length ≤ 50) (h : enableValues op codes) {after : Vector Bool 14}
    {left : List NoticeRec} (hafter : after = setKinds codes (decide (op = 1)) s.notices.enabled)
    (hleft : left = keptRecords (decide (op = 2)) codes s.notices.waiting) :
    doNoticeEnable { port := p, code := 0x60, tag := tag, args := op :: BitVec.ofNat 8 codes.length :: codes } s =
      answered p 0x60 tag .ok
        [BitVec.ofNat 8 (s.notices.waiting.length - left.length), BitVec.ofNat 8 (after.toList.count true)]
        { s with notices := { enabled := after, waiting := left } } := by
  subst hafter hleft
  rw [doNoticeEnable, if_pos ((noticeEnableOk_iff tag hlen).mpr h)]
  obtain ⟨rfl | rfl, -⟩ := h <;> rfl

end

/-- Settles O49: `noticeEnableOk_iff` divides the refusals from the commands carried out, and the set and the list that
the statement describes are the ones that `setKinds` and `keptRecords` give. -/
theorem noticeEnableMovesTheSet : Obligations.NoticeEnableMovesTheSet := by
  intro s p tag op codes ht ho hlen
  rw [exec_noticeEnable tag ht ho hlen]
  refine ⟨fun hout => ?refused, fun hop h1 h14 hcodes after left hafter hleft => ?moves⟩
  case refused =>
    rw [doNoticeEnable_refuses tag hlen]
    rintro ⟨hop, h1, h14, hcodes⟩
    rcases hout with hneither | hempty | hlong | ⟨b, hb, hrange⟩
    · exact hop.elim hneither.1 hneither.2
    · omega
    · omega
    · have := hcodes b hb
      omega
  case moves =>
    have hkept : left = keptRecords (decide (op = 2)) codes s.notices.waiting := by
      rw [hleft, keptRecords_eq]
      simp only [decide_eq_true_eq]
    exact congrArg Host.Outcome.next
      (doNoticeEnable_moves (s := leaseRenewed p s) tag hlen ⟨hop, h1, h14, hcodes⟩ (eq_setKinds hafter) hkept)

end Sys2Proof.Machine
end

section
/-! PROOF. How a law of the part is kept by every step: what each event asks of the law, put together once along the
model's own plumbing of octets, boundaries and requests. A law's own proof then speaks only of the parts that touch what
the law is about. -/

-- Checked one after another, as the tests are: the theorems of a section all at once take a thread each.
set_option Elab.async false

namespace Sys2Proof.Machine

/-! ### What is asked of a law -/

/-- A receiver that is UP and stays so, or that searches and goes on searching, keeps to the table of R21. -/
def Receiver.moves (x y : Receiver) : Prop :=
  (x.sound → y.sound) ∧
  (x.st = .up ∧ y.st = .up ∨ (x.st = .hunt ∨ x.st = .check) ∧ (y.st = .hunt ∨ y.st = .check))

/-- The law is kept by what a receiver does: it moves on, its port leaves UP with whatever level it has come to, or
enters it. -/
structure KeptByReceivers (P : State → Prop) : Prop where
  rx (s : State) (p : Port) (f : Receiver → Receiver) :
    Receiver.moves s.ports[p].rx (f s.ports[p].rx) → P s → P (modRx p f s)
  leaveUp (s : State) (p : Port) (cause : DownCause) (level : Receiver → Nat) :
    s.ports[p].rx.st = .up → cause ≠ .disabled → P s →
      P (leaveUp p cause (modRx p (fun x => { x with level := level x }) s))
  enterUp (s : State) (p : Port) : s.ports[p].rx.st = .check → P s → P (enterUp p s)

/-- The law is kept by the shares of a boundary other than a take. -/
structure KeptByTasks (P : State → Prop) : Prop where
  renew (s : State) : P s → P (renewBudgets s) := by intros; assumption
  engineTick (s : State) : P s → P (engineTick s)
  counterTick (s : State) : P s → P (counterTick s)
  release (s : State) : P s → P (releasePoint s)
  transmit (s : State) (swaps : Bool) : P s → P (transmit swaps s)

/-- A LANE_SET passes the checks of R36. -/
def laneSetAllowed (r : Request) (p : Port) (s : State) : Prop :=
  laneSetOk r p = true ∧ ¬(p = r.port ∧ (newProfile r p s.ports[p].profile).mgmt = false) ∧
  ¬(p ≠ tIn ∧ actsAsRestart s.ports[p].profile (newProfile r p s.ports[p].profile) = false ∧
      (newProfile r p s.ports[p].profile).quota < portOccupancy s p)

/-- What a LANE_SET that passes its checks does besides its OK (R36, R37). -/
def laneSetCarried (r : Request) (p : Port) (s : State) : State :=
  let old := s.ports[p].profile
  let new := newProfile r p old
  let s := modPort p (fun x => { x with profile := new }) s
  if actsAsRestart old new then laneSetRestart p new.enabled s else laneSetJudge p old new s

/-- A long operation can begin: its port and tag are not in use and the in-flight table has a place (R150). -/
def canBegin (r : Request) (s : State) : Prop :=
  s.engine.tagInUse r.port r.tag = false ∧ s.engine.tableSize < 4

/-- The law is kept by a take and by every management command that passes its checks, in a phase in which the law lets a
request be taken. -/
structure KeptByCommands (awake : Phase → Prop) (P : State → Prop) : Prop where
  lease (s : State) (p : Port) : P s → P (renewLease p s)
  reply (s : State) (r : Request) (st : Status) (o : Octets) : engineReady s = true → P s → P (reply r st o s)
  counters (s : State) (k : Counters) : P s → P { s with counters := k } := by intros; assumption
  own (s : State) (p : Port) (lease : Nat) :
    s.ports[p].rx.st = .up → s.ports[p].profile.mgmt = true → 1 ≤ lease → lease ≤ 255 → P s →
      P { s with engine := { s.engine with owner := some { port := p, lease := lease, remaining := lease } } } := by
    intros; assumption
  disown (s : State) : P s → P { s with engine := { s.engine with owner := none } } := by intros; assumption
  address (s : State) (u : Byte) : u ≠ 255 → P s → P { s with engine := { s.engine with unitAddr := u } } := by
    intros; assumption
  unitReset (s : State) (r : Request) : P s → P (doUnitReset r s)
  laneSet (s : State) (r : Request) (p : Port) :
    awake s.phase → s.engine.ownerPort = some r.port → laneSetAllowed r p s → P s → P (laneSetCarried r p s)
  alignSet (s : State) (skew late : Nat) (n : Slot) : skew ≤ 7 → 1 ≤ late → late ≤ 7 → P s →
      P { s with aligner := { s.aligner with skew := skew, releaseSlot := n, lateLimit := late } } := by
    intros; assumption
  rejoin (s : State) (l : Lane) : s.lanes[l].member = .lagging → P s →
      P (modLane l (fun x => { x with member := .joining, lateCount := 0 }) s) := by intros; assumption
  flowAdd (s : State) (i : FlowIdx) (e : FlowEntry) :
    findKey s e.lane.val e.inflow.toNat = none → s.flows[i] = none → e.draining = false → e.inQueue = 0 → P s →
      P { s with flows := upd s.flows i fun _ => some e } := by intros; assumption
  flowModify (s : State) (i : FlowIdx) (e : FlowEntry) : P s → P (modFlow i (FlowEntry.modified e) s) := by
    intros; assumption
  flowRemove (s : State) (i : FlowIdx) (e : FlowEntry) :
    s.flows[i] = some e → e.draining = false → e.inQueue = 0 → P s →
      P { s with flows := upd s.flows i fun _ => none } := by intros; assumption
  beginDrain (s : State) (r : Request) (i : FlowIdx) (e : FlowEntry) :
    s.flows[i] = some e → e.draining = false → canBegin r s → P s →
      P (openOperation r (.flow i) (modFlow i (fun x => { x with draining := true }) s)) := by intros; assumption
  schedWrite (s : State) (v : Vector SlotEntry 64) : s.sched.swapPending = false → P s →
      P { s with sched := s.sched.setBank s.sched.staged v } := by intros; assumption
  schedSwap (s : State) (r : Request) :
    s.sched.swapPending = false → bankCapable (s.sched.bank s.sched.staged) = true → canBegin r s → P s →
      P (openOperation r (.bank s.sched.staged) { s with sched := { s.sched with swapPending := true } }) := by
    intros; assumption
  schedCancel (s : State) (r : Request) : engineReady s = true → P s → P (doSchedCancel r s)
  groupSet (s : State) (g : Group) (n : Nat) (b : Bool) :
    1 ≤ n → n ≤ 1024 → s.groups[g].queue.length ≤ n → P s →
      P (modGroup g (fun q => { q with limit := n, borrow := b }) s) := by intros; assumption
  groupFlush (s : State) (r : Request) : engineReady s = true → P s → P (doGroupFlush r s)
  cycleSet (s : State) (r : Request) : engineReady s = true → P s → P (doCycleSet r s)
  cycleArm (s : State) (r : Request) :
    s.follower.mode = .once → s.follower.armed = false → canBegin r s → P s →
      P (openOperation r .follower { s with follower := { s.follower with armed := true } }) := by intros; assumption
  snapTake (s : State) (x : Snapshot) :
    s.ports[x.holder].rx.st = .up → 1 ≤ x.remaining → x.remaining = x.lifetime → x.lifetime ≤ 255 → P s →
      P { s with snapshot := some x } := by intros; assumption
  snapDrop (s : State) : P s → P { s with snapshot := none } := by intros; assumption
  noticeEnable (s : State) (codes : Octets) (remove : Bool) : P s →
      P { s with notices :=
          { enabled := setKinds codes (!remove) s.notices.enabled,
            waiting := keptRecords remove codes s.notices.waiting } } := by intros; assumption

/-- The law is kept by each event, of which those of a request and of a boundary are given whole. -/
structure KeptByEvents (P : State → Prop) : Prop extends KeptByReceivers P where
  atReset : P State.reset
  bookkeeping (s : State) (pending : List Instr) (draws : Nat) (k : Counters) : P s →
      P { s with pending := pending, orderDraws := draws, counters := k } := by intros; assumption
  released (s : State) (straps : BitVec 3) : s.phase = .heldInReset → P s →
      P (putOut fillCell
        { s with phase := .initialising 0, engine := { s.engine with unitAddr := straps.zeroExtend 8 } })
  initSlot (s : State) (n : Nat) : s.phase = .initialising n → P s →
      P (putOut fillCell { s with phase := .initialising (n + 1) })
  initDone (s : State) (n : Nat) : s.phase = .initialising n → P s →
      P { s with
        phase := .running, ports := s.ports.map PortState.afterInit, timer := { slot := 0, cycle := 0, tick := 0 } }
  mark (s : State) (l : Lane) (f : Epoch) (n : Nat) : P s → P (alignMark l f n s)
  data (s : State) (l : Lane) (c : DataCell) : P s → P (alignData l c s)
  passed (s : State) (c : DataCell) : P s → P (classify .pass c s)
  handOn (s : State) : s.phase = .running → P s → P { s with timer := s.timer.handOn } := by intros; assumption
  serve (s : State) (m : Marks) : s.phase = .running → P s → P (serve m s)
  engineTick (s : State) : P s → P (engineTick s)
  counterTick (s : State) : P s → P (counterTick s)
  pulse (s : State) : s.phase = .running → s.timer.begun = none → P s → P (takePulse s)
  swap (s : State) : P s → P (takeSwap s)
  drained (s : State) (i : FlowIdx) : P s → P (endDrain i s)
  held (s : State) : P s → P (appendHeld s)
  reaches (s : State) (r : Request) : s.ports[r.port].rx.st = .up → P s → P (requestReaches r s)
  take (s : State) : P s → P (takeRequest s)

end Sys2Proof.Machine
end

section
/-! PROOF. A law kept by the management commands is kept by a take and by a request that reaches the engine. -/

-- Checked one after another, as the tests are: the theorems of a section all at once take a thread each.
set_option Elab.async false

namespace Sys2Proof.Machine

theorem fin?_eq_some {n k : Nat} {i : Fin k} (h : fin? n k = some i) : n = i.val := by
  unfold fin? at h
  split at h
  · exact congrArg Fin.val (Option.some.inj h)
  · cases h

/-! ### What the checks of a command leave known -/

/-- The entry of FLOW_ADD's and FLOW_MODIFY's arguments is new (R97, R98). -/
theorem flowArgs_new {r : Request} {e : FlowEntry} (h : flowArgs r = some e) : e.draining = false ∧ e.inQueue = 0 := by
  unfold flowArgs at h
  split at h
  · split at h
    · cases h; exact ⟨rfl, rfl⟩
    · cases h
  · cases h

theorem leaseOf_bounds (n : Nat) (h : n ≤ 255) : 1 ≤ leaseOf n ∧ leaseOf n ≤ 255 := by
  simp only [leaseOf, Config.defaultLease]; split <;> omega

theorem lifetimeOf_bounds (n : Nat) (h : n ≤ 255) : 1 ≤ lifetimeOf n ∧ lifetimeOf n ≤ 255 := by
  simp only [lifetimeOf, Config.defaultLifetime]; split <;> omega

theorem Request.arg_le (r : Request) (i : Nat) : r.arg i ≤ 255 := Nat.le_of_lt_succ (octet r.args i).isLt

/-- The engine's readiness is read off its replies and its held completions (R144). -/
theorem engineReady_congr {s t : State} (hr : t.engine.replies = s.engine.replies) (hh : t.engine.held = s.engine.held) :
    engineReady t = engineReady s := by simp only [engineReady, hr, hh]

namespace KeptByCommands

variable {awake : Phase → Prop} {P : State → Prop} (k : KeptByCommands awake P)
include k

/-- A refusal keeps the law. -/
theorem refuse (s : State) (r : Request) (st : Status) (hr : engineReady s = true) (h : P s) : P (refuse r st s) :=
  k.reply s r st [] hr h

/-- A change that keeps the law and leaves the engine ready keeps it with its OK. -/
theorem replied {s t : State} (r : Request) (st : Status) (o : Octets) (hr : engineReady s = true)
    (hreplies : t.engine.replies = s.engine.replies) (hheld : t.engine.held = s.engine.held) (h : P t) :
    P (Machine.reply r st o t) :=
  k.reply t r st o ((engineReady_congr hreplies hheld).trans hr) h

section
variable {s : State} {r : Request} (hr : engineReady s = true) (h : P s)
include hr h

theorem doClaim_kept : P (doClaim r s) := by
  unfold doClaim
  split
  · exact k.refuse s r _ hr h
  · next hup =>
    obtain ⟨hup, hm⟩ : s.ports[r.port].rx.st = .up ∧ s.ports[r.port].profile.mgmt = true := by
      simpa [portUp] using hup
    have hlease := leaseOf_bounds _ (r.arg_le 0)
    have hgrant : P (grant r (leaseOf (r.arg 0)) s) :=
      k.replied r _ _ hr rfl rfl (k.own s r.port _ hup hm hlease.1 hlease.2 h)
    split
    · exact hgrant
    · split
      · exact hgrant
      · exact k.reply s r _ _ hr h

theorem doSetUnit_kept : P (doSetUnit r s) := by
  unfold doSetUnit
  split
  · exact k.refuse s r _ hr h
  · next hu =>
    exact k.replied r _ _ hr rfl rfl (k.address s _ (fun e => hu (by simp [Request.arg, e])) h)

theorem doAlignSet_kept : P (doAlignSet r s) := by
  unfold doAlignSet
  split
  · exact k.refuse s r _ hr h
  · split
    · exact k.refuse s r _ hr h
    · next n _ hin => exact k.replied r _ _ hr rfl rfl (k.alignSet s _ _ n (by omega) (by omega) (by omega) h)

theorem doFlowAdd_kept : P (doFlowAdd r s) := by
  unfold doFlowAdd
  split
  · exact k.refuse s r _ hr h
  · next e he =>
    split
    · exact k.refuse s r _ hr h
    · next hkey =>
      split
      · exact k.refuse s r _ hr h
      · next i hi =>
        obtain ⟨hd, hq⟩ := flowArgs_new he
        exact k.replied r _ _ hr rfl rfl
          (k.counters _ _ (k.flowAdd s i e hkey (lowestFree_some hi).1 hd hq h))

theorem doFlowModify_kept : P (doFlowModify r s) := by
  unfold doFlowModify
  split
  · exact k.refuse s r _ hr h
  · next e _ =>
    split
    · exact k.refuse s r _ hr h
    · next i _ =>
      split
      · exact k.refuse s r _ hr h
      · exact k.replied r _ _ hr rfl rfl (k.flowModify s i e h)

theorem beginDrain_kept {i : FlowIdx} {e : FlowEntry} (hi : s.flows[i] = some e) (hd : e.draining = false) :
    P (Machine.beginDrain r i s) := by
  unfold Machine.beginDrain
  split
  · exact k.refuse s r _ hr h
  · next ht =>
    split
    · exact k.refuse s r _ hr h
    · next hn =>
      exact k.replied r _ _ hr rfl rfl
        (k.beginDrain s r i e hi hd ⟨Bool.eq_false_iff.mpr ht, Nat.lt_of_not_le hn⟩ h)

theorem doFlowRemove_kept : P (doFlowRemove r s) := by
  unfold doFlowRemove
  split
  · exact k.refuse s r _ hr h
  · next i hkey =>
    obtain ⟨e, hi, -⟩ := findKey_some hkey
    split
    · exact k.refuse s r _ hr h
    · next hd =>
      have hd : e.draining = false := by simpa only [isDraining_of_held hi, Bool.not_eq_true] using hd
      split
      · next hq => exact k.replied r _ _ hr rfl rfl (k.flowRemove s i e hi hd (by simpa [hi] using hq) h)
      · exact k.beginDrain_kept hr h hi hd

theorem doSchedWrite_kept : P (doSchedWrite r s) := by
  unfold doSchedWrite
  split
  · exact k.refuse s r _ hr h
  · split
    · exact k.refuse s r _ hr h
    · split
      · exact k.refuse s r _ hr h
      · next hp => exact k.replied r _ _ hr rfl rfl (k.schedWrite s _ (Bool.eq_false_iff.mpr hp) h)

theorem doSchedSwap_kept : P (doSchedSwap r s) := by
  unfold doSchedSwap
  split
  · exact k.refuse s r _ hr h
  · next hp =>
    split
    · exact k.refuse s r _ hr h
    · next hc =>
      split
      · exact k.refuse s r _ hr h
      · next ht =>
        split
        · exact k.refuse s r _ hr h
        · next hn =>
          exact k.replied r _ _ hr rfl rfl
            (k.schedSwap s r (Bool.eq_false_iff.mpr hp) (by simpa using hc)
              ⟨Bool.eq_false_iff.mpr ht, Nat.lt_of_not_le hn⟩ h)

theorem doGroupSet_kept : P (doGroupSet r s) := by
  unfold doGroupSet
  split
  · exact k.refuse s r _ hr h
  · next g _ =>
    split
    · exact k.refuse s r _ hr h
    · split
      · exact k.refuse s r _ hr h
      · next hq => exact k.replied r _ _ hr rfl rfl (k.groupSet s g _ _ (by omega) (by omega) (by omega) h)

theorem doCycleArm_kept : P (doCycleArm r s) := by
  unfold doCycleArm
  split
  · exact k.refuse s r _ hr h
  · next hm =>
    split
    · exact k.refuse s r _ hr h
    · next ha =>
      split
      · exact k.refuse s r _ hr h
      · next ht =>
        split
        · exact k.refuse s r _ hr h
        · next hn =>
          exact k.replied r _ _ hr rfl rfl
            (k.cycleArm s r (not_not.mp hm) (Bool.eq_false_iff.mpr ha)
              ⟨Bool.eq_false_iff.mpr ht, Nat.lt_of_not_le hn⟩ h)

theorem doSnapTake_kept : P (doSnapTake r s) := by
  unfold doSnapTake
  split
  · exact k.refuse s r _ hr h
  · split
    · exact k.refuse s r _ hr h
    · next hup =>
      split
      · exact k.refuse s r _ hr h
      · have hlife := lifetimeOf_bounds _ (r.arg_le 1)
        have hup : portUp s r.port = true := by simpa using hup
        have hsnap := k.snapTake s (snapshotOf r s) (portUp_iff.mp hup) hlife.1 rfl hlife.2 h
        exact k.replied r _ _ hr rfl rfl (k.counters _ _ hsnap)

theorem doAlignRejoin_kept : P (doAlignRejoin r s) := by
  unfold doAlignRejoin
  split
  · exact k.refuse s r _ hr h
  · next l _ =>
    split
    · next hl => exact k.rejoin _ l hl (k.reply s r _ _ hr h)
    · exact k.refuse s r _ hr h

theorem doLaneSet_kept (ha : awake s.phase) (ho : s.engine.ownerPort = some r.port) : P (doLaneSet r s) := by
  unfold doLaneSet
  split
  · exact k.refuse s r _ hr h
  · next p _ =>
    dsimp only
    split
    · exact k.refuse s r _ hr h
    · next hok =>
      split
      · exact k.refuse s r _ hr h
      · next hlock =>
        split
        · exact k.refuse s r _ hr h
        · next hquota =>
          exact k.laneSet (Machine.reply r .ok [] s) r p ha ho ⟨by simpa using hok, hlock, hquota⟩ (k.reply s r _ _ hr h)

theorem doLaneRestart_kept (kr : KeptByReceivers P) : P (doLaneRestart r s) := by
  have hok := k.reply s r .ok [] hr h
  have hsearch (p : Port) (hst : s.ports[p].rx.st = .hunt ∨ s.ports[p].rx.st = .check) :
      P (modRx p (fun _ => Receiver.fresh .hunt) (Machine.reply r .ok [] s)) :=
    kr.rx _ p _ ⟨fun _ => ⟨rfl, rfl, Nat.zero_lt_succ _⟩, .inr ⟨hst, .inl rfl⟩⟩ hok
  unfold doLaneRestart
  split
  · exact k.refuse s r _ hr h
  · next p _ =>
    split
    · exact k.refuse s r _ hr h
    · next hst =>
      have hup := kr.leaveUp (Machine.reply r .ok [] s) p .restart Receiver.level hst nofun hok
      rwa [modRx_same p _ _ rfl] at hup
    · next hst => exact hsearch p (.inl hst)
    · next hst => exact hsearch p (.inr hst)

/-- A command that only reports gives its reply and keeps the law. -/
theorem reports_kept : P (doIdentify r s) ∧ P (doLaneGet r s) ∧ P (doAlignGet r s) ∧ P (doFlowGet r s) ∧ P (doFlowList r s) ∧
    P (doSchedRead r s) ∧ P (doGroupGet r s) ∧ P (doCycleGet r s) ∧ P (doSnapRead r s) ∧ P (doNoticeGet r s) := by
  have hreply (st : Status) (o : Octets) : P (Machine.reply r st o s) := k.reply s r st o hr h
  refine ⟨hreply _ _, ?_, ?_, ?_, hreply _ _, ?_, ?_, hreply _ _, ?_, hreply _ _⟩
  · unfold doLaneGet; split <;> exact hreply _ _
  · unfold doAlignGet; split <;> [skip; split] <;> exact hreply _ _
  · unfold doFlowGet; split <;> [skip; skip; split] <;> exact hreply _ _
  · unfold doSchedRead; split <;> [skip; split] <;> exact hreply _ _
  · unfold doGroupGet; split <;> exact hreply _ _
  · unfold doSnapRead; split <;> [skip; (split <;> [skip; split])] <;> exact hreply _ _

end

/-- A command that has passed the engine's checks keeps the law when it is carried out. -/
theorem carryOut (kr : KeptByReceivers P) (c : Command) {s : State} {r : Request} (hr : engineReady s = true)
    (ha : awake s.phase) (ho : ownerCommand c r.args = true → s.engine.ownerPort = some r.port) (h : P s) :
    P (carryOut c r s) := by
  obtain ⟨identify, laneGet, alignGet, flowGet, flowList, schedRead, groupGet, cycleGet, snapRead, noticeGet⟩ :=
    k.reports_kept hr h (r := r)
  cases c with
  | identify => exact identify
  | claim => exact k.doClaim_kept hr h
  | release => exact k.replied r _ _ hr rfl rfl (k.disown s h)
  | setUnit => exact k.doSetUnit_kept hr h
  | unitReset => exact k.unitReset s r h
  | laneGet => exact laneGet
  | laneSet => exact k.doLaneSet_kept hr h ha (ho rfl)
  | laneRestart => exact k.doLaneRestart_kept hr h kr
  | alignGet => exact alignGet
  | alignSet => exact k.doAlignSet_kept hr h
  | alignRejoin => exact k.doAlignRejoin_kept hr h
  | flowAdd => exact k.doFlowAdd_kept hr h
  | flowModify => exact k.doFlowModify_kept hr h
  | flowRemove => exact k.doFlowRemove_kept hr h
  | flowGet => exact flowGet
  | flowList => exact flowList
  | schedWrite => exact k.doSchedWrite_kept hr h
  | schedRead => exact schedRead
  | schedSwap => exact k.doSchedSwap_kept hr h
  | schedCancel => exact k.schedCancel s r hr h
  | groupSet => exact k.doGroupSet_kept hr h
  | groupGet => exact groupGet
  | groupFlush => exact k.groupFlush s r hr h
  | cycleSet => exact k.cycleSet s r hr h
  | cycleArm => exact k.doCycleArm_kept hr h
  | cycleGet => exact cycleGet
  | snapTake => exact k.doSnapTake_kept hr h
  | snapRead => exact snapRead
  | snapDrop =>
    change P (doSnapDrop r s)
    unfold doSnapDrop
    split
    · exact k.replied r _ _ hr rfl rfl (k.snapDrop s h)
    · exact k.refuse s r _ hr h
  | countClear =>
    change P (doCountClear r s)
    unfold doCountClear
    split
    · exact k.replied r _ _ hr rfl rfl (k.counters s _ h)
    · exact k.refuse s r _ hr h
  | noticeEnable =>
    change P (doNoticeEnable r s)
    unfold doNoticeEnable
    split
    · exact k.replied r _ _ hr rfl rfl (k.noticeEnable s _ _ h)
    · exact k.refuse s r _ hr h
  | noticeGet => exact noticeGet

/-- A taken request keeps the law (R144, R145). -/
theorem handle (kr : KeptByReceivers P) {s : State} (r : Request) (hr : engineReady s = true) (ha : awake s.phase)
    (h : P s) : P (handle r s) := by
  have hlease := k.lease s r.port h
  have hready : engineReady (renewLease r.port s) = true := by
    rw [engineReady_congr (s := s) (by simp) (by simp), hr]
  unfold Machine.handle checkRequest
  split
  · exact k.refuse _ r _ hready hlease
  · next c _ =>
    split
    · exact k.refuse _ r _ hready hlease
    · split
      · exact k.refuse _ r _ hready hlease
      · next ho =>
        exact k.carryOut kr c hready (by simpa using ha) (fun hc => by simpa [hc] using ho) hlease

end KeptByCommands

end Sys2Proof.Machine
end

section
/-! PROOF. A law kept by every event is kept by every step. -/

-- Checked one after another, as the tests are: the theorems of a section all at once take a thread each.
set_option Elab.async false

namespace Sys2Proof.Machine

/-! ### Receivers that move on -/

/-- What octets, charges and credits do to a receiver in UP. -/
theorem moves_up {x y : Receiver} (h : x.st = .up) (hst : y.st = .up) (hc : y.count = x.count)
    (hl : x.level ≤ 255 → y.level ≤ 255) (ho : x.octets.length < 64 → y.octets.length < 64) : x.moves y := by
  refine ⟨?_, .inl ⟨h, hst⟩⟩
  simp only [Receiver.sound, h, hst, hc]
  exact fun ⟨h1, h2, h3⟩ => ⟨hl h1, h2, ho h3⟩

/-- A receiver that searches (R21): in HUNT or CHECK. -/
def Receiver.searches (x : Receiver) : Prop := x.st = .hunt ∨ x.st = .check

theorem moves_search {x y : Receiver} (h : x.searches) (hy : y.searches) (hs : x.sound → y.sound) : x.moves y :=
  ⟨hs, .inr ⟨h, hy⟩⟩

theorem fresh_hunt_sound : (Receiver.fresh .hunt).sound := ⟨rfl, rfl, Nat.zero_lt_succ _⟩

/-- The octets that a search has in hand are fewer than a header's eight (R22). -/
theorem huntOctet_sound {x : Receiver} (b : Byte) (h : x.st = .hunt) (hs : x.sound) : (huntOctet x b).sound := by
  simp only [Receiver.sound, h] at hs
  obtain ⟨hl, hc, ho⟩ := hs
  unfold huntOctet
  dsimp only
  split
  · next hlt => simpa only [Receiver.sound, h] using ⟨hl, hc, hlt⟩
  · split
    · exact ⟨hl, Nat.le_refl 1, Nat.le_add_left 1 4, Nat.zero_lt_succ _⟩
    · simp only [Receiver.sound, h]
      exact ⟨hl, hc, by simp only [List.length_drop, List.length_append, List.length_singleton]; omega⟩

theorem huntOctet_searches {x : Receiver} (b : Byte) (h : x.st = .hunt) : (huntOctet x b).searches := by
  unfold huntOctet
  dsimp only
  split
  · exact .inl h
  · split
    · exact .inr rfl
    · exact .inl h

/-- While octets that cannot end a group come to a receiver that searches, it goes on searching (R22, R23). The number
of octets in hand is bounded by those that have come, which a search keeps below eight. -/
def Receiver.searchedBy (n : Nat) (x : Receiver) : Prop :=
  x.level = 0 ∧ x.octets.length ≤ n ∧ (x.st = .hunt ∧ x.count = 0 ∧ x.octets.length < 8 ∨ x.st = .check ∧ x.count = 1)

theorem searchOctet_searchedBy {n : Nat} {x : Receiver} (b : Byte) (h : x.searchedBy n) :
    (searchOctet x b).searchedBy (n + 1) := by
  obtain ⟨hl, ho, ⟨hst, hc, h8⟩ | ⟨hst, hc⟩⟩ := h
  · simp only [searchOctet, hst, huntOctet]
    split
    · next hlt =>
      refine ⟨hl, ?_, .inl ⟨rfl, hc, hlt⟩⟩
      simp only [List.length_append, List.length_singleton]; omega
    · split
      · exact ⟨hl, Nat.zero_le _, .inr ⟨rfl, rfl⟩⟩
      · refine ⟨hl, ?_, .inl ⟨rfl, hc, ?_⟩⟩ <;>
          simp only [List.length_drop, List.length_append, List.length_singleton] <;> omega
  · simp only [searchOctet, hst]
    split
    · refine ⟨hl, ?_, .inr ⟨rfl, hc⟩⟩
      simp only [List.length_append, List.length_singleton]; omega
    · exact ⟨hl, Nat.le_succ_of_le ho, .inr ⟨rfl, hc⟩⟩

theorem foldl_searchOctet_searchedBy (o : Octets) {n : Nat} {x : Receiver} (h : x.searchedBy n) :
    (o.foldl searchOctet x).searchedBy (n + o.length) := by
  induction o generalizing n x with
  | nil => exact h
  | cons b o ih => rw [List.foldl_cons, List.length_cons, Nat.add_comm o.length, ← Nat.add_assoc]
                   exact ih (searchOctet_searchedBy b h)

/-- The octets of a group whose header fails are searched again from the second one on (R23). -/
theorem searched_again (g : Octets) :
    ((g.drop 1).foldl searchOctet (Receiver.fresh .hunt)).searches ∧
    (g.length ≤ 64 → ((g.drop 1).foldl searchOctet (Receiver.fresh .hunt)).sound) := by
  have hfresh : (Receiver.fresh .hunt).searchedBy 0 := ⟨rfl, Nat.le_refl 0, .inl ⟨rfl, rfl, Nat.zero_lt_succ _⟩⟩
  obtain ⟨hl, ho, ⟨hst, hc, h8⟩ | ⟨hst, hc⟩⟩ := foldl_searchOctet_searchedBy (g.drop 1) hfresh
  · exact ⟨.inl hst, fun _ => by simp only [Receiver.sound, hst]; exact ⟨hl, hc, h8⟩⟩
  · refine ⟨.inr hst, fun hg => ?_⟩
    simp only [List.length_drop] at ho
    simp only [Receiver.sound, hst]
    omega

/-! ### A boundary -/

theorem KeptByTasks.runTasks {P : State → Prop} (k : KeptByTasks P) (take : ∀ s, P s → P (takeRequest s)) (m : Marks)
    (ts : List Config.Task) {s : State} (h : P s) : P (runTasks m ts s) := by
  induction ts generalizing s with
  | nil => exact h
  | cons t ts ih =>
    refine ih ?_
    cases t with
    | renew => unfold runTask; dsimp only; split; exacts [k.renew s h, h]
    | tick => unfold runTask; dsimp only; split; exacts [k.counterTick _ (k.engineTick s h), h]
    | release => unfold runTask; dsimp only; split; exacts [k.release s h, h]
    | transmit => exact k.transmit s _ h
    | take => exact take s h

/-- A law kept by each share of a boundary is kept by the boundary, whatever the order of the shares. -/
theorem KeptByTasks.serve {P : State → Prop} (k : KeptByTasks P) (take : ∀ s, P s → P (takeRequest s))
    (draws : ∀ s n, P s → P { s with orderDraws := n }) (m : Marks) {s : State} (h : P s) : P (serve m s) := by
  unfold Machine.serve
  split
  · exact k.runTasks take m _ (draws s _ h)
  · exact k.runTasks take m _ h

/-! ### A request -/

section
variable {awake : Phase → Prop} {P : State → Prop} (k : KeptByCommands awake P) (kr : KeptByReceivers P)
include k kr

theorem KeptByCommands.take (queue : ∀ s l, P s → P { s with engine := { s.engine with requests := l } }) {s : State}
    (ha : s.engine.requests ≠ [] → awake s.phase) (h : P s) : P (takeRequest s) := by
  unfold takeRequest
  split
  · exact h
  · next r rest hq =>
    split
    · next hr => exact k.handle kr r hr (ha (by simp [hq])) (queue s rest h)
    · exact h

theorem KeptByCommands.reaches
    (queue : ∀ s l, P s → P { s with engine := { s.engine with requests := l } }) {s : State} {r : Request}
    (ha : awake s.phase) (h : P s) : P (requestReaches r s) := by
  unfold requestReaches
  split
  · next hr => exact k.handle kr r (by simp at hr; exact hr.2) ha h
  · unfold enqueueRequest
    split
    · exact queue s _ h
    · exact k.counters s _ h

end

namespace KeptByEvents

variable {P : State → Prop} (k : KeptByEvents P)
include k

theorem counted (s : State) (c : Counters) (h : P s) : P { s with counters := c } :=
  k.bookkeeping s s.pending s.orderDraws c h

/-! ### Octets of a stream -/

theorem charge {p : Port} (n : Nat) {s : State} (hup : s.ports[p].rx.st = .up) (h : P s) : P (charge p n s) := by
  unfold Machine.charge
  dsimp only
  split
  · exact k.leaveUp s p .budgetLimit _ hup nofun h
  · exact k.rx s p _ (moves_up hup hup rfl (fun _ => Nat.min_le_right _ _) id) h

theorem dispatchCell {p : Port} (c : Octets) {s : State} (hup : s.ports[p].rx.st = .up) (h : P s) :
    P (dispatchCell p c s) := by
  unfold Machine.dispatchCell
  split
  · exact k.counted s _ h
  · split
    · unfold markArrives
      dsimp only
      split
      · split
        · exact k.mark _ _ _ _ (k.counted s _ h)
        · exact k.counted s _ h
      · exact k.counted s _ h
    · split
      · unfold dataArrives
        dsimp only
        split
        · next l _ =>
          have hpause : P (countUnderPause l
              (countPort p (fun k => { k with dataArrivals := bump k.dataArrivals }) s)) := by
            unfold countUnderPause
            split
            · exact k.counted _ _ (k.counted s _ h)
            · exact k.counted s _ h
          split
          · exact k.data _ _ _ hpause
          · exact k.passed _ _ hpause
        · exact k.counted s _ h
      · unfold mreqArrives
        dsimp only
        split
        · exact k.counted _ _ (k.counted s _ h)
        · split
          · exact k.counted _ _ (k.counted s _ h)
          · exact k.reaches _ (requestOf p c) hup (k.counted s _ h)

theorem judgeCell {p : Port} (c : Octets) {s : State} (hup : s.ports[p].rx.st = .up) (h : P s) :
    P (judgeCell p c s) := by
  unfold Machine.judgeCell
  split
  · exact k.charge 16 hup (k.counted s _ h)
  · split
    · exact k.charge 4 hup (k.counted s _ h)
    · split
      · exact k.charge 4 hup (k.counted s _ h)
      · have hcredit : P (credit p s) :=
          k.rx s p _ (moves_up hup hup rfl (fun hl => Nat.le_trans (Nat.sub_le _ _) hl) id) h
        have hup' : (credit p s).ports[p].rx.st = .up := by simpa [credit] using hup
        exact k.dispatchCell c hup' (k.counted _ _ hcredit)

theorem checkGroup {p : Port} {g : Octets} {s : State} (hst : s.ports[p].rx.st = .check) (hg : s.ports[p].rx.sound → g.length ≤ 64)
    (h : P s) : P (checkGroup p g s) := by
  unfold Machine.checkGroup
  split
  · split
    · next hc =>
      refine k.rx s p _ (moves_search (.inr hst) (.inr hst) fun hs => ?_) h
      simp only [Receiver.sound, hst] at hs ⊢
      obtain ⟨hl, h1, h5, ho⟩ := hs
      exact ⟨hl, Nat.succ_le_succ (Nat.zero_le _), Nat.le_of_lt_succ hc, Nat.zero_lt_succ _⟩
    · exact k.enterUp s p hst h
  · exact k.rx s p _ (moves_search (.inr hst) (searched_again g).1 fun hs => (searched_again g).2 (hg hs)) h

theorem rxOctet (p : Port) (b : Byte) {s : State} (h : P s) : P (rxOctet p b s) := by
  unfold Machine.rxOctet
  dsimp only
  split
  · exact h
  · next hst =>
    exact k.rx s p _ (moves_search (.inl hst) (huntOctet_searches b hst) (huntOctet_sound b hst)) h
  · next hst =>
    have hcheck (f : Receiver → Receiver) (hf : ∀ x : Receiver, (f x).st = x.st ∧ (f x).level = x.level ∧
        (f x).count = x.count) (ho : (f s.ports[p].rx).octets.length < 64 ∨
        (f s.ports[p].rx).octets = s.ports[p].rx.octets) : P (modRx p f s) := by
      obtain ⟨hfst, hfl, hfc⟩ := hf s.ports[p].rx
      refine k.rx s p f (moves_search (.inr hst) (.inr (hfst.trans hst)) fun hs => ?_) h
      simp only [Receiver.sound, hst, hfst.trans hst, hfl, hfc] at hs ⊢
      obtain ⟨hl, h1, h5, h64⟩ := hs
      exact ⟨hl, h1, h5, ho.elim id fun e => e ▸ h64⟩
    split
    · exact hcheck _ (fun _ => ⟨rfl, rfl, rfl⟩) (.inr rfl)
    · split
      · next hlt => exact hcheck _ (fun _ => ⟨rfl, rfl, rfl⟩) (.inl (by simpa using hlt))
      · refine k.checkGroup hst (fun hs => ?_) h
        simp only [Receiver.sound, hst] at hs
        simp only [List.length_append, List.length_singleton]
        omega
  · next hst =>
    split
    · next hlt => exact k.rx s p _ (moves_up hst hst rfl id fun _ => by simpa using hlt) h
    · exact k.judgeCell _ (by simpa using hst)
        (k.rx s p _ (moves_up hst hst rfl id fun _ => Nat.zero_lt_succ _) h)

theorem rxOctets (p : Port) (o : Octets) {s : State} (h : P s) : P (rxOctets p o s) := by
  induction o generalizing s with
  | nil => exact h
  | cons b o ih => exact ih (k.rxOctet p b h)

theorem signalLost (p : Port) {s : State} (h : P s) : P (signalLost p s) := by
  unfold Machine.signalLost
  split
  · exact h
  · exact h
  · next hst => exact k.rx s p _ (moves_search (.inr hst) (.inl rfl) fun _ => fresh_hunt_sound) h
  · next hst => exact k.leaveUp s p .budgetLimit _ hst nofun h

/-! ### Boundaries, resets and management commands -/

theorem endInit {s : State} {n : Nat} (hp : s.phase = .initialising n) (h : P s) : P (endInit s) :=
  k.serve _ _ rfl (k.initDone s n hp h)

theorem anyBoundary {s : State} (h : P s) : P (anyBoundary s) := by
  unfold Machine.anyBoundary
  split
  · exact h
  · next n hp =>
    split
    · exact k.initSlot s n hp h
    · exact k.endInit hp h
  · next hp => exact k.serve _ _ hp (k.handOn s hp h)

theorem submit (c : Command) (p : Port) (tag : Byte) (args : Octets) {s : State} (h : P s) :
    P (submit c p tag args s) := by
  unfold Machine.submit
  split
  · next hup =>
    have hup : s.phase = .running ∧ portUp s p = true := by simpa using hup
    split
    · exact k.reaches s _ (portUp_iff.mp hup.2) h
    · exact k.counted s _ h
  · exact h

theorem pulseIf {c : Bool} {s : State} (hc : c = true → takesPulse s = true) (h : P s) :
    P (if c then takePulse s else s) := by
  split
  · next ht =>
    have ht := hc ht
    simp only [takesPulse, Bool.and_eq_true, beq_iff_eq, Option.isNone_iff_eq_none] at ht
    exact k.pulse s ht.1 ht.2 h
  · exact h

/-- Each command's next state has the law when the state has it. -/
theorem exec {c : Instr} {s t : State} (h : P s) (ht : exec c s = .next t) : P t := by
  cases c with
  | resetAssert => cases ht; exact k.bookkeeping _ s.pending s.orderDraws _ k.atReset
  | resetRelease straps =>
    simp only [Machine.exec, execResetRelease] at ht
    split at ht
    · next hp => cases ht; exact k.released s straps hp h
    · cases ht; exact h
  | initEnd =>
    simp only [Machine.exec, execInitEnd] at ht
    split at ht
    · next hp => cases ht; exact k.endInit hp h
    · cases ht; exact h
  | headerSearch p o => cases ht; exact k.rxOctets p o h
  | checkCell p o => cases ht; exact k.rxOctets p o h
  | lossOfSignal p => cases ht; exact k.signalLost p h
  | cellArrival p o => cases ht; exact k.rxOctets p o h
  | slotBoundary => cases ht; exact k.anyBoundary h
  | leaseExpiry => cases ht; exact k.engineTick s h
  | snapExpiry => cases ht; exact k.counterTick s h
  | swapTakeEffect => cases ht; exact k.swap s h
  | drainEnd i => cases ht; exact k.drained s i h
  | crefPulse => cases ht; exact k.pulseIf id h
  | armComplete => cases ht; exact k.pulseIf (fun e => by simp [armWaits] at e; exact e.1.1) h
  | requestTake => cases ht; exact k.take s h
  | heldCompletionAppend => cases ht; exact k.held s h
  | _ p tag args => cases ht; exact k.submit _ p tag args h

/-- The law is kept by every step. -/
theorem step {s t : State} (h : P s) (ht : step s = .next t) : P t := by
  unfold Machine.step at ht
  split at ht
  · cases ht; exact h
  · exact k.exec (k.bookkeeping s _ s.orderDraws _ h) ht

end KeptByEvents

/-! ### A law with all its parts -/

/-- A law is kept by the parts of every event: the receivers' moves, the shares of a boundary, the commands, and what
is given here. -/
structure KeptByParts (awake : Phase → Prop) (P : State → Prop) : Prop
    extends KeptByReceivers P, KeptByTasks P, KeptByCommands awake P where
  atReset : P State.reset
  bookkeeping (s : State) (pending : List Instr) (draws : Nat) (k : Counters) : P s →
      P { s with pending := pending, orderDraws := draws, counters := k } := by intros; assumption
  queue (s : State) (l : List Request) : P s → P { s with engine := { s.engine with requests := l } } := by
    intros; assumption
  released (s : State) (straps : BitVec 3) : s.phase = .heldInReset → P s →
      P (putOut fillCell
        { s with phase := .initialising 0, engine := { s.engine with unitAddr := straps.zeroExtend 8 } }) := by
    intros; assumption
  initSlot (s : State) (n : Nat) : s.phase = .initialising n → P s →
      P (putOut fillCell { s with phase := .initialising (n + 1) }) := by intros; assumption
  initDone (s : State) (n : Nat) : s.phase = .initialising n →
      (¬awake s.phase → ∀ p : Port, s.ports[p].rx.st = .off) → P s →
      P { s with
        phase := .running, ports := s.ports.map PortState.afterInit, timer := { slot := 0, cycle := 0, tick := 0 } } := by
    intros; assumption
  mark (s : State) (l : Lane) (f : Epoch) (n : Nat) : P s → P (alignMark l f n s)
  data (s : State) (l : Lane) (c : DataCell) : P s → P (alignData l c s)
  passed (s : State) (c : DataCell) : P s → P (classify .pass c s)
  handOn (s : State) : s.phase = .running → P s → P { s with timer := s.timer.handOn } := by intros; assumption
  pulse (s : State) : s.phase = .running → s.timer.begun = none → P s → P (takePulse s)
  swap (s : State) : P s → P (takeSwap s)
  drained (s : State) (i : FlowIdx) : P s → P (endDrain i s)
  held (s : State) : P s → P (appendHeld s)

/-- With a law `G` that every event keeps, and under which requests wait and receivers are not OFF only in the phases in
which a request may be taken, a law kept by its parts is kept by every event. -/
theorem KeptByParts.events {awake : Phase → Prop} {G P : State → Prop} (k : KeptByParts awake P) (g : KeptByEvents G)
    (gt : KeptByTasks G)
    (hrequests : ∀ s, G s → s.engine.requests ≠ [] → awake s.phase)
    (hup : ∀ s (p : Port), G s → s.ports[p].rx.st ≠ .off → awake s.phase) : KeptByEvents fun s => G s ∧ P s where
  rx s p f hm h := ⟨g.rx s p f hm h.1, k.rx s p f hm h.2⟩
  leaveUp s p c level hst hc h := ⟨g.leaveUp s p c level hst hc h.1, k.leaveUp s p c level hst hc h.2⟩
  enterUp s p hst h := ⟨g.enterUp s p hst h.1, k.enterUp s p hst h.2⟩
  atReset := ⟨g.atReset, k.atReset⟩
  bookkeeping s p d c h := ⟨g.bookkeeping s p d c h.1, k.bookkeeping s p d c h.2⟩
  released s u hp h := ⟨g.released s u hp h.1, k.released s u hp h.2⟩
  initSlot s n hp h := ⟨g.initSlot s n hp h.1, k.initSlot s n hp h.2⟩
  initDone s n hp h :=
    ⟨g.initDone s n hp h.1,
      k.initDone s n hp (fun ha p => not_not.mp fun hst => ha (hup s p h.1 hst)) h.2⟩
  mark s l f n h := ⟨g.mark s l f n h.1, k.mark s l f n h.2⟩
  data s l c h := ⟨g.data s l c h.1, k.data s l c h.2⟩
  passed s c h := ⟨g.passed s c h.1, k.passed s c h.2⟩
  handOn s hp h := ⟨g.handOn s hp h.1, k.handOn s hp h.2⟩
  serve s m _ h :=
    KeptByTasks.serve (P := fun s => G s ∧ P s)
      { renew := fun s h => ⟨gt.renew s h.1, k.renew s h.2⟩
        engineTick := fun s h => ⟨gt.engineTick s h.1, k.toKeptByTasks.engineTick s h.2⟩
        counterTick := fun s h => ⟨gt.counterTick s h.1, k.toKeptByTasks.counterTick s h.2⟩
        release := fun s h => ⟨gt.release s h.1, k.release s h.2⟩
        transmit := fun s b h => ⟨gt.transmit s b h.1, k.transmit s b h.2⟩ }
      (fun s h => ⟨g.take s h.1, k.toKeptByCommands.take k.toKeptByReceivers k.queue (hrequests s h.1) h.2⟩)
      (fun s n h => ⟨g.bookkeeping s s.pending n s.counters h.1, k.bookkeeping s s.pending n s.counters h.2⟩) m h
  engineTick s h := ⟨g.engineTick s h.1, k.engineTick s h.2⟩
  counterTick s h := ⟨g.counterTick s h.1, k.counterTick s h.2⟩
  pulse s hp hb h := ⟨g.pulse s hp hb h.1, k.pulse s hp hb h.2⟩
  swap s h := ⟨g.swap s h.1, k.swap s h.2⟩
  drained s i h := ⟨g.drained s i h.1, k.drained s i h.2⟩
  held s h := ⟨g.held s h.1, k.held s h.2⟩
  reaches s r hst h :=
    ⟨g.reaches s r hst h.1, k.toKeptByCommands.reaches k.toKeptByReceivers k.queue (hup s r.port h.1 (by rw [hst]; nofun)) h.2⟩
  take s h := ⟨g.take s h.1, k.toKeptByCommands.take k.toKeptByReceivers k.queue (hrequests s h.1) h.2⟩

theorem always_kept_by_tasks : KeptByTasks fun _ => True where
  renew _ _ := trivial
  engineTick _ _ := trivial
  counterTick _ _ := trivial
  release _ _ := trivial
  transmit _ _ _ := trivial

theorem always_kept : KeptByEvents fun _ => True where
  rx _ _ _ _ _ := trivial
  leaveUp _ _ _ _ _ _ _ := trivial
  enterUp _ _ _ _ := trivial
  atReset := trivial
  released _ _ _ _ := trivial
  initSlot _ _ _ _ := trivial
  initDone _ _ _ _ := trivial
  mark _ _ _ _ _ := trivial
  data _ _ _ _ := trivial
  passed _ _ _ := trivial
  serve _ _ _ _ := trivial
  engineTick _ _ := trivial
  counterTick _ _ := trivial
  pulse _ _ _ _ := trivial
  swap _ _ := trivial
  drained _ _ _ := trivial
  held _ _ := trivial
  reaches _ _ _ _ := trivial
  take _ _ := trivial

/-- A law kept by its parts in any phase is kept by every step. -/
theorem KeptByParts.step {P : State → Prop} (k : KeptByParts (fun _ => True) P) {s t : State} (h : P s)
    (ht : Machine.step s = .next t) : P t :=
  ((k.events always_kept always_kept_by_tasks (fun _ _ _ => trivial) (fun _ _ _ _ => trivial)).step ⟨trivial, h⟩ ht).2

/-! ### While the part is not running -/

/-- A receiver that is not OFF, or a request that waits, shows that the part runs (R15, R162). -/
theorem quiet_running {s : State} (h : quietUntilRunning s)
    (hs : s.engine.requests ≠ [] ∨ s.timer.begun ≠ none ∨ ∃ p : Port, s.ports[p].rx.st ≠ .off) : s.phase = .running := by
  by_contra hp
  obtain ⟨hr, hb, ho⟩ := h hp
  rcases hs with hs | hs | ⟨p, hs⟩
  exacts [hs hr, hs hb, hs (ho p)]

theorem quiet_of_running {s : State} (h : s.phase = .running) : quietUntilRunning s := fun hn => absurd h hn

/-- Quiet is kept where the phase, the request queue, the timer and the ports are. -/
theorem quiet_of_frame {s t : State} (h : quietUntilRunning s)
    (f : t.phase = s.phase ∧ t.engine.requests = s.engine.requests ∧ t.timer = s.timer ∧ t.ports = s.ports) :
    quietUntilRunning t := by
  obtain ⟨hp, hr, ht, ho⟩ := f
  unfold quietUntilRunning
  rw [hp, hr, ht, ho]
  exact h

theorem quiet_kept_by_tasks : KeptByTasks quietUntilRunning where
  renew s h := quiet_of_frame h (by simp)
  engineTick s h := quiet_of_frame h (by simp)
  counterTick s h := quiet_of_frame h (by simp)
  release s h := quiet_of_frame h (by simp)
  transmit s b h := quiet_of_frame h (by simp)

/-- A receiver moves, leaves UP or enters it on a running part alone. -/
theorem quiet_of_receiver {s t : State} {p : Port} (h : quietUntilRunning s) (hst : s.ports[p].rx.st ≠ .off)
    (f : t.phase = s.phase) : quietUntilRunning t :=
  quiet_of_running (f.trans (quiet_running h (.inr (.inr ⟨p, hst⟩))))

theorem moves_not_off {x y : Receiver} (h : x.moves y) : x.st ≠ .off := by
  rcases h.2 with ⟨e, -⟩ | ⟨e | e, -⟩ <;> simp [e]

theorem quiet_kept : KeptByEvents quietUntilRunning where
  rx s p f hm h := quiet_of_receiver h (moves_not_off hm) (by simp)
  leaveUp s p c level hst _ h := quiet_of_receiver (p := p) h (by rw [hst]; nofun) (by simp)
  enterUp s p hst h := quiet_of_receiver (p := p) h (by rw [hst]; nofun) (by simp)
  atReset := fun _ => ⟨rfl, rfl, by decide +kernel⟩
  released s u hp h := fun _ => h (by simp [hp])
  initSlot s n hp h := fun _ => h (by simp [hp])
  initDone s n hp h := quiet_of_running rfl
  mark s l f n h := quiet_of_frame h (by simp)
  data s l c h := quiet_of_frame h (by simp)
  passed s c h := quiet_of_frame h (by simp)
  handOn s hp h := quiet_of_running hp
  serve s m _ h := quiet_kept_by_tasks.serve (fun s h => by
      by_cases hr : s.engine.requests = []
      · simpa [hr] using h
      · exact quiet_of_running ((takeRequest_frame s).2.2.1.trans (quiet_running h (.inl hr))))
    (fun _ _ h => h) m h
  engineTick s h := quiet_of_frame h (by simp)
  counterTick s h := quiet_of_frame h (by simp)
  pulse s hp hb h := quiet_of_running (by simp [hp])
  swap s h := quiet_of_frame h (by simp)
  drained s i h := quiet_of_frame h (by simp)
  held s h := quiet_of_frame h (by simp)
  reaches s r hst h := quiet_of_receiver (p := r.port) h (by rw [hst]; nofun) (by simp)
  take s h := by
    by_cases hr : s.engine.requests = []
    · simpa [hr] using h
    · exact quiet_of_running (by simpa using quiet_running h (.inl hr))

/-- A law kept by its parts on a part that is quiet until it runs is kept by every step, as that quiet is. -/
theorem KeptByParts.step_quiet {P : State → Prop} (k : KeptByParts (· = .running) P) {s t : State}
    (h : quietUntilRunning s ∧ P s) (ht : Machine.step s = .next t) : quietUntilRunning t ∧ P t :=
  (k.events quiet_kept quiet_kept_by_tasks (fun _ h hr => quiet_running h (.inl hr))
    (fun _ p h hst => quiet_running h (.inr (.inr ⟨p, hst⟩)))).step h ht

end Sys2Proof.Machine
end

section
/-! PROOF. The composite commands as one change of the state each: UNIT_RESET, and what GROUP_FLUSH, SCHED_CANCEL and
CYCLE_SET leave alone. -/

-- Checked one after another, as the tests are: the theorems of a section all at once take a thread each.
set_option Elab.async false

namespace Sys2Proof.Machine

/-! ### UNIT_RESET (R161) -/

/-- The lane with its hysteresis state judged on its port's profile and its occupancy (R50). -/
def LaneState.judged (prof : Profile) (x : LaneState) : LaneState :=
  { x with high := judgedHigh prof x.queue.length x.high }

theorem judgeLanes_lane (ls : List Lane) (hn : ls.Nodup) (s : State) (l : Lane) :
    (ls.foldl (fun s l => judgeLane l s) s).lanes[l] =
      if l ∈ ls then s.lanes[l].judged s.ports[l.port].profile else s.lanes[l] := by
  induction ls generalizing s with
  | nil => rfl
  | cons k ls ih =>
    have ⟨hk, hls⟩ := List.nodup_cons.mp hn
    rw [List.foldl_cons, ih hls]
    by_cases e : l = k
    · subst e
      simp [hk, judgeLane, modLane, LaneState.judged]
    · have hl : (judgeLane k s).lanes[l] = s.lanes[l] := (upd_get _ _ _ _).trans (if_neg e)
      rw [hl]
      simp [e]

theorem judgeLanes_eq (ls : List Lane) (s : State) :
    ls.foldl (fun s l => judgeLane l s) s = { s with lanes := (ls.foldl (fun s l => judgeLane l s) s).lanes } := by
  induction ls generalizing s with
  | nil => rfl
  | cons k ls ih =>
    rw [List.foldl_cons, ih]
    rfl

theorem mem_allLanes (l : Lane) : l ∈ allLanes := by
  revert l
  decide

/-- Judging the six lanes in turn judges each by its own profile and occupancy. -/
theorem judgeAllLanes_eq (s : State) :
    allLanes.foldl (fun s l => judgeLane l s) s =
      { s with lanes := Vector.ofFn fun l : Lane => s.lanes[l].judged s.ports[l.port].profile } := by
  rw [judgeLanes_eq]
  congr 1
  refine Vector.ext fun i hi => ?_
  have h := judgeLanes_lane allLanes (by decide) s ⟨i, hi⟩
  rw [if_pos (mem_allLanes _)] at h
  rw [Vector.getElem_ofFn]
  exact h

/-- The lane as UNIT_RESET leaves it, judged with an empty queue (R49, R82). -/
def LaneState.afterReset (prof : Profile) (x : LaneState) : LaneState :=
  { queue := [], high := judgedHigh prof 0 x.high, member := x.member.afterReset, lateCount := 0 }

/-- What UNIT_RESET leaves of the part. -/
theorem doUnitReset_eq (r : Request) (s : State) :
    doUnitReset r s =
      { s with
        ports := s.ports.map fun x => { x with rx := { x.rx with level := 0 } }
        free := s.free + (lanesHold s + groupsHold s)
        lanes := Vector.ofFn fun l : Lane => s.lanes[l].afterReset s.ports[l.port].profile
        groups := s.groups.map fun q => { q with queue := [] }
        aligner := { s.aligner with running := false, lastReleased := none, window := [] }
        flows := s.flows.map resetEntry
        sched := { s.sched with swapPending := false, lendPointer := 0 }
        follower := { s.follower with armed := false }
        counters := Counters.zero
        snapshot := none
        notices := { s.notices with waiting := [] }
        engine :=
          { s.engine with
            requests := [], replies := [{ port := r.port, code := r.code, tag := r.tag, status := .ok, result := [] }],
            inFlight := [], held := [] } } := by
  unfold doUnitReset emptyQueues
  dsimp only
  rw [judgeAllLanes_eq]
  unfold reply resetEngine resetReports resetTimed resetFlows resetAligner resetLevels freeBuffers
  congr 1
  refine Vector.ext fun i hi => ?_
  simp [LaneState.judged, LaneState.afterReset]

/-! ### SCHED_CANCEL, CYCLE_SET and GROUP_FLUSH -/

/-- What the end of a long operation leaves alone: everything but the engine's own queues. -/
theorem flushRecord_keeps (x : GroupRec) (s : State) :
    (flushRecord x s).ports = s.ports ∧ (flushRecord x s).lanes = s.lanes ∧
    (flushRecord x s).aligner = s.aligner ∧ (flushRecord x s).groups = s.groups ∧
    (flushRecord x s).sched = s.sched ∧ (flushRecord x s).follower = s.follower ∧
    (flushRecord x s).snapshot = s.snapshot ∧ (flushRecord x s).notices = s.notices ∧
    (flushRecord x s).counters = s.counters ∧
    (flushRecord x s).engine.unitAddr = s.engine.unitAddr ∧ (flushRecord x s).engine.owner = s.engine.owner ∧
    (flushRecord x s).engine.requests = s.engine.requests := by
  simp [flushRecord]

theorem flushRecords_keep (l : List GroupRec) (s : State) :
    let t := l.foldl (fun s x => flushRecord x s) s
    t.ports = s.ports ∧ t.lanes = s.lanes ∧ t.aligner = s.aligner ∧ t.groups = s.groups ∧
    t.sched = s.sched ∧ t.follower = s.follower ∧ t.snapshot = s.snapshot ∧ t.notices = s.notices ∧
    t.counters = s.counters ∧ t.engine.unitAddr = s.engine.unitAddr ∧ t.engine.owner = s.engine.owner ∧
    t.engine.requests = s.engine.requests := by
  induction l generalizing s with
  | nil => simp
  | cons x l ih => simpa [flushRecord_keeps] using ih (flushRecord x s)

@[simp] theorem doSchedCancel_frame (r : Request) (s : State) :
    (doSchedCancel r s).phase = s.phase ∧
    (doSchedCancel r s).ports = s.ports ∧
    (doSchedCancel r s).free = s.free ∧
    (doSchedCancel r s).lanes = s.lanes ∧
    (doSchedCancel r s).aligner = s.aligner ∧
    (doSchedCancel r s).flows = s.flows ∧
    (doSchedCancel r s).groups = s.groups ∧
    (doSchedCancel r s).sched.bankA = s.sched.bankA ∧ (doSchedCancel r s).sched.bankB = s.sched.bankB ∧
    (doSchedCancel r s).sched.active = s.sched.active ∧
    (doSchedCancel r s).trunk = s.trunk ∧
    (doSchedCancel r s).timer = s.timer ∧
    (doSchedCancel r s).follower = s.follower ∧
    (doSchedCancel r s).snapshot = s.snapshot ∧
    (doSchedCancel r s).notices = s.notices ∧
    (doSchedCancel r s).engine.unitAddr = s.engine.unitAddr ∧
    (doSchedCancel r s).engine.owner = s.engine.owner ∧
    (doSchedCancel r s).engine.requests = s.engine.requests := by
  unfold doSchedCancel
  split <;> simp [reply, refuse]

@[simp] theorem doCycleSet_frame (r : Request) (s : State) :
    (doCycleSet r s).phase = s.phase ∧
    (doCycleSet r s).ports = s.ports ∧
    (doCycleSet r s).free = s.free ∧
    (doCycleSet r s).lanes = s.lanes ∧
    (doCycleSet r s).aligner = s.aligner ∧
    (doCycleSet r s).flows = s.flows ∧
    (doCycleSet r s).groups = s.groups ∧
    (doCycleSet r s).sched = s.sched ∧
    (doCycleSet r s).trunk = s.trunk ∧
    (doCycleSet r s).timer = s.timer ∧
    (doCycleSet r s).snapshot = s.snapshot ∧
    (doCycleSet r s).notices = s.notices ∧
    (doCycleSet r s).engine.unitAddr = s.engine.unitAddr ∧
    (doCycleSet r s).engine.owner = s.engine.owner ∧
    (doCycleSet r s).engine.requests = s.engine.requests := by
  unfold doCycleSet
  split
  · simp [reply, refuse]
  · split
    · simp [reply, refuse]
    · dsimp only
      split <;> simp [reply]

@[simp] theorem doGroupFlush_frame (r : Request) (s : State) :
    (doGroupFlush r s).phase = s.phase ∧
    (doGroupFlush r s).ports = s.ports ∧
    (doGroupFlush r s).lanes = s.lanes ∧
    (doGroupFlush r s).aligner = s.aligner ∧
    (doGroupFlush r s).sched = s.sched ∧
    (doGroupFlush r s).trunk = s.trunk ∧
    (doGroupFlush r s).timer = s.timer ∧
    (doGroupFlush r s).follower = s.follower ∧
    (doGroupFlush r s).snapshot = s.snapshot ∧
    (doGroupFlush r s).notices = s.notices ∧
    (doGroupFlush r s).engine.unitAddr = s.engine.unitAddr ∧
    (doGroupFlush r s).engine.owner = s.engine.owner ∧
    (doGroupFlush r s).engine.requests = s.engine.requests := by
  unfold doGroupFlush
  split
  · simp [reply, refuse]
  · dsimp only
    simp [flushRecords_keep, reply]

/-! ### LANE_SET (R36, R37) -/

@[simp] theorem emptyPortLane_frame (p : Port) (s : State) :
    (emptyPortLane p s).ports = s.ports ∧
    (emptyPortLane p s).aligner = s.aligner ∧
    (emptyPortLane p s).notices = s.notices ∧
    (emptyPortLane p s).snapshot = s.snapshot ∧
    (emptyPortLane p s).engine.owner = s.engine.owner ∧
    (emptyPortLane p s).phase = s.phase ∧
    (emptyPortLane p s).flows = s.flows ∧
    (emptyPortLane p s).groups = s.groups ∧
    (emptyPortLane p s).sched = s.sched ∧
    (emptyPortLane p s).trunk = s.trunk ∧
    (emptyPortLane p s).timer = s.timer ∧
    (emptyPortLane p s).follower = s.follower ∧
    (emptyPortLane p s).engine.unitAddr = s.engine.unitAddr ∧
    (emptyPortLane p s).engine.requests = s.engine.requests ∧
    (emptyPortLane p s).engine.replies = s.engine.replies ∧
    (emptyPortLane p s).engine.inFlight = s.engine.inFlight ∧
    (emptyPortLane p s).engine.held = s.engine.held ∧
    (emptyPortLane p s).aligner.skew = s.aligner.skew ∧
    (emptyPortLane p s).aligner.releaseSlot = s.aligner.releaseSlot ∧
    (emptyPortLane p s).aligner.lateLimit = s.aligner.lateLimit ∧
    (emptyPortLane p s).notices.enabled = s.notices.enabled := by
  unfold emptyPortLane
  split <;> simp

/-- Besides its OK a LANE_SET touches its port, its lane, and what the port's leave of UP touches. -/
@[simp] theorem laneSetCarried_frame (r : Request) (p : Port) (s : State) :
    (laneSetCarried r p s).phase = s.phase ∧
    (laneSetCarried r p s).flows = s.flows ∧
    (laneSetCarried r p s).groups = s.groups ∧
    (laneSetCarried r p s).sched = s.sched ∧
    (laneSetCarried r p s).trunk = s.trunk ∧
    (laneSetCarried r p s).timer = s.timer ∧
    (laneSetCarried r p s).follower = s.follower ∧
    (laneSetCarried r p s).engine.unitAddr = s.engine.unitAddr ∧
    (laneSetCarried r p s).engine.requests = s.engine.requests ∧
    (laneSetCarried r p s).engine.replies = s.engine.replies ∧
    (laneSetCarried r p s).engine.inFlight = s.engine.inFlight ∧
    (laneSetCarried r p s).engine.held = s.engine.held ∧
    (laneSetCarried r p s).aligner.skew = s.aligner.skew ∧
    (laneSetCarried r p s).aligner.releaseSlot = s.aligner.releaseSlot ∧
    (laneSetCarried r p s).aligner.lateLimit = s.aligner.lateLimit ∧
    (laneSetCarried r p s).notices.enabled = s.notices.enabled := by
  unfold laneSetCarried
  dsimp only
  split
  · unfold laneSetRestart
    split <;> simp
  · unfold laneSetJudge
    split
    · split <;> simp
    · simp

/-- A LANE_SET acts as a restart: it changes enabled or mode (R37). -/
def laneSetRestarts (r : Request) (p : Port) (s : State) : Bool :=
  actsAsRestart s.ports[p].profile (newProfile r p s.ports[p].profile)

/-- The part with the LANE_SET's record in its port. -/
def withProfile (r : Request) (p : Port) (s : State) : State :=
  modPort p (fun x => { x with profile := newProfile r p s.ports[p].profile }) s

/-- Why a LANE_SET takes an UP port out of UP (2.5). -/
def laneSetCause (r : Request) (p : Port) (s : State) : DownCause :=
  if (newProfile r p s.ports[p].profile).enabled then .restart else .disabled

theorem withProfile_st (r : Request) (p q : Port) (s : State) :
    (withProfile r p s).ports[q].rx = s.ports[q].rx := upd_get_map _ _ _ _ PortState.rx fun _ => rfl

theorem laneSetCarried_leaves {r : Request} {p : Port} {s : State} (ha : laneSetRestarts r p s = true)
    (hup : s.ports[p].rx.st = .up) :
    laneSetCarried r p s = emptyPortLane p (leaveUp p (laneSetCause r p s) (withProfile r p s)) := by
  have hup : portUp (withProfile r p s) p = true := portUp_iff.mpr (by rw [withProfile_st, hup])
  unfold laneSetRestarts at ha
  unfold withProfile at hup
  simp only [laneSetCarried, laneSetRestart, ha, hup, if_true]
  rfl

theorem laneSetCarried_searches {r : Request} {p : Port} {s : State} (ha : laneSetRestarts r p s = true)
    (hup : s.ports[p].rx.st ≠ .up) :
    laneSetCarried r p s =
      emptyPortLane p (modRx p (restartSearch (newProfile r p s.ports[p].profile).enabled) (withProfile r p s)) := by
  have hup : ¬portUp (withProfile r p s) p = true := fun e => hup (by rw [← withProfile_st r p p s, portUp_iff.mp e])
  unfold laneSetRestarts at ha
  unfold withProfile at hup
  simp only [laneSetCarried, laneSetRestart, ha, if_true, if_neg hup]
  rfl

theorem laneSetCarried_judges {r : Request} {p : Port} {s : State} (ha : laneSetRestarts r p s = false) :
    laneSetCarried r p s =
      laneSetJudge p s.ports[p].profile (newProfile r p s.ports[p].profile) (withProfile r p s) := by
  unfold laneSetRestarts at ha
  simp only [laneSetCarried, ha, Bool.false_eq_true, if_false]
  rfl

/-- Judging the hysteresis state of the port's lane touches that lane alone. -/
@[simp] theorem laneSetJudge_keeps (p : Port) (a b : Profile) (s : State) :
    (laneSetJudge p a b s).ports = s.ports ∧
    (laneSetJudge p a b s).free = s.free ∧
    (laneSetJudge p a b s).aligner = s.aligner ∧
    (laneSetJudge p a b s).flows = s.flows ∧
    (laneSetJudge p a b s).groups = s.groups ∧
    (laneSetJudge p a b s).sched = s.sched ∧
    (laneSetJudge p a b s).follower = s.follower ∧
    (laneSetJudge p a b s).engine = s.engine ∧
    (laneSetJudge p a b s).counters = s.counters ∧
    (laneSetJudge p a b s).snapshot = s.snapshot ∧
    (laneSetJudge p a b s).notices = s.notices := by
  unfold laneSetJudge
  split
  · split <;> simp
  · simp

end Sys2Proof.Machine
end

section
/-! PROOF. Every step keeps the receivers to R21's table and the profiles to R19's ranges. -/

-- Checked one after another, as the tests are: the theorems of a section all at once take a thread each.
set_option Elab.async false

namespace Sys2Proof.Machine

/-! ### The ports after a LANE_SET (R36, R37) -/

/-- A restart sets the receiver to HUNT or to OFF, from UP as from the other states. -/
theorem restartSearch_of_up {x : Receiver} (h : x.st = .up) (enabled : Bool) :
    restartSearch enabled x = Receiver.fresh (DownCause.after (if enabled then .restart else .disabled)) := by
  cases enabled <;> simp only [restartSearch, h] <;> rfl

theorem laneSetRestart_ports (p : Port) (enabled : Bool) (s : State) :
    (laneSetRestart p enabled s).ports = upd s.ports p fun x => { x with rx := restartSearch enabled x.rx } := by
  unfold laneSetRestart
  rw [(emptyPortLane_frame _ _).1]
  split
  · next hup =>
    have hup : s.ports[p.val].rx.st = .up := portUp_iff.mp hup
    rw [show (leaveUp p (if enabled then .restart else .disabled) s).ports = _ by simp; rfl]
    exact upd_congr _ _ _ _ (by rw [restartSearch_of_up hup])
  · simp

/-- The receiver after a LANE_SET: restarted where enabled or mode changes. -/
def laneSetRx (old new : Profile) (x : Receiver) : Receiver :=
  if actsAsRestart old new then restartSearch new.enabled x else x

theorem laneSetCarried_ports (r : Request) (p : Port) (s : State) :
    (laneSetCarried r p s).ports = upd s.ports p fun x =>
      { profile := newProfile r p s.ports[p].profile
        rx := laneSetRx s.ports[p].profile (newProfile r p s.ports[p].profile) x.rx } := by
  unfold laneSetCarried laneSetRx
  dsimp only
  split
  · rw [laneSetRestart_ports]
    simp
  · unfold laneSetJudge
    split
    · split <;> simp
    · simp

/-! ### One port -/

/-- A port's receiver keeps R21's table, its budget limit R19's range, and while the part runs it is OFF just when it is
disabled. -/
def PortState.soundIn (phase : Phase) (x : PortState) : Prop :=
  x.rx.sound ∧ 16 ≤ x.profile.limit ∧ x.profile.limit ≤ 255 ∧
  (phase = .running → (x.rx.st = .off ↔ x.profile.enabled = false))

/-- T-in's unused fields stay as they are (R19). -/
def Profile.tInKept (x : Profile) : Prop := x.mode = .pass ∧ x.mgmt = true ∧ x.tag = none

theorem receiversSound_iff (s : State) :
    receiversSound s ↔ (∀ p : Port, s.ports[p].soundIn s.phase) ∧ s.ports[tIn].profile.tInKept := Iff.rfl

theorem receivers_of_frame {s t : State} (h : receiversSound s) (f : t.phase = s.phase ∧ t.ports = s.ports) :
    receiversSound t := by
  unfold receiversSound
  rw [f.1, f.2]
  exact h

/-- One port changed keeps the law when the port stays sound and T-in keeps its unused fields. -/
theorem receivers_of_upd {s t : State} {p : Port} {f : PortState → PortState} (h : receiversSound s)
    (hphase : t.phase = s.phase) (hports : t.ports = upd s.ports p f)
    (hp : s.ports[p].soundIn s.phase → (f s.ports[p]).soundIn s.phase)
    (ht : p = tIn → s.ports[p].profile.tInKept → (f s.ports[p]).profile.tInKept) : receiversSound t := by
  rw [receiversSound_iff, hphase, hports]
  refine ⟨fun q => ?_, ?_⟩ <;> rw [upd_get] <;> split
  · next e => exact e ▸ hp (h.1 p)
  · exact h.1 q
  · next e => exact e ▸ ht e.symm (e ▸ h.2)
  · exact h.2

/-- All ports changed in one way. -/
theorem receivers_of_map {s t : State} {f : PortState → PortState} (h : receiversSound s)
    (hports : t.ports = s.ports.map f)
    (hp : ∀ p : Port, s.ports[p].soundIn s.phase → (f s.ports[p]).soundIn t.phase)
    (ht : ∀ x : PortState, x.profile.tInKept → (f x).profile.tInKept) : receiversSound t := by
  have hget (p : Port) : t.ports[p] = f s.ports[p] := by simp [hports]
  rw [receiversSound_iff]
  refine ⟨fun p => ?_, ?_⟩ <;> rw [hget]
  · exact hp p (h.1 p)
  · exact ht _ h.2

/-- A part that does not run need only keep its ports. -/
theorem receivers_of_asleep {s t : State} (h : receiversSound s) (hphase : t.phase ≠ .running)
    (hports : t.ports = s.ports) : receiversSound t :=
  receivers_of_map (f := id) h (by simp [hports]) (fun _ ⟨hr, h16, h255, _⟩ => ⟨hr, h16, h255, fun e => absurd e hphase⟩)
    fun _ => id

/-- A change of the receiver alone keeps the law when the receiver stays sound and is OFF just when it was. -/
theorem receivers_of_rx {s t : State} {p : Port} {f : Receiver → Receiver} (h : receiversSound s)
    (hphase : t.phase = s.phase) (hports : t.ports = upd s.ports p fun x => { x with rx := f x.rx })
    (hs : s.ports[p].rx.sound → (f s.ports[p].rx).sound)
    (hoff : s.ports[p].rx.st ≠ .off ∧ (f s.ports[p].rx).st ≠ .off) : receiversSound t :=
  receivers_of_upd h hphase hports
    (fun ⟨hr, h16, h255, hen⟩ =>
      ⟨hs hr, h16, h255, fun hrun => ⟨fun e => absurd e hoff.2, fun e => absurd ((hen hrun).mpr e) hoff.1⟩⟩)
    (fun _ => id)

theorem fresh_sound {st : RxState} (h : st = .off ∨ st = .hunt) : (Receiver.fresh st).sound := by
  rcases h with rfl | rfl
  · exact ⟨rfl, rfl⟩
  · exact fresh_hunt_sound

theorem moves_off {x y : Receiver} (h : x.moves y) : y.st ≠ .off := by
  rcases h.2 with ⟨-, e⟩ | ⟨-, e | e⟩ <;> simp [e]

theorem level_zero_sound {x : Receiver} (h : x.sound) : Receiver.sound { x with level := 0 } := by
  unfold Receiver.sound at h ⊢
  cases hst : x.st <;> simp_all

/-- A port that initialisation leaves enabled hunts, and one that it leaves disabled stays OFF (R15). -/
theorem afterInit_sound {phase : Phase} {x : PortState} (hoff : x.rx.st = .off) (h : x.soundIn phase) :
    x.afterInit.soundIn .running := by
  obtain ⟨hr, h16, h255, -⟩ := h
  unfold PortState.afterInit
  split
  · next hen => exact ⟨fresh_sound (.inr rfl), h16, h255, fun _ => by simp [Receiver.fresh, hen]⟩
  · next hen => exact ⟨hr, h16, h255, fun _ => by simp [hoff, hen]⟩

theorem receivers_atReset : receiversSound State.reset := by
  rw [receiversSound_iff]
  have hrx : ∀ p : Port, State.reset.ports[p].rx = Receiver.fresh .off := by decide
  have hlimit : ∀ p : Port, 16 ≤ State.reset.ports[p].profile.limit ∧ State.reset.ports[p].profile.limit ≤ 255 := by
    decide
  exact ⟨fun p => ⟨hrx p ▸ fresh_sound (.inl rfl), (hlimit p).1, (hlimit p).2, nofun⟩, rfl, rfl, rfl⟩

/-! ### LANE_SET -/

theorem restartSearch_sound {x : Receiver} (enabled : Bool) (h : x.sound) : (restartSearch enabled x).sound := by
  unfold restartSearch
  split
  · split
    · exact fresh_sound (.inr rfl)
    · exact h
  · split
    · exact fresh_sound (.inr rfl)
    · exact fresh_sound (.inl rfl)

theorem restartSearch_off (enabled : Bool) (x : Receiver) : (restartSearch enabled x).st = .off ↔ enabled = false := by
  unfold restartSearch
  split
  · next h => cases enabled <;> simp [h, Receiver.fresh]
  · cases enabled <;> simp [Receiver.fresh]

/-- The profile of a LANE_SET that passes its checks is in R19's ranges. -/
theorem newProfile_limit {r : Request} {p : Port} (h : laneSetOk r p = true) (old : Profile) :
    16 ≤ (newProfile r p old).limit ∧ (newProfile r p old).limit ≤ 255 := by
  have h16 : 16 ≤ r.arg 10 := by
    simp only [laneSetOk, Bool.and_eq_true, decide_eq_true_eq] at h
    exact h.1.2
  have h255 := r.arg_le 10
  unfold newProfile
  split <;> exact ⟨h16, h255⟩

theorem receivers_of_laneSet {s : State} {r : Request} {p : Port} (hrun : s.phase = .running)
    (ha : laneSetAllowed r p s) (h : receiversSound s) : receiversSound (laneSetCarried r p s) := by
  refine receivers_of_upd h (by simp) (laneSetCarried_ports r p s) (fun ⟨hr, _, _, hen⟩ => ?_) (fun hp ht => ?_)
  · have hlimit := newProfile_limit ha.1 s.ports[p].profile
    unfold laneSetRx
    split
    · exact ⟨restartSearch_sound _ hr, hlimit.1, hlimit.2, fun _ => restartSearch_off _ _⟩
    · next hno =>
      have hsame : s.ports[p].profile.enabled = (newProfile r p s.ports[p].profile).enabled := by
        simp only [actsAsRestart, Bool.or_eq_true, bne_iff_ne, not_or, not_not] at hno
        exact hno.1
      exact ⟨hr, hlimit.1, hlimit.2, fun _ => hsame ▸ hen hrun⟩
  · subst hp
    simpa [newProfile, Profile.tInKept] using ht

/-- The receivers' law is kept by every part. -/
theorem receivers_kept : KeptByParts (· = .running) receiversSound where
  rx s p f hm h := receivers_of_rx h (by simp) (by simp) hm.1 ⟨moves_not_off hm, moves_off hm⟩
  leaveUp s p c level hst hc h := by
    have hafter : c.after = .hunt := by cases c <;> simp_all [DownCause.after]
    exact receivers_of_rx (p := p) (f := fun _ => Receiver.fresh c.after) h (by simp) (by simp)
      (fun _ => fresh_sound (.inr hafter)) ⟨by rw [hst]; nofun, by rw [hafter]; nofun⟩
  enterUp s p hst h :=
    receivers_of_rx (p := p) (f := fun _ => { Receiver.fresh .up with count := Config.headersToUp }) h (by simp) (by simp)
      (fun _ => ⟨Nat.zero_le _, rfl, Nat.zero_lt_succ _⟩) ⟨by rw [hst]; nofun, nofun⟩
  renew s h := h
  engineTick s h := receivers_of_frame h (by simp)
  counterTick s h := receivers_of_frame h (by simp)
  release s h := receivers_of_frame h (by simp)
  transmit s b h := receivers_of_frame h (by simp)
  lease s p h := receivers_of_frame h (by simp)
  reply s r st o _ h := h
  unitReset s r h :=
    receivers_of_map (f := fun x => { x with rx := { x.rx with level := 0 } }) h (by rw [doUnitReset_eq]) (fun p hp => by
      rw [doUnitReset_eq]
      exact ⟨level_zero_sound hp.1, hp.2⟩) (fun _ => id)
  laneSet s r p hrun _ ha h := receivers_of_laneSet hrun ha h
  schedCancel s r _ h := receivers_of_frame h (by simp)
  groupFlush s r _ h := receivers_of_frame h (by simp)
  cycleSet s r _ h := receivers_of_frame h (by simp)
  atReset := receivers_atReset
  released s u hp h := receivers_of_asleep h nofun (by simp)
  initSlot s n hp h := receivers_of_asleep h nofun (by simp)
  initDone s n hp ho h := by
    have hoff := ho (by rw [hp]; nofun)
    refine receivers_of_map h rfl (fun p hs => afterInit_sound (hoff p) hs) (fun x hx => ?_)
    unfold PortState.afterInit
    split
    · exact hx
    · exact hx
  mark s l f n h := receivers_of_frame h (by simp)
  data s l c h := receivers_of_frame h (by simp)
  passed s c h := receivers_of_frame h (by simp)
  pulse s _ _ h := receivers_of_frame h (by simp)
  swap s h := receivers_of_frame h (by simp)
  drained s i h := receivers_of_frame h (by simp)
  held s h := receivers_of_frame h (by simp)

/-- Settles O60: the receivers' law goes through every part of a step, with the part quiet until it runs, since only
initialisation's end makes an enabled port hunt. -/
theorem everyStepKeepsReceiversSound : Obligations.EveryStepKeepsReceiversSound :=
  fun _ _ h ht => receivers_kept.step_quiet h ht

end Sys2Proof.Machine
end

section
/-! PROOF. Every step keeps the active bank management-capable, the tick count equal to the cycle number modulo 4096, and
a valid header on T-out. -/

-- Checked one after another, as the tests are: the theorems of a section all at once take a thread each.
set_option Elab.async false

namespace Sys2Proof.Machine

/-! ### What T-out sends -/

theorem trunk_of_frame {s t : State} (h : trunkSound s) (f : t.phase = s.phase ∧ t.trunk = s.trunk) : trunkSound t := by
  unfold trunkSound
  rw [f.1, f.2]
  exact h

/-- T-out sends a cell with a valid header (R2, R120). -/
def sendsValid (s : State) : Prop := ∃ c, s.trunk.sending = some c ∧ headerValid c = true

theorem trunk_of_sendsValid {s : State} (hp : s.phase ≠ .heldInReset) (h : sendsValid s) : trunkSound s := by
  obtain ⟨c, hc, hv⟩ := h
  unfold trunkSound
  split
  · contradiction
  · simp_all
  · simp_all

theorem sendsValid_of_trunk {s : State} (hp : s.phase ≠ .heldInReset) (h : trunkSound s) : sendsValid s := by
  unfold trunkSound at h
  split at h
  · contradiction
  · contradiction
  · exact ⟨_, by assumption, h⟩

theorem sendsValid_of_frame {s t : State} (h : sendsValid s) (f : t.trunk.sending = s.trunk.sending) : sendsValid t := by
  unfold sendsValid
  rw [f]
  exact h

theorem putOut_sendsValid {c : Octets} (h : headerValid c = true) (s : State) : sendsValid (putOut c s) := ⟨c, rfl, h⟩

theorem rewriteAndSend_sendsValid (r : GroupRec) (s : State) : sendsValid (rewriteAndSend r s) := by
  unfold rewriteAndSend
  split
  · exact putOut_sendsValid fillCell_valid s
  · next e _ =>
    exact sendsValid_of_frame (putOut_sendsValid (dataOctets_valid e s.timer.cycle s.timer.slot r) s) (by simp)

theorem send_sendsValid (c : Choice) {s : State} (h : sendsValid s) : sendsValid (send c s) := by
  cases c with
  | head g borrowed =>
    simp only [send, takeHead]
    split
    · exact h
    · exact rewriteAndSend_sendsValid _ _
  | reply =>
    simp only [send, sendReply]
    split
    · exact h
    · next x _ _ => exact sendsValid_of_frame (putOut_sendsValid (replyOctets_valid s.engine.unitAddr x) s) (by simp)
  | notice =>
    simp only [send, sendNotice]
    split
    · exact h
    · exact putOut_sendsValid (noticeOctets_valid s.engine.unitAddr _) s
  | fill => exact putOut_sendsValid fillCell_valid _

theorem transmit_sendsValid {s : State} (swaps : Bool) (h : sendsValid s) : sendsValid (transmit swaps s) := by
  unfold transmit
  dsimp only
  split <;> exact send_sendsValid _ (sendsValid_of_frame h (by simp))

/-- On a part that sends, every share of a boundary leaves a valid header on T-out. -/
theorem sendsValid_kept_by_tasks : KeptByTasks sendsValid where
  renew s h := h
  engineTick s h := sendsValid_of_frame h (by simp)
  counterTick s h := sendsValid_of_frame h (by simp)
  release s h := sendsValid_of_frame h (by simp)
  transmit s b h := transmit_sendsValid b h

/-- What T-out sends is kept by every event: only reset silences it, and every cell that is put out has a valid header. -/
theorem trunk_kept : KeptByEvents trunkSound where
  rx s p f _ h := trunk_of_frame h (by simp)
  leaveUp s p c level _ _ h := trunk_of_frame h (by simp)
  enterUp s p _ h := trunk_of_frame h (by simp)
  atReset := rfl
  released s u _ _ := trunk_of_sendsValid (s := putOut fillCell _) nofun (putOut_sendsValid fillCell_valid _)
  initSlot s n _ _ := trunk_of_sendsValid (s := putOut fillCell _) nofun (putOut_sendsValid fillCell_valid _)
  initDone s n hp h := by
    refine trunk_of_sendsValid nofun ?_
    exact sendsValid_of_trunk (s := s) (by rw [hp]; nofun) h
  mark s l f n h := trunk_of_frame h (by simp)
  data s l c h := trunk_of_frame h (by simp)
  passed s c h := trunk_of_frame h (by simp)
  serve s m hp h := by
    refine trunk_of_sendsValid (by simp [hp]) ?_
    exact sendsValid_kept_by_tasks.serve (fun s h => sendsValid_of_frame h (by simp)) (fun _ _ h => h) m
      (sendsValid_of_trunk (by simp [hp]) h)
  engineTick s h := trunk_of_frame h (by simp)
  counterTick s h := trunk_of_frame h (by simp)
  pulse s _ _ h := trunk_of_frame h (by simp)
  swap s h := trunk_of_frame h (by simp)
  drained s i h := trunk_of_frame h (by simp)
  held s h := trunk_of_frame h (by simp)
  reaches s r _ h := trunk_of_frame h (by simp)
  take s h := trunk_of_frame h (by simp)

/-! ### The banks -/

theorem capable_of_frame {s t : State} (h : activeBankCapable s)
    (f : t.sched.bankA = s.sched.bankA ∧ t.sched.bankB = s.sched.bankB ∧ t.sched.active = s.sched.active ∧
      t.sched.swapPending = s.sched.swapPending) : activeBankCapable t := by
  obtain ⟨ha, hb, hactive, hswap⟩ := f
  have hbank (x : Bank) : t.sched.bank x = s.sched.bank x := by cases x <;> assumption
  unfold activeBankCapable Schedule.staged
  rw [hbank, hbank, hactive, hswap]
  exact h

theorem takeSwap_capable {s : State} (h : activeBankCapable s) : activeBankCapable (takeSwap s) := by
  unfold takeSwap
  split
  · next hp =>
    refine capable_of_frame (s := { s with sched := { s.sched with active := s.sched.staged, swapPending := false } })
      ⟨?_, nofun⟩ (by simp)
    exact h.2 hp
  · exact h

theorem transmit_capable {s : State} (swaps : Bool) (h : activeBankCapable s) : activeBankCapable (transmit swaps s) := by
  have hend : activeBankCapable (endSlot s) := capable_of_frame h (by simp)
  unfold transmit
  dsimp only
  split
  · exact capable_of_frame (takeSwap_capable hend) (by simp)
  · exact capable_of_frame hend (by simp)

theorem takePulse_capable {s : State} (h : activeBankCapable s) : activeBankCapable (takePulse s) := by
  unfold takePulse
  dsimp only
  split
  · exact takeSwap_capable (capable_of_frame h (by simp [markBegun]))
  · exact capable_of_frame h (by simp [markBegun])

theorem setBank_staged_capable {s : State} (v : Vector SlotEntry 64) (hswap : s.sched.swapPending = false)
    (h : activeBankCapable s) : activeBankCapable { s with sched := s.sched.setBank s.sched.staged v } := by
  have hactive : (s.sched.setBank s.sched.staged v).bank s.sched.active = s.sched.bank s.sched.active := by
    unfold Schedule.staged
    cases s.sched.active <;> rfl
  have hsame : ∀ x, (s.sched.setBank x v).active = s.sched.active ∧ (s.sched.setBank x v).swapPending = false := by
    intro x
    cases x <;> exact ⟨rfl, hswap⟩
  refine ⟨?_, fun e => ?_⟩
  · show capable ((s.sched.setBank s.sched.staged v).bank (s.sched.setBank s.sched.staged v).active)
    rw [(hsame _).1, hactive]
    exact h.1
  · have e : (s.sched.setBank s.sched.staged v).swapPending = true := e
    simp [(hsame _).2] at e

theorem capable_atReset : activeBankCapable State.reset := by
  refine ⟨(bankCapable_iff _).mp (by decide), nofun⟩

theorem capable_kept : KeptByParts (fun _ => True) activeBankCapable where
  rx s p f _ h := capable_of_frame h (by simp)
  leaveUp s p c level _ _ h := capable_of_frame h (by simp)
  enterUp s p _ h := capable_of_frame h (by simp)
  engineTick s h := capable_of_frame h (by simp)
  counterTick s h := capable_of_frame h (by simp)
  release s h := capable_of_frame h (by simp)
  transmit s b h := transmit_capable b h
  lease s p h := capable_of_frame h (by simp)
  reply s r st o _ h := h
  unitReset s r h := by
    rw [doUnitReset_eq]
    exact ⟨h.1, nofun⟩
  laneSet s r p _ _ _ h := capable_of_frame h (by simp)
  schedWrite s v hswap h := setBank_staged_capable v hswap h
  schedSwap s r _ hcap _ h := ⟨h.1, fun _ => (bankCapable_iff _).mp hcap⟩
  schedCancel s r _ h := by
    unfold doSchedCancel
    split
    · exact capable_of_frame (s := { s with sched := { s.sched with swapPending := false } }) ⟨h.1, nofun⟩ (by simp [reply])
    · exact h
  groupFlush s r _ h := capable_of_frame h (by simp)
  cycleSet s r _ h := capable_of_frame h (by simp)
  atReset := capable_atReset
  mark s l f n h := capable_of_frame h (by simp)
  data s l c h := capable_of_frame h (by simp)
  passed s c h := capable_of_frame h (by simp)
  pulse s _ _ h := takePulse_capable h
  swap s h := takeSwap_capable h
  drained s i h := capable_of_frame h (by simp)
  held s h := capable_of_frame h (by simp)

/-! ### The timer and the follower -/

theorem time_of_frame {s t : State} (h : timeSound s)
    (f : t.timer.tick = s.timer.tick ∧ t.timer.cycle = s.timer.cycle ∧ t.follower = s.follower) : timeSound t := by
  unfold timeSound
  rw [f.1, f.2.1, f.2.2]
  exact h

/-- A cycle start raises the cycle number and the tick count together (R132). -/
theorem Timer.next_tick {t : Timer} (cut : Bool) (h : t.tick = t.cycle.setWidth 12) :
    (t.next cut).tick = (t.next cut).cycle.setWidth 12 := by
  have hraise : t.tick + 1 = (t.cycle + 1).setWidth 12 := by rw [h, BitVec.setWidth_add _ _ (by decide)]; rfl
  unfold Timer.next
  generalize (if cut then 0 else t.slot + 1 : Slot) = n
  dsimp only
  split
  · exact hraise
  · exact h

theorem Timer.handOn_tick {t : Timer} (h : t.tick = t.cycle.setWidth 12) :
    t.handOn.tick = t.handOn.cycle.setWidth 12 := by
  unfold Timer.handOn
  split
  · exact h
  · exact Timer.next_tick _ h

theorem phaseError_range (n : Slot) : -32 ≤ phaseError n ∧ phaseError n ≤ 31 := by
  unfold phaseError
  split <;> omega

/-- A pulse leaves an arm set only in ONCE mode: it clears the arm that it completes (R137). -/
theorem followPulse_armed {s : State} (p : Int) (h : s.follower.armed = true → s.follower.mode = .once) :
    (followPulse p s).follower.armed = true → (followPulse p s).follower.mode = .once := by
  unfold followPulse
  dsimp only
  repeat' split
  all_goals simp_all

theorem takePulse_time {s : State} (h : timeSound s) : timeSound (takePulse s) := by
  obtain ⟨htick, harm, hwindow, -⟩ := h
  have hpulse : (takePulse s).follower =
      (followPulse (phaseError (s.timer.slot + 1))
        (markBegun { s with timer := s.timer.next (pulseCuts s (phaseError (s.timer.slot + 1))) })).follower := by
    unfold takePulse
    dsimp only
    split <;> simp
  refine ⟨by simpa using Timer.next_tick _ htick, ?_, by simpa using hwindow, fun q hq => ?_⟩
  · rw [hpulse]
    exact followPulse_armed _ harm
  · simp only [hpulse, followPulse_frame, Option.some.injEq] at hq
    exact hq ▸ phaseError_range _

theorem doCycleSet_time {s : State} (r : Request) (h : timeSound s) : timeSound (doCycleSet r s) := by
  have ⟨htick, _, _, hphase⟩ := h
  unfold doCycleSet
  split
  · exact h
  · next m _ =>
    split
    · exact h
    · next hw =>
      have hset : timeSound
          { s with follower := { s.follower with mode := m, window := r.arg 1, armed := false } } :=
        ⟨htick, nofun, Nat.le_of_not_lt hw, hphase⟩
      dsimp only
      split
      · exact time_of_frame hset (by simp [reply])
      · exact time_of_frame hset ⟨rfl, rfl, rfl⟩

theorem time_kept : KeptByParts (fun _ => True) timeSound where
  rx s p f _ h := time_of_frame h (by simp)
  leaveUp s p c level _ _ h := time_of_frame h (by simp)
  enterUp s p _ h := time_of_frame h (by simp)
  engineTick s h := time_of_frame h (by simp)
  counterTick s h := time_of_frame h (by simp)
  release s h := time_of_frame h (by simp)
  transmit s b h := time_of_frame h (by simp)
  lease s p h := time_of_frame h (by simp)
  reply s r st o _ h := h
  unitReset s r h := by
    rw [doUnitReset_eq]
    exact ⟨h.1, nofun, h.2.2⟩
  laneSet s r p _ _ _ h := time_of_frame h (by simp)
  schedCancel s r _ h := time_of_frame h (by simp)
  groupFlush s r _ h := time_of_frame h (by simp)
  cycleSet s r _ h := doCycleSet_time r h
  cycleArm s r hm _ _ h := ⟨h.1, fun _ => hm, h.2.2⟩
  atReset := ⟨rfl, nofun, by decide, nofun⟩
  initDone s n _ _ h := ⟨rfl, h.2⟩
  mark s l f n h := time_of_frame h (by simp)
  data s l c h := time_of_frame h (by simp)
  passed s c h := time_of_frame h (by simp)
  handOn s _ h := ⟨Timer.handOn_tick h.1, h.2⟩
  pulse s _ _ h := takePulse_time h
  swap s h := time_of_frame h (by simp)
  drained s i h := time_of_frame h (by simp)
  held s h := time_of_frame h (by simp)

/-- Settles O59: the banks, the timer with the follower, and T-out are three laws, each kept by every part of a step. -/
theorem everyStepKeepsScheduleTimeAndTrunk : Obligations.EveryStepKeepsScheduleTimeAndTrunk :=
  fun _ _ ⟨hcapable, htime, htrunk⟩ ht => ⟨capable_kept.step hcapable ht, time_kept.step htime ht, trunk_kept.step htrunk ht⟩

end Sys2Proof.Machine
end

section
/-! PROOF. Every step keeps the owner's port UP and permitted and the snapshot's holder UP. -/

-- Checked one after another, as the tests are: the theorems of a section all at once take a thread each.
set_option Elab.async false

namespace Sys2Proof.Machine

/-! ### What a leave of UP and a LANE_SET do to the owner and the snapshot (R157, R175) -/

theorem ownerPort_eq_some_iff {e : Engine} {p : Port} : e.ownerPort = some p ↔ ∃ o, e.owner = some o ∧ o.port = p :=
  Option.map_eq_some_iff

theorem leaveUp_owner (p : Port) (c : DownCause) (s : State) :
    (leaveUp p c s).engine.owner = if s.engine.ownerPort = some p then none else s.engine.owner := by
  simp only [leaveUp, holderLeavesUp_frame, ownerLeavesUp]
  split <;> simp_all

theorem leaveUp_snapshot (p : Port) (c : DownCause) (s : State) :
    (leaveUp p c s).snapshot = if s.snapshot.map Snapshot.holder = some p then none else s.snapshot := by
  simp only [leaveUp, holderLeavesUp]
  split <;> simp_all

/-! ### The owner -/

/-- The owner's port is UP and permitted, with the lease in its range (R143, R154). -/
def Ownership.qualifiedIn (s : State) (o : Ownership) : Prop :=
  s.ports[o.port].rx.st = .up ∧ s.ports[o.port].profile.mgmt = true ∧ 1 ≤ o.remaining ∧ o.remaining ≤ o.lease ∧
  o.lease ≤ 255

theorem ownerQualified_iff (s : State) : ownerQualified s ↔ ∀ o, s.engine.owner = some o → o.qualifiedIn s := by
  unfold ownerQualified
  split <;> simp_all [Ownership.qualifiedIn]

/-- The owner that is left is the former one, and its port is as UP and as permitted as before. -/
theorem owner_of_left {s t : State} (h : ownerQualified s)
    (f : ∀ o, t.engine.owner = some o → s.engine.owner = some o ∧
      (s.ports[o.port].rx.st = .up → t.ports[o.port].rx.st = .up) ∧
      t.ports[o.port].profile.mgmt = s.ports[o.port].profile.mgmt) : ownerQualified t := by
  rw [ownerQualified_iff] at h ⊢
  intro o ho
  obtain ⟨hs, hup, hm⟩ := f o ho
  obtain ⟨h1, h2, h3⟩ := h o hs
  exact ⟨hup h1, hm ▸ h2, h3⟩

theorem owner_of_frame {s t : State} (h : ownerQualified s)
    (f : t.ports = s.ports ∧ t.engine.owner = s.engine.owner) : ownerQualified t :=
  owner_of_left h fun o ho => ⟨f.2 ▸ ho, by simp [f.1], by simp [f.1]⟩

theorem owner_of_none {t : State} (h : t.engine.owner = none) : ownerQualified t := by
  simp [ownerQualified_iff, h]

/-- A port leaves UP and the owner with it, where it is the owner's (R157). -/
theorem owner_of_leave {s t : State} {p : Port} (h : ownerQualified s)
    (hown : t.engine.owner = if s.engine.ownerPort = some p then none else s.engine.owner)
    (hports : ∀ q : Port, q ≠ p → t.ports[q] = s.ports[q]) : ownerQualified t := by
  refine owner_of_left h fun o ho => ?_
  rw [hown] at ho
  split at ho
  · cases ho
  · next hne =>
    have hq : o.port ≠ p := fun e => hne (ownerPort_eq_some_iff.mpr ⟨o, ho, e⟩)
    rw [hports o.port hq]
    exact ⟨ho, id, rfl⟩

/-! ### The holder -/

/-- The holder's port is UP, with the lifetime in its range (R169). -/
def Snapshot.qualifiedIn (s : State) (x : Snapshot) : Prop :=
  s.ports[x.holder].rx.st = .up ∧ 1 ≤ x.remaining ∧ x.remaining ≤ x.lifetime ∧ x.lifetime ≤ 255

theorem holderQualified_iff (s : State) : holderQualified s ↔ ∀ x, s.snapshot = some x → x.qualifiedIn s := by
  unfold holderQualified
  split <;> simp_all [Snapshot.qualifiedIn]

theorem holder_of_left {s t : State} (h : holderQualified s)
    (f : ∀ x, t.snapshot = some x → s.snapshot = some x ∧
      (s.ports[x.holder].rx.st = .up → t.ports[x.holder].rx.st = .up)) : holderQualified t := by
  rw [holderQualified_iff] at h ⊢
  intro x hx
  obtain ⟨hs, hup⟩ := f x hx
  obtain ⟨h1, h2⟩ := h x hs
  exact ⟨hup h1, h2⟩

theorem holder_of_frame {s t : State} (h : holderQualified s)
    (f : t.ports = s.ports ∧ t.snapshot = s.snapshot) : holderQualified t :=
  holder_of_left h fun x hx => ⟨f.2 ▸ hx, by simp [f.1]⟩

theorem holder_of_none {t : State} (h : t.snapshot = none) : holderQualified t := by
  simp [holderQualified_iff, h]

/-- A port leaves UP and the snapshot ends, where the port is its holder's (R175). -/
theorem holder_of_leave {s t : State} {p : Port} (h : holderQualified s)
    (hsnap : t.snapshot = if s.snapshot.map Snapshot.holder = some p then none else s.snapshot)
    (hports : ∀ q : Port, q ≠ p → t.ports[q] = s.ports[q]) : holderQualified t := by
  refine holder_of_left h fun x hx => ?_
  rw [hsnap] at hx
  split at hx
  · cases hx
  · next hne =>
    have hq : x.holder ≠ p := fun e => hne (holder_eq_some_iff.mpr ⟨x, hx, e⟩)
    rw [hports x.holder hq]
    exact ⟨hx, id⟩

/-! ### Receivers that move, and LANE_SET -/

theorem modRx_other (p : Port) (f : Receiver → Receiver) (s : State) {q : Port} (h : q ≠ p) :
    (modRx p f s).ports[q] = s.ports[q] := by
  simp only [modRx_frame, upd_get, if_neg h]

theorem modRx_mgmt (p q : Port) (f : Receiver → Receiver) (s : State) :
    (modRx p f s).ports[q].profile = s.ports[q].profile := by
  simp only [modRx_frame]
  exact upd_get_map _ _ _ _ PortState.profile fun _ => rfl

theorem moves_keeps_up {x y : Receiver} (h : x.moves y) (hup : x.st = .up) : y.st = .up := by
  rcases h.2 with ⟨-, e⟩ | ⟨e | e, -⟩
  · exact e
  · simp [hup] at e
  · simp [hup] at e

theorem modRx_up {p : Port} {f : Receiver → Receiver} {s : State} (hf : s.ports[p].rx.st = .up → (f s.ports[p].rx).st = .up)
    (q : Port) (hup : s.ports[q].rx.st = .up) : (modRx p f s).ports[q].rx.st = .up := by
  simp only [modRx_frame, upd_get]
  split
  · next e => exact e ▸ hf (e ▸ hup)
  · exact hup

theorem leaveUp_other (p : Port) (c : DownCause) (s : State) {q : Port} (h : q ≠ p) :
    (leaveUp p c s).ports[q] = s.ports[q] := by
  simp only [leaveUp_frame, upd_get, if_neg h]

theorem laneSetCarried_other (r : Request) (p : Port) (s : State) {q : Port} (h : q ≠ p) :
    (laneSetCarried r p s).ports[q] = s.ports[q] := by
  rw [laneSetCarried_ports, upd_get, if_neg h]

/-- SELF_LOCKOUT keeps the owner's own port permitted (R36). -/
theorem owner_of_laneSet {s : State} {r : Request} {p : Port} (hown : s.engine.ownerPort = some r.port)
    (ha : laneSetAllowed r p s) (h : ownerQualified s) : ownerQualified (laneSetCarried r p s) := by
  have hother : ∀ q : Port, q ≠ p → (laneSetCarried r p s).ports[q] = s.ports[q] :=
    fun q => laneSetCarried_other r p s
  cases hr : laneSetRestarts r p s with
  | true =>
    by_cases hup : s.ports[p].rx.st = .up
    · exact owner_of_leave h (by rw [laneSetCarried_leaves hr hup]; simp [leaveUp_owner, withProfile]) hother
    · refine owner_of_left h fun o ho => ?_
      have ho : s.engine.owner = some o := by
        rw [laneSetCarried_searches hr hup] at ho
        simpa [withProfile] using ho
      have hq : o.port ≠ p := fun e => hup (e ▸ ((ownerQualified_iff s).mp h o ho).1)
      rw [hother o.port hq]
      exact ⟨ho, id, rfl⟩
  | false =>
    rw [laneSetCarried_judges hr]
    refine owner_of_left h fun o ho => ?_
    have ho : s.engine.owner = some o := by simpa [withProfile] using ho
    have hports : (laneSetJudge p s.ports[p].profile (newProfile r p s.ports[p].profile) (withProfile r p s)).ports =
        (withProfile r p s).ports := by simp
    rw [hports, withProfile_st]
    refine ⟨ho, id, ?_⟩
    by_cases hq : o.port = p
    · have hport : o.port = r.port := Option.some.inj ((ownerPort_eq_some_iff.mpr ⟨o, ho, rfl⟩).symm.trans hown)
      have hnew : (newProfile r p s.ports[p].profile).mgmt = true := by
        by_contra hm
        exact ha.2.1 ⟨hq ▸ hport, by simpa using hm⟩
      have hp : (withProfile r p s).ports[p].profile.mgmt = true := by simpa [withProfile] using hnew
      rw [((ownerQualified_iff s).mp h o ho).2.1]
      simpa only [hq] using hp
    · rw [show (withProfile r p s).ports[o.port] = s.ports[o.port] from (upd_get _ _ _ _).trans (if_neg hq)]

theorem holder_of_laneSet {s : State} {r : Request} {p : Port} (h : holderQualified s) :
    holderQualified (laneSetCarried r p s) := by
  have hother : ∀ q : Port, q ≠ p → (laneSetCarried r p s).ports[q] = s.ports[q] :=
    fun q => laneSetCarried_other r p s
  cases hr : laneSetRestarts r p s with
  | true =>
    by_cases hup : s.ports[p].rx.st = .up
    · exact holder_of_leave h (by rw [laneSetCarried_leaves hr hup]; simp [leaveUp_snapshot, withProfile]) hother
    · refine holder_of_left h fun x hx => ?_
      have hx : s.snapshot = some x := by
        rw [laneSetCarried_searches hr hup] at hx
        simpa [withProfile] using hx
      have hq : x.holder ≠ p := fun e => hup (e ▸ ((holderQualified_iff s).mp h x hx).1)
      rw [hother x.holder hq]
      exact ⟨hx, id⟩
  | false =>
    rw [laneSetCarried_judges hr]
    refine holder_of_left h fun x hx => ⟨by simpa [withProfile] using hx, ?_⟩
    have hports : (laneSetJudge p s.ports[p].profile (newProfile r p s.ports[p].profile) (withProfile r p s)).ports =
        (withProfile r p s).ports := by simp
    rw [hports, withProfile_st]
    exact id

/-! ### The two laws -/

theorem engineTick_ownerQualified {s : State} (h : ownerQualified s) : ownerQualified (engineTick s) := by
  unfold engineTick
  split
  · exact h
  · next o ho =>
    obtain ⟨hup, hm, h1, h2, h3⟩ := (ownerQualified_iff s).mp h o ho
    split
    · exact owner_of_none (by simp)
    · next hr =>
      rw [ownerQualified_iff]
      rintro _ ⟨rfl⟩
      exact ⟨hup, hm, by show 1 ≤ o.remaining - 1; omega, by show o.remaining - 1 ≤ o.lease; omega, h3⟩

theorem counterTick_holderQualified {s : State} (h : holderQualified s) : holderQualified (counterTick s) := by
  unfold counterTick
  split
  · exact h
  · next x hx =>
    obtain ⟨hup, h1, h2, h3⟩ := (holderQualified_iff s).mp h x hx
    split
    · exact holder_of_none (by simp)
    · next hr =>
      rw [holderQualified_iff]
      rintro _ ⟨rfl⟩
      exact ⟨hup, by show 1 ≤ x.remaining - 1; omega, by show x.remaining - 1 ≤ x.lifetime; omega, h3⟩

theorem renewLease_ownerQualified {s : State} (p : Port) (h : ownerQualified s) : ownerQualified (renewLease p s) := by
  unfold renewLease
  split
  · next o ho =>
    obtain ⟨hup, hm, h1, h2, h3⟩ := (ownerQualified_iff s).mp h o ho
    split
    · rw [ownerQualified_iff]
      rintro _ ⟨rfl⟩
      exact ⟨hup, hm, Nat.le_trans h1 h2, Nat.le_refl _, h3⟩
    · exact h
  · exact h

theorem owner_kept : KeptByParts (· = .running) ownerQualified where
  rx s p f hm h := owner_of_left h fun o ho =>
    ⟨by simpa using ho, modRx_up (moves_keeps_up hm) _, by rw [modRx_mgmt]⟩
  leaveUp s p c level _ _ h :=
    owner_of_leave (p := p) h (by simp [leaveUp_owner])
      fun q hq => (leaveUp_other _ _ _ hq).trans (modRx_other _ _ _ hq)
  enterUp s p _ h := owner_of_left h fun o ho => ⟨by simpa using ho, fun hup => by
      simp only [enterUp_frame, upd_get]
      split
      · rfl
      · exact hup, congrArg Profile.mgmt (enterUp_profile p s o.port)⟩
  engineTick s h := engineTick_ownerQualified h
  counterTick s h := owner_of_frame h (by simp)
  release s h := owner_of_frame h (by simp)
  transmit s b h := owner_of_frame h (by simp)
  lease s p h := renewLease_ownerQualified p h
  reply s r st o _ h := h
  own s p lease hup hm h1 h2 _ := ⟨hup, hm, h1, Nat.le_refl _, h2⟩
  disown s _ := trivial
  unitReset s r h := by
    rw [doUnitReset_eq]
    exact owner_of_left h fun o ho => ⟨ho, by simp, by simp⟩
  laneSet s r p _ hown ha h := owner_of_laneSet hown ha h
  schedCancel s r _ h := owner_of_frame h (by simp)
  groupFlush s r _ h := owner_of_frame h (by simp)
  cycleSet s r _ h := owner_of_frame h (by simp)
  atReset := trivial
  initDone s n hp ho h := by
    refine owner_of_none ?_
    by_contra hne
    obtain ⟨o, hsome⟩ := Option.ne_none_iff_exists'.mp hne
    have hup := ((ownerQualified_iff s).mp h o hsome).1
    rw [ho (by rw [hp]; nofun)] at hup
    cases hup
  mark s l f n h := owner_of_frame h (by simp)
  data s l c h := owner_of_frame h (by simp)
  passed s c h := owner_of_frame h (by simp)
  pulse s _ _ h := owner_of_frame h (by simp)
  swap s h := owner_of_frame h (by simp)
  drained s i h := owner_of_frame h (by simp)
  held s h := owner_of_frame h (by simp)

theorem holder_kept : KeptByParts (· = .running) holderQualified where
  rx s p f hm h := holder_of_left h fun x hx => ⟨by simpa using hx, modRx_up (moves_keeps_up hm) _⟩
  leaveUp s p c level _ _ h :=
    holder_of_leave (p := p) h (by simp [leaveUp_snapshot])
      fun q hq => (leaveUp_other _ _ _ hq).trans (modRx_other _ _ _ hq)
  enterUp s p _ h := holder_of_left h fun x hx => ⟨by simpa using hx, fun hup => by
      simp only [enterUp_frame, upd_get]
      split
      · rfl
      · exact hup⟩
  engineTick s h := holder_of_frame h (by simp)
  counterTick s h := counterTick_holderQualified h
  release s h := holder_of_frame h (by simp)
  transmit s b h := holder_of_frame h (by simp)
  lease s p h := holder_of_frame h (by simp)
  reply s r st o _ h := h
  unitReset s r h := by
    rw [doUnitReset_eq]
    exact holder_of_none rfl
  laneSet s r p _ _ _ h := holder_of_laneSet h
  schedCancel s r _ h := holder_of_frame h (by simp)
  groupFlush s r _ h := holder_of_frame h (by simp)
  cycleSet s r _ h := holder_of_frame h (by simp)
  snapTake s x hup h1 h2 h3 _ := ⟨hup, h1, Nat.le_of_eq h2, h3⟩
  snapDrop s _ := trivial
  atReset := trivial
  initDone s n hp ho h := by
    refine holder_of_none ?_
    by_contra hne
    obtain ⟨x, hsome⟩ := Option.ne_none_iff_exists'.mp hne
    have hup := ((holderQualified_iff s).mp h x hsome).1
    rw [ho (by rw [hp]; nofun)] at hup
    cases hup
  mark s l f n h := holder_of_frame h (by simp)
  data s l c h := holder_of_frame h (by simp)
  passed s c h := holder_of_frame h (by simp)
  pulse s _ _ h := holder_of_frame h (by simp)
  swap s h := holder_of_frame h (by simp)
  drained s i h := holder_of_frame h (by simp)
  held s h := holder_of_frame h (by simp)

/-- Settles O55: each law is kept by every part of a step; SELF_LOCKOUT is what keeps the owner permitted, and the end of
ownership and of the snapshot with their port's UP does the rest. -/
theorem everyStepKeepsOwnerAndHolderQualified : Obligations.EveryStepKeepsOwnerAndHolderQualified :=
  fun _ _ ⟨hquiet, hown, hhold⟩ ht =>
    have ⟨hq, ho⟩ := owner_kept.step_quiet ⟨hquiet, hown⟩ ht
    ⟨hq, ho, (holder_kept.step_quiet ⟨hquiet, hhold⟩ ht).2⟩

end Sys2Proof.Machine
end

section
/-! PROOF. How a law that does not read the aligner's own records is kept by the aligner: by its changes of a lane's
membership and by what it does to a lane queue. -/

-- Checked one after another, as the tests are: the theorems of a section all at once take a thread each.
set_option Elab.async false

namespace Sys2Proof.Machine

/-- The law is kept by what the aligner does besides its records: it counts, raises, changes a membership, discards or
releases a lane's cells of an epoch, and appends a cell. -/
structure KeptByAligner (P : State → Prop) : Prop where
  records (s : State) (a : Aligner) : P s → P { s with aligner := a } := by intros; assumption
  counts (s : State) (k : Counters) : P s → P { s with counters := k } := by intros; assumption
  raises (s : State) (k : NoticeKind) (subject : Byte) (detail : Octets) : P s → P (raise k subject detail s)
  member (s : State) (l : Lane) (m : LaneState → Membership) (n : LaneState → Nat) : P s →
      P (modLane l (fun x => { x with member := m x, lateCount := n x }) s)
  discards (s : State) (l : Lane) (e : Epoch) : P s → P (discardEpoch l e s)
  releases (s : State) (l : Lane) (e : Epoch) : P s →
      P ((epochRecs s l e).foldl (fun s r => classify (.aligned e) r.cell s) (takeOut l e s))
  appends (s : State) (l : Lane) (e : Epoch) (c : DataCell) : P s → P (laneAppend l e c s)

/-- What is kept for each lane in turn is kept for all. -/
theorem kept_overLanes {P : State → Prop} {s : State} {f : State → Lane → State} (hf : ∀ s l, P s → P (f s l)) (ls : List Lane) (h : P s) :
    P (ls.foldl f s) := by
  induction ls generalizing s with
  | nil => exact h
  | cons l ls ih => exact ih (hf s l h)

namespace KeptByAligner

variable {P : State → Prop} (k : KeptByAligner P) {s : State}
include k

theorem window (f : List EpochRec → List EpochRec) (h : P s) : P (modWindow f s) := k.records s _ h

theorem countLane (l : Lane) (f : LaneCounters → LaneCounters) (h : P s) : P (countLane l f s) := k.counts s _ h

theorem setResetTest (h : P s) : P (setResetTest s) := by
  unfold Machine.setResetTest
  split
  · exact k.records s _ h
  · exact h

theorem eject (l : Lane) (e : Epoch) (n : Nat) (h : P s) : P (eject l e n s) :=
  k.countLane _ _ (k.raises _ _ _ _ (k.window _ (k.member s l (fun _ => .lagging) LaneState.lateCount h)))

theorem lateCharge (l : Lane) (e : Epoch) (h : P s) : P (lateCharge l e s) := by
  have hcharged := k.raises _ .laneLate (o8 l.val) (o16 e.toNat ++ [o8 (min (s.lanes[l].lateCount + 1) 7)])
    (k.countLane l (fun k => { k with lates := bump k.lates }) (k.member _ l (fun x => x.member.lateFor e) (fun _ => min (s.lanes[l].lateCount + 1) 7)
      (k.discards s l e h)))
  unfold Machine.lateCharge
  dsimp only
  split
  · exact k.eject l e _ hcharged
  · exact hcharged

theorem releaseLane (l : Lane) (e : Epoch) (h : P s) : P (releaseLane l e s) :=
  k.member _ l LaneState.member (fun _ => 0) (k.releases s l e h)

theorem releaseOldest (forced : Bool) (h : P s) : P (releaseOldest forced s) := by
  unfold Machine.releaseOldest
  split
  · exact h
  · next r _ _ =>
    refine k.setResetTest (k.records _ _ (kept_overLanes (fun s l h => ?_) _ (kept_overLanes (fun s l h => ?_) _ (k.counts s _ h))))
    · split
      · exact k.releaseLane l r.epoch h
      · exact h
    · split
      · exact k.lateCharge l r.epoch h
      · exact h

theorem forcedRelease (h : P s) : P (forcedRelease s) := by
  unfold Machine.forcedRelease
  split
  · exact h
  · exact k.releaseOldest true (k.raises s _ _ _ h)

theorem releaseMany (n : Nat) (h : P s) : P (releaseMany n s) := by
  induction n generalizing s with
  | zero => exact h
  | succ n ih => exact ih (k.releaseOldest false h)

theorem releasePoint (h : P s) : P (releasePoint s) := k.releaseMany _ (k.records s _ h)

theorem tryJoin (l : Lane) (e : Epoch) (h : P s) : P (tryJoin l e s) := by
  unfold Machine.tryJoin join
  split
  · dsimp only
    split
    · exact k.countLane _ _ (k.window _ (k.window _ (k.member _ l (fun _ => .isIn e false) LaneState.lateCount (k.records s _ h))))
    · exact k.countLane _ _ (k.window _ (k.window _ (k.member _ l (fun _ => .isIn e false) LaneState.lateCount (k.records s _ h))))
  · exact h

theorem closeRecord (l : Lane) (c : Epoch) (declared : Nat) (h : P s) : P (closeRecord l c declared s) := by
  unfold Machine.closeRecord
  split
  · exact h
  · dsimp only
    split
    · exact k.window _ (k.window _ h)
    · exact k.window _ (k.countLane _ _ (k.raises _ _ _ _ (k.window _ h)))

theorem moveTo (l : Lane) (f : Epoch) (late : Bool) (h : P s) : P (moveTo l f late s) := by
  have hmoved (late : Bool) := k.member s l (fun _ => .isIn f late) LaneState.lateCount h
  unfold Machine.moveTo
  dsimp only
  split
  · exact hmoved late
  · split
    · exact hmoved false
    · split
      · exact k.window _ (k.forcedRelease (hmoved false))
      · exact k.window _ (hmoved false)

theorem slip (l : Lane) (c f : Epoch) (h : P s) : P (slip l c f s) :=
  k.setResetTest (k.tryJoin l f
    (k.member _ l (fun _ => .joining) LaneState.lateCount
      (k.countLane _ _ (k.raises _ _ _ _ (k.window _ (k.window _ (k.discards s l c h)))))))

theorem alignMark (l : Lane) (f : Epoch) (declared : Nat) (h : P s) : P (alignMark l f declared s) := by
  have hcounted : P (Machine.countLane l (fun k => { k with marks := bump k.marks }) s) := k.counts s _ h
  unfold Machine.alignMark
  dsimp only
  split
  · exact hcounted
  · exact hcounted
  · exact k.tryJoin l f hcounted
  · next c late _ =>
    split
    · refine k.moveTo l _ late ?_
      split
      · exact hcounted
      · exact k.closeRecord l c declared hcounted
    · exact k.slip l c f hcounted

theorem alignData (l : Lane) (c : DataCell) (h : P s) : P (alignData l c s) := by
  unfold Machine.alignData
  split
  · exact h
  · exact k.counts s _ h
  · exact k.counts s _ h
  · split
    · exact k.counts s _ h
    · exact k.appends _ l _ c (k.records s _ h)

theorem alignEnterUp (l : Lane) (h : P s) : P (alignEnterUp l s) := by
  unfold Machine.alignEnterUp
  split
  · exact k.member s l (fun _ => .joining) LaneState.lateCount h
  · exact h

theorem alignLeaveUp (l : Lane) (h : P s) : P (alignLeaveUp l s) :=
  k.setResetTest (k.window _ (k.window _ (k.member s l (fun _ => .waiting) (fun _ => 0) h)))

end KeptByAligner

/-- The law reads neither receivers, owner nor snapshot, and is kept when a lane queue is emptied or judged anew. -/
structure KeptByLinks (P : State → Prop) : Prop extends KeptByAligner P where
  receiver (s : State) (p : Port) (f : Receiver → Receiver) : P s → P (modRx p f s) := by intros; assumption
  owner (s : State) (o : Option Ownership) : P s → P { s with engine := { s.engine with owner := o } } := by
    intros; assumption
  snapshot (s : State) (x : Option Snapshot) : P s → P { s with snapshot := x } := by intros; assumption
  empties (s : State) (l : Lane) : P s → P (emptyLane l s)
  judges (s : State) (l : Lane) : P s → P (judgeLane l s)

namespace KeptByLinks

variable {P : State → Prop} (k : KeptByLinks P) {s : State}
include k

theorem laneLeavesUp (p : Port) (h : P s) : P (laneLeavesUp p s) := by
  unfold Machine.laneLeavesUp
  split
  · exact k.alignLeaveUp _ (k.empties s _ h)
  · exact h

theorem ownerLeavesUp (p : Port) (h : P s) : P (ownerLeavesUp p s) := by
  unfold Machine.ownerLeavesUp
  split
  · exact k.raises _ _ _ _ (k.owner s none h)
  · exact h

theorem holderLeavesUp (p : Port) (h : P s) : P (holderLeavesUp p s) := by
  unfold Machine.holderLeavesUp
  split
  · exact k.snapshot s none h
  · exact h

theorem leaveUp (p : Port) (c : DownCause) (h : P s) : P (leaveUp p c s) :=
  k.holderLeavesUp p (k.ownerLeavesUp p (k.laneLeavesUp p
    (k.raises _ .laneDown _ _ (k.counts (Machine.modRx p (fun _ => Receiver.fresh c.after) s) _ (k.receiver s p _ h)))))

theorem enterUp (p : Port) (h : P s) : P (enterUp p s) := by
  have hup : P _ := k.raises _ .laneUp (o8 p.val) []
    (k.receiver s p (fun _ => { Receiver.fresh .up with count := Config.headersToUp }) h)
  unfold Machine.enterUp
  dsimp only
  split
  · exact k.alignEnterUp _ hup
  · exact hup

theorem engineTick (h : P s) : P (engineTick s) := by
  unfold Machine.engineTick
  split
  · exact h
  · split
    · exact k.raises _ _ _ _ (k.owner s none h)
    · exact k.owner s _ h

theorem counterTick (h : P s) : P (counterTick s) := by
  unfold Machine.counterTick
  split
  · exact h
  · split
    · exact k.raises _ _ _ _ (k.counts _ _ (k.snapshot s none h))
    · exact k.snapshot s _ h

theorem renewLease (p : Port) (h : P s) : P (renewLease p s) := by
  rw [renewLease_eq]
  exact k.owner s _ h

theorem laneSetCarried (r : Request) (p : Port) (hset : P (withProfile r p s)) : P (laneSetCarried r p s) := by
  have hempty {t : State} (h : P t) : P (emptyPortLane p t) := by
    unfold emptyPortLane
    split
    · exact k.empties t _ h
    · exact h
  cases ha : laneSetRestarts r p s with
  | true =>
    by_cases hup : s.ports[p].rx.st = .up
    · rw [laneSetCarried_leaves ha hup]
      exact hempty (k.leaveUp p _ hset)
    · rw [laneSetCarried_searches ha hup]
      exact hempty (k.receiver _ p _ hset)
  | false =>
    rw [laneSetCarried_judges ha]
    unfold laneSetJudge
    split
    · split
      · exact k.judges _ _ hset
      · exact hset
    · exact hset

/-- What the law's own proof has to add for every part of a step. -/
theorem receivers : KeptByReceivers P where
  rx s p f _ h := k.receiver s p f h
  leaveUp _ p c _ _ _ h := k.leaveUp p c (k.receiver _ p _ h)
  enterUp _ p _ h := k.enterUp p h

end KeptByLinks

/-- The law reads flows and groups, notices or the engine's operations, but neither ports, lanes, buffers, owner nor
snapshot; it is kept by a raise and by an admission (R88, R91). -/
structure KeptByFlows (P : State → Prop) : Prop where
  records (s : State) (a : Aligner) : P s → P { s with aligner := a } := by intros; assumption
  counts (s : State) (k : Counters) : P s → P { s with counters := k } := by intros; assumption
  lanes (s : State) (v : Vector LaneState 6) (n : Nat) : P s → P { s with lanes := v, free := n } := by
    intros; assumption
  ports (s : State) (v : Vector PortState 7) : P s → P { s with ports := v } := by intros; assumption
  owner (s : State) (o : Option Ownership) : P s → P { s with engine := { s.engine with owner := o } } := by
    intros; assumption
  snapshot (s : State) (x : Option Snapshot) : P s → P { s with snapshot := x } := by intros; assumption
  raises (s : State) (k : NoticeKind) (subject : Byte) (detail : Octets) : P s → P (raise k subject detail s)
  expected (s : State) (i : FlowIdx) (x : Option Seq) : P s → P (modFlow i (fun y => { y with expected := x }) s) := by
    intros; assumption
  enqueues (s : State) (i : FlowIdx) (g : Group) (o : Origin) (c : DataCell) :
    s.flows[i].isSome = true → s.groups[g].queue.length < s.groups[g].limit → P s → P (enqueue i g o c s) := by intros; assumption

theorem modFlow_isSome (i j : FlowIdx) (f : FlowEntry → FlowEntry) (s : State) :
    (modFlow i f s).flows[j].isSome = s.flows[j].isSome :=
  upd_get_map s.flows i j _ Option.isSome fun _ => Option.isSome_map

namespace KeptByFlows

variable {P : State → Prop} (k : KeptByFlows P) {s : State}
include k

theorem giveBack (o : Origin) (h : P s) : P (giveBack o s) := by
  unfold Machine.giveBack
  split
  · exact k.lanes s s.lanes _ h
  · exact h

theorem groupAdmission {i : FlowIdx} (g : Group) (o : Origin) (c : DataCell) (hi : s.flows[i].isSome = true) (h : P s) :
    P (groupAdmission i g o c s) := by
  unfold Machine.groupAdmission
  split
  · exact k.giveBack o (k.raises _ _ _ _ (k.counts s _ h))
  · next hroom =>
    have hroom : s.groups[g].queue.length < s.groups[g].limit := Nat.lt_of_not_le hroom
    split
    · exact k.enqueues s i g o c hi hroom h
    · split
      · exact k.raises _ _ _ _ (k.counts s _ h)
      · exact k.enqueues _ i g o c hi hroom (k.lanes s s.lanes _ h)

theorem classify (o : Origin) (c : DataCell) (h : P s) : P (classify o c s) := by
  unfold Machine.classify
  split
  · exact k.giveBack o (k.raises _ _ _ _ (k.counts s _ h))
  · next i _ =>
    split
    · exact h
    · next e he =>
      unfold classifyHit
      split
      · exact k.giveBack o (k.counts s _ h)
      · split
        · exact k.giveBack o (k.counts s _ h)
        · next x gap _ =>
          have hpassed := k.counts (modFlow i (fun y => { y with expected := x }) s)
            (countFlow i (fun k => { k with seqGap := plus k.seqGap gap }) s).counters (k.expected s i x h)
          dsimp only
          split
          · exact k.giveBack o (k.counts _ _ hpassed)
          · exact k.groupAdmission e.group o c ((modFlow_isSome i i _ s).trans (by rw [he]; rfl)) hpassed

theorem links : KeptByLinks P where
  records := k.records
  counts := k.counts
  raises := k.raises
  receiver s _ _ h := k.ports s _ h
  owner := k.owner
  snapshot := k.snapshot
  member s _ _ _ h := k.lanes s _ s.free h
  discards s _ _ h := k.lanes s _ _ h
  releases s l e h := by
    generalize epochRecs s l e = recs
    have htaken : P (takeOut l e s) := k.lanes s _ s.free h
    generalize takeOut l e s = t at htaken
    induction recs generalizing t with
    | nil => exact htaken
    | cons r recs ih => exact ih _ (k.classify _ _ htaken)
  appends s l e c h := by
    unfold laneAppend
    split
    · exact k.counts s _ h
    · split
      · exact k.raises _ _ _ _ (k.counts s _ h)
      · exact k.lanes s _ _ h
  empties s _ h := k.lanes s _ _ h
  judges s _ h := k.lanes s _ s.free h

theorem laneSetCarried (r : Request) (p : Port) (h : P s) : P (laneSetCarried r p s) :=
  k.links.laneSetCarried r p (k.ports s _ h)

end KeptByFlows

end Sys2Proof.Machine
end

section
/-! PROOF. Every step keeps one pending record per kind and subject and none of a disabled kind. -/

-- Checked one after another, as the tests are: the theorems of a section all at once take a thread each.
set_option Elab.async false

namespace Sys2Proof.Machine

/-! ### The pending list -/

/-- Two records are not of one kind and subject. -/
def NoticeRec.apart (a b : NoticeRec) : Prop := ¬(a.kind = b.kind ∧ a.subject = b.subject)

/-- A record that may be pending: its kind is enabled, and its occurrences are in their range (R180). -/
def NoticeRec.pendingIn (enabled : Vector Bool 14) (n : NoticeRec) : Prop :=
  enabled[n.kind.place] = true ∧ 1 ≤ n.occurrences ∧ n.occurrences ≤ 65535

theorem noticesSound_iff (s : State) :
    noticesSound s ↔
      s.notices.waiting.Pairwise NoticeRec.apart ∧ ∀ n ∈ s.notices.waiting, n.pendingIn s.notices.enabled := Iff.rfl

theorem notices_of_frame {s t : State} (h : noticesSound s) (f : t.notices = s.notices) : noticesSound t := by
  rw [noticesSound_iff, f]
  exact h

/-- A pending list from which records are left out stays sound. -/
theorem notices_of_sublist {s t : State} (h : noticesSound s) (hen : t.notices.enabled = s.notices.enabled)
    (hsub : t.notices.waiting.Sublist s.notices.waiting) : noticesSound t := by
  rw [noticesSound_iff, hen]
  exact ⟨h.1.sublist hsub, fun n hn => h.2 n (hsub.subset hn)⟩

section
variable {k : NoticeKind} {subject : Byte} {detail : Octets} {cycle : CycleNum} {l : List NoticeRec}

theorem applyRaise_apart (h : l.Pairwise NoticeRec.apart) : (applyRaise k subject detail cycle l).Pairwise NoticeRec.apart := by
  unfold applyRaise
  split
  · rw [List.pairwise_map]
    refine h.imp fun {a b} hab => ?_
    split <;> split <;> exact hab
  · next hnone =>
    rw [List.pairwise_append]
    refine ⟨h, List.pairwise_singleton _ _, fun a ha b hb => ?_⟩
    obtain rfl := List.mem_singleton.mp hb
    exact fun hab => hnone (List.any_eq_true.mpr ⟨a, ha, NoticeRec.about_iff.mpr hab⟩)

theorem applyRaise_pending {enabled : Vector Bool 14} (hk : enabled[k.place] = true)
    (h : ∀ n ∈ l, n.pendingIn enabled) : ∀ n ∈ applyRaise k subject detail cycle l, n.pendingIn enabled := by
  unfold applyRaise
  intro n hn
  split at hn
  · obtain ⟨m, hm, rfl⟩ := List.mem_map.mp hn
    obtain ⟨hen, h1, h2⟩ := h m hm
    split
    · exact ⟨hen, by show 1 ≤ min _ _; omega, Nat.min_le_right _ _⟩
    · exact ⟨hen, h1, h2⟩
  · rcases List.mem_append.mp hn with hm | hm
    · exact h n hm
    · obtain rfl := List.mem_singleton.mp hm
      exact ⟨hk, Nat.le_refl _, by show 1 ≤ 65535; omega⟩

end

theorem raise_noticesSound {s : State} (k : NoticeKind) (subject : Byte) (detail : Octets) (h : noticesSound s) :
    noticesSound (raise k subject detail s) := by
  cases hk : s.notices.enabled[k.place] with
  | true =>
    rw [raise_enabled k subject detail s hk]
    exact ⟨applyRaise_apart h.1, applyRaise_pending hk h.2⟩
  | false =>
    rw [raise_disabled k subject detail s hk]
    exact h

/-! ### NOTICE_ENABLE (R185) -/

theorem setKinds_get (codes : Octets) (value : Bool) (v : Vector Bool 14) (k : NoticeKind) :
    (setKinds codes value v)[k.place] = if listed codes k then value else v[k.place] := by
  simp only [setKinds, Fin.getElem_fin, Vector.getElem_ofFn]
  rfl

theorem noticeEnable_sound {s : State} (codes : Octets) (remove : Bool) (h : noticesSound s) :
    noticesSound { s with notices :=
      { enabled := setKinds codes (!remove) s.notices.enabled,
        waiting := keptRecords remove codes s.notices.waiting } } := by
  rw [noticesSound_iff]
  cases remove with
  | true =>
    refine ⟨h.1.sublist List.filter_sublist, fun n hn => ?_⟩
    obtain ⟨hn, hl⟩ := List.mem_filter.mp hn
    obtain ⟨hen, hocc⟩ := h.2 n hn
    refine ⟨?_, hocc⟩
    rw [setKinds_get, if_neg (by simpa using hl)]
    exact hen
  | false =>
    refine ⟨h.1, fun n hn => ?_⟩
    obtain ⟨hen, hocc⟩ := h.2 n hn
    refine ⟨?_, hocc⟩
    rw [setKinds_get]
    split
    · rfl
    · exact hen

/-! ### The law -/

theorem notices_flows : KeptByFlows noticesSound where
  raises _ k subject detail h := raise_noticesSound k subject detail h

theorem sendNotice_noticesSound {s : State} (h : noticesSound s) : noticesSound (sendNotice s) := by
  unfold sendNotice
  split
  · exact h
  · next n rest hw => exact notices_of_sublist h rfl (by rw [hw]; exact List.sublist_cons_self n rest)

theorem transmit_noticesSound {s : State} (swaps : Bool) (h : noticesSound s) : noticesSound (transmit swaps s) := by
  have hsend {t : State} (c : Choice) (ht : noticesSound t) : noticesSound (send c t) := by
    cases c with
    | notice => exact sendNotice_noticesSound ht
    | head g borrowed => exact notices_of_frame ht (by simp [send])
    | reply => exact notices_of_frame ht (by simp [send])
    | fill => exact ht
  unfold transmit
  dsimp only
  split <;> exact hsend _ (notices_of_frame h (by simp))

theorem noteRealign_noticesSound {s : State} (p : Int) (h : noticesSound s) : noticesSound (noteRealign p s) :=
  raise_noticesSound _ _ _ h

theorem completeArm_noticesSound {s : State} (p : Int) (h : noticesSound s) : noticesSound (completeArm p s) := by
  have hnoted : noticesSound (if p = 0 then s else noteRealign p s) := by
    split
    · exact h
    · exact noteRealign_noticesSound p h
  exact notices_of_frame hnoted (by simp [completeArm])

theorem followPulse_noticesSound {s : State} (p : Int) (h : noticesSound s) : noticesSound (followPulse p s) := by
  unfold followPulse
  dsimp only
  split
  · exact h
  · split
    · exact raise_noticesSound _ _ _ h
    · exact h
  · split
    · exact noteRealign_noticesSound p h
    · exact h
  · split
    · exact completeArm_noticesSound p h
    · exact h

theorem takePulse_noticesSound {s : State} (h : noticesSound s) : noticesSound (takePulse s) := by
  have hfollowed := followPulse_noticesSound (phaseError (s.timer.slot + 1))
    (s := markBegun { s with timer := s.timer.next (pulseCuts s (phaseError (s.timer.slot + 1))) }) h
  unfold takePulse
  dsimp only
  split
  · exact notices_of_frame hfollowed (by simp)
  · exact hfollowed

theorem notices_kept : KeptByParts (fun _ => True) noticesSound where
  toKeptByReceivers := notices_flows.links.receivers
  engineTick _ h := notices_flows.links.engineTick h
  counterTick _ h := notices_flows.links.counterTick h
  release _ h := notices_flows.links.releasePoint h
  transmit _ b h := transmit_noticesSound b h
  lease _ p h := notices_flows.links.renewLease p h
  reply _ _ _ _ _ h := h
  unitReset s r _ := by
    rw [doUnitReset_eq]
    exact ⟨List.Pairwise.nil, nofun⟩
  laneSet _ r p _ _ _ h := notices_flows.laneSetCarried r p h
  schedCancel s r _ h := notices_of_frame h (by simp)
  groupFlush s r _ h := notices_of_frame h (by simp)
  cycleSet s r _ h := notices_of_frame h (by simp)
  noticeEnable _ codes remove h := noticeEnable_sound codes remove h
  atReset := ⟨List.Pairwise.nil, nofun⟩
  mark _ l f n h := notices_flows.links.alignMark l f n h
  data _ l c h := notices_flows.links.alignData l c h
  passed _ c h := notices_flows.classify .pass c h
  pulse _ _ _ h := takePulse_noticesSound h
  swap s h := notices_of_frame h (by simp)
  drained s i h := notices_of_frame h (by simp)
  held s h := notices_of_frame h (by simp)

/-- Settles O58: a raise adds to the record of its kind and subject or opens the only one, and every other part leaves
the pending list alone or takes records away. -/
theorem everyStepKeepsNoticesSound : Obligations.EveryStepKeepsNoticesSound := fun _ _ => notices_kept.step

end Sys2Proof.Machine
end

section
/-! PROOF. Every step keeps the RUNNING in-flight entries matched to the drains, the swap and the arm that the blocks
carry out. -/

-- Checked one after another, as the tests are: the theorems of a section all at once take a thread each.
set_option Elab.async false

namespace Sys2Proof.Machine

/-! ### What a block carries out -/

/-- The block of the target is carrying out a long operation on it (R150). -/
def carries (s : State) : Target → Prop
  | .flow i => drainsAt s i
  | .bank x => s.sched.swapPending = true ∧ x = s.sched.staged
  | .follower => s.follower.armed = true

theorem operationsOwned_iff (s : State) :
    operationsOwned s ↔
      (s.engine.inFlight.Pairwise fun a b => a.target ≠ b.target) ∧
      ∀ x : Target, (∃ o ∈ s.engine.inFlight, o.target = x) ↔ carries s x := by
  constructor
  · rintro ⟨hdistinct, hflow, hbank, hfollower⟩
    refine ⟨hdistinct, fun x => ?_⟩
    cases x with
    | flow i => exact hflow i
    | bank x => exact hbank x
    | follower => exact hfollower
  · rintro ⟨hdistinct, h⟩
    exact ⟨hdistinct, fun i => h (.flow i), fun x => h (.bank x), h .follower⟩

theorem carries_of_frame {s t : State}
    (hflows : ∀ i : FlowIdx, t.flows[i].map FlowEntry.draining = s.flows[i].map FlowEntry.draining)
    (f : t.sched.swapPending = s.sched.swapPending ∧ t.sched.active = s.sched.active ∧
      t.follower.armed = s.follower.armed) (x : Target) : carries t x ↔ carries s x := by
  obtain ⟨hswap, hactive, harmed⟩ := f
  cases x with
  | flow i => simp only [carries, drainsAt, hflows i]
  | bank x => simp only [carries, Schedule.staged, hswap, hactive]
  | follower => simp only [carries, harmed]

theorem owned_of_carries {s t : State} (h : operationsOwned s) (hentries : t.engine.inFlight = s.engine.inFlight)
    (hcarries : ∀ x, carries t x ↔ carries s x) : operationsOwned t := by
  rw [operationsOwned_iff] at h ⊢
  rw [hentries]
  exact ⟨h.1, fun x => (h.2 x).trans (hcarries x).symm⟩

theorem owned_of_flows {s t : State} (h : operationsOwned s)
    (hflows : ∀ i : FlowIdx, t.flows[i].map FlowEntry.draining = s.flows[i].map FlowEntry.draining)
    (f : t.engine.inFlight = s.engine.inFlight ∧ t.sched.swapPending = s.sched.swapPending ∧
      t.sched.active = s.sched.active ∧ t.follower.armed = s.follower.armed) : operationsOwned t :=
  owned_of_carries h f.1 (carries_of_frame hflows f.2)

theorem owned_of_frame {s t : State} (h : operationsOwned s)
    (f : t.flows = s.flows ∧ t.engine.inFlight = s.engine.inFlight ∧ t.sched.swapPending = s.sched.swapPending ∧
      t.sched.active = s.sched.active ∧ t.follower.armed = s.follower.armed) : operationsOwned t :=
  owned_of_flows h (fun i => by rw [f.1]) f.2

/-- A change of a flow entry other than of its drain. -/
theorem modFlow_draining (i j : FlowIdx) {f : FlowEntry → FlowEntry} (hf : ∀ e, (f e).draining = e.draining)
    (v : Vector (Option FlowEntry) 256) :
    (upd v i (Option.map f))[j].map FlowEntry.draining = v[j].map FlowEntry.draining :=
  upd_get_map v i j _ (Option.map FlowEntry.draining) fun x => by
    rw [Option.map_map]
    exact Option.map_congr fun e _ => hf e

theorem owned_of_modFlow {s t : State} {i : FlowIdx} {f : FlowEntry → FlowEntry} (h : operationsOwned s)
    (hflows : t.flows = upd s.flows i (Option.map f)) (hf : ∀ e, (f e).draining = e.draining)
    (hkeep : t.engine.inFlight = s.engine.inFlight ∧ t.sched.swapPending = s.sched.swapPending ∧
      t.sched.active = s.sched.active ∧ t.follower.armed = s.follower.armed) : operationsOwned t :=
  owned_of_flows h (fun j => by rw [hflows]; exact modFlow_draining i j hf s.flows) hkeep

/-- An operation begins on a target that its block was not carrying out. -/
theorem owned_of_open {s t : State} {x : Target} (r : Request) (h : operationsOwned s) (hidle : ¬carries s x)
    (hentries : t.engine.inFlight = s.engine.inFlight)
    (hcarries : ∀ y, carries t y ↔ carries s y ∨ y = x) : operationsOwned (openOperation r x t) := by
  rw [operationsOwned_iff] at h ⊢
  have hnone : ∀ o ∈ s.engine.inFlight, o.target ≠ x := fun o ho e => hidle ((h.2 x).mp ⟨o, ho, e⟩)
  have hopened : (openOperation r x t).engine.inFlight =
      s.engine.inFlight ++ [{ port := r.port, tag := r.tag, code := r.code, target := x }] := by
    rw [← hentries]
    rfl
  rw [hopened]
  refine ⟨List.pairwise_append.mpr ⟨h.1, List.pairwise_singleton _ _, fun a ha b hb => ?_⟩, fun y => ?_⟩
  · obtain rfl := List.mem_singleton.mp hb
    exact hnone a ha
  · have hsame : carries (openOperation r x t) y ↔ carries t y := by cases y <;> rfl
    rw [hsame, hcarries, ← h.2 y]
    simp only [List.mem_append, List.mem_singleton, or_and_right, exists_or, exists_eq_left]
    rw [eq_comm (a := x)]

/-- A block ends the operation that it carried out on a target and reports it (R151). -/
theorem owned_of_complete {s t : State} {x : Target} (st : Status) (result : Octets) (h : operationsOwned s)
    (hentries : t.engine.inFlight = s.engine.inFlight)
    (hcarries : ∀ y, carries t y ↔ carries s y ∧ y ≠ x) : operationsOwned (complete x st result t) := by
  rw [operationsOwned_iff] at h ⊢
  have hsame (y : Target) : carries (complete x st result t) y ↔ carries t y :=
    carries_of_frame (fun i => by simp) (by simp) y
  rcases complete_cases x st result t with ⟨hnone, heq⟩ | ⟨o, ho, htarget, hcases⟩
  · rw [hentries] at hnone
    rw [heq, hentries]
    refine ⟨h.1, fun y => ?_⟩
    rw [hcarries, ← h.2 y]
    exact ⟨fun ⟨o, ho, e⟩ => ⟨⟨o, ho, e⟩, fun e' => hnone o ho (e.trans e')⟩, And.left⟩
  · have herase : (complete x st result t).engine.inFlight = s.engine.inFlight.erase o := by
      rw [← hentries]
      rcases hcases with ⟨-, heq⟩ | ⟨-, heq⟩ <;> rw [heq]
    rw [hentries] at ho
    have hnodup : s.engine.inFlight.Nodup := h.1.imp fun hne e => hne (congrArg Operation.target e)
    rw [herase]
    refine ⟨h.1.sublist List.erase_sublist, fun y => ?_⟩
    rw [hsame, hcarries, ← h.2 y]
    constructor
    · rintro ⟨o', ho', rfl⟩
      obtain ⟨hne, hmem⟩ := hnodup.mem_erase_iff.mp ho'
      have : Std.Symm fun a b : Operation => a.target ≠ b.target := ⟨fun _ _ hab => hab.symm⟩
      exact ⟨⟨o', hmem, rfl⟩, fun e => h.1.forall hmem ho hne (e.trans htarget.symm)⟩
    · rintro ⟨⟨o', ho', rfl⟩, hne⟩
      exact ⟨o', hnodup.mem_erase_iff.mpr ⟨fun e => hne (e ▸ htarget), ho'⟩, rfl⟩

/-! ### The blocks' reports -/

theorem endDrain_owned {s : State} (i : FlowIdx) (h : operationsOwned s) : operationsOwned (endDrain i s) := by
  rcases endDrain_cases i s with ⟨-, heq⟩ | ⟨e, he, hd, -, heq⟩
  · rw [heq]
    exact h
  · rw [heq]
    refine owned_of_complete (s := s) _ _ h rfl fun y => ?_
    cases y with
    | flow j =>
      simp only [carries, drainsAt, upd_get, ne_eq, Target.flow.injEq]
      by_cases hj : j = i
      · simp [hj]
      · simp [hj]
    | bank x => simp [carries, Schedule.staged]
    | follower => simp [carries]

/-- The schedule gives up its pending swap, made or cancelled (R112, R113). -/
theorem owned_of_swapEnd {s t : State} (st : Status) (result : Octets) (h : operationsOwned s)
    (hp : s.sched.swapPending = true) (hentries : t.engine.inFlight = s.engine.inFlight) (hflows : t.flows = s.flows)
    (harmed : t.follower.armed = s.follower.armed) (hswap : t.sched.swapPending = false) :
    operationsOwned (complete (.bank s.sched.staged) st result t) := by
  refine owned_of_complete st result h hentries fun y => ?_
  cases y with
  | flow j => simp [carries, drainsAt, hflows]
  | bank x => simp [carries, hswap, hp]
  | follower => simp [carries, harmed]

theorem takeSwap_owned {s : State} (h : operationsOwned s) : operationsOwned (takeSwap s) := by
  unfold takeSwap
  split
  · next hp => exact owned_of_swapEnd _ _ h hp rfl rfl rfl rfl
  · exact h

/-- The follower gives up its arm, completed or aborted (R137, R138). -/
theorem owned_of_armEnd {s t : State} (st : Status) (result : Octets) (h : operationsOwned s)
    (f : t.engine.inFlight = s.engine.inFlight ∧ t.flows = s.flows ∧ t.sched = s.sched)
    (hdown : t.follower.armed = false) : operationsOwned (complete .follower st result t) := by
  obtain ⟨hentries, hflows, hsched⟩ := f
  refine owned_of_complete st result h hentries fun y => ?_
  cases y with
  | flow j => simp [carries, drainsAt, hflows]
  | bank x => simp [carries, hsched]
  | follower => simp [carries, hdown]

theorem takePulse_owned {s : State} (h : operationsOwned s) : operationsOwned (takePulse s) := by
  have hfollow {t : State} (p : Int) (ht : operationsOwned t) : operationsOwned (followPulse p t) := by
    unfold followPulse
    dsimp only
    split
    · exact ht
    · split
      · exact owned_of_frame ht (by simp)
      · exact ht
    · split
      · exact owned_of_frame ht (by simp)
      · exact ht
    · split
      · refine owned_of_armEnd _ _ ht ?_ rfl
        split <;> simp
      · exact ht
  unfold takePulse
  dsimp only
  split
  · exact takeSwap_owned (hfollow _ h)
  · exact hfollow _ h

theorem doCycleSet_owned {s : State} (r : Request) (h : operationsOwned s) : operationsOwned (doCycleSet r s) := by
  unfold doCycleSet
  split
  · exact h
  · split
    · exact h
    · dsimp only
      split
      · exact owned_of_armEnd _ _ h ⟨rfl, rfl, rfl⟩ rfl
      · next hdown => exact owned_of_frame h ⟨rfl, rfl, rfl, rfl, by simpa [reply] using hdown⟩

theorem flushRecord_owned {s : State} (x : GroupRec) (h : operationsOwned s) : operationsOwned (flushRecord x s) :=
  endDrain_owned _ (owned_of_modFlow h rfl (fun _ => rfl) ⟨rfl, rfl, rfl, rfl⟩)

theorem doGroupFlush_owned {s : State} (r : Request) (h : operationsOwned s) : operationsOwned (doGroupFlush r s) := by
  have hrecords (l : List GroupRec) {t : State} (ht : operationsOwned t) :
      operationsOwned (l.foldl (fun s x => flushRecord x s) t) := by
    induction l generalizing t with
    | nil => exact ht
    | cons x l ih => exact ih (flushRecord_owned x ht)
  unfold doGroupFlush
  split
  · exact h
  · exact hrecords _ (owned_of_frame h ⟨rfl, rfl, rfl, rfl, rfl⟩)

theorem rewriteAndSend_owned {s : State} (r : GroupRec) (h : operationsOwned s) : operationsOwned (rewriteAndSend r s) := by
  unfold rewriteAndSend
  split
  · exact h
  · exact endDrain_owned _ (owned_of_modFlow h rfl (fun _ => rfl) ⟨rfl, rfl, rfl, rfl⟩)

theorem send_owned {s : State} (c : Choice) (h : operationsOwned s) : operationsOwned (send c s) := by
  cases c with
  | head g borrowed =>
    simp only [send, takeHead]
    split
    · exact h
    · refine rewriteAndSend_owned _ (owned_of_frame h ?_)
      split <;> exact ⟨rfl, rfl, rfl, rfl, rfl⟩
  | reply =>
    simp only [send, sendReply]
    split
    · exact h
    · exact owned_of_frame h (by simp)
  | notice =>
    simp only [send, sendNotice]
    split <;> exact h
  | fill => exact h

theorem transmit_owned {s : State} (swaps : Bool) (h : operationsOwned s) : operationsOwned (transmit swaps s) := by
  have hend : operationsOwned (endSlot s) := owned_of_frame h (by simp)
  unfold transmit
  dsimp only
  split
  · exact send_owned _ (takeSwap_owned hend)
  · exact send_owned _ hend

theorem owned_flows : KeptByFlows operationsOwned where
  raises _ _ _ _ h := owned_of_frame h (by simp)
  expected _ i _ h := owned_of_modFlow h rfl (fun _ => rfl) ⟨rfl, rfl, rfl, rfl⟩
  enqueues _ i _ _ _ _ _ h := owned_of_modFlow h rfl (fun _ => rfl) ⟨rfl, rfl, rfl, rfl⟩

theorem doUnitReset_owned {s : State} (r : Request) : operationsOwned (doUnitReset r s) := by
  rw [doUnitReset_eq, operationsOwned_iff]
  refine ⟨List.Pairwise.nil, fun x => ⟨nofun, fun hx => ?_⟩⟩
  cases x with
  | flow i =>
    simp only [carries, drainsAt, Fin.getElem_fin, Vector.getElem_map, Option.map_eq_some_iff] at hx
    obtain ⟨e, he, hd⟩ := hx
    unfold resetEntry at he
    split at he
    · cases he
    · split at he
      · cases he
      · next hno =>
        cases he
        exact absurd hd hno
  | bank x => exact absurd hx.1 nofun
  | follower => exact nomatch hx

theorem owned_atReset : operationsOwned State.reset := by
  rw [operationsOwned_iff]
  refine ⟨List.Pairwise.nil, fun x => ⟨nofun, fun hx => ?_⟩⟩
  cases x with
  | flow i => simp [carries, drainsAt, State.reset] at hx
  | bank x => exact absurd hx.1 nofun
  | follower => exact nomatch hx

/-- A place that is not DRAINING holds something else that is not DRAINING (R97, R100). -/
theorem owned_of_place {s : State} {i : FlowIdx} {x : Option FlowEntry} (h : operationsOwned s)
    (hold : s.flows[i].map FlowEntry.draining ≠ some true) (hnew : x.map FlowEntry.draining ≠ some true) :
    operationsOwned { s with flows := upd s.flows i fun _ => x } := by
  refine owned_of_carries h rfl fun y => ?_
  cases y with
  | flow j =>
    simp only [carries, drainsAt, upd_get]
    by_cases hj : j = i
    · subst hj
      simpa [hnew] using hold
    · simp [hj]
  | bank x => exact Iff.rfl
  | follower => exact Iff.rfl

theorem owned_kept : KeptByParts (fun _ => True) operationsOwned where
  toKeptByReceivers := owned_flows.links.receivers
  renew s h := owned_of_flows h (fun i => by
    simp only [renewBudgets, Fin.getElem_fin, Vector.getElem_map, Option.map_map]
    rfl) ⟨rfl, rfl, rfl, rfl⟩
  engineTick _ h := owned_flows.links.engineTick h
  counterTick _ h := owned_flows.links.counterTick h
  release _ h := owned_flows.links.releasePoint h
  transmit _ b h := transmit_owned b h
  lease _ p h := owned_flows.links.renewLease p h
  reply _ _ _ _ _ h := h
  unitReset _ r _ := doUnitReset_owned r
  laneSet _ r p _ _ _ h := owned_flows.laneSetCarried r p h
  rejoin _ _ _ h := h
  flowAdd s i e _ hfree hd _ h := owned_of_place h (by simp [hfree]) (by simp [hd])
  flowModify s i e h := owned_of_modFlow h rfl (fun _ => rfl) ⟨rfl, rfl, rfl, rfl⟩
  flowRemove s i e he hd _ h := owned_of_place h (by simp [he, hd]) (by simp)
  beginDrain s r i e he hd _ h := by
    refine owned_of_open (s := s) r h (by simp [carries, drainsAt, he, hd]) rfl fun y => ?_
    cases y with
    | flow j =>
      simp only [carries, drainsAt, modFlow_frame, upd_get, Target.flow.injEq]
      by_cases hj : j = i
      · simp [hj, he]
      · simp [hj]
    | bank x => simp [carries]
    | follower => simp [carries]
  schedWrite s v _ h := by
    have hsame (x : Bank) : (s.sched.setBank x v).swapPending = s.sched.swapPending ∧
        (s.sched.setBank x v).active = s.sched.active := by cases x <;> exact ⟨rfl, rfl⟩
    exact owned_of_frame h ⟨rfl, rfl, (hsame _).1, (hsame _).2, rfl⟩
  schedSwap s r hswap _ _ h := by
    refine owned_of_open (s := s) r h (by simp [carries, hswap]) rfl fun y => ?_
    cases y with
    | flow j => simp [carries, drainsAt]
    | bank x => simp [carries, hswap, Schedule.staged]
    | follower => simp [carries]
  schedCancel s r _ h := by
    unfold doSchedCancel
    split
    · next hp => exact owned_of_swapEnd (s := s) _ _ h hp rfl rfl rfl rfl
    · exact h
  groupFlush _ r _ h := doGroupFlush_owned r h
  cycleSet _ r _ h := doCycleSet_owned r h
  cycleArm s r _ hdown _ h := by
    refine owned_of_open (s := s) r h (by simp [carries, hdown]) rfl fun y => ?_
    cases y with
    | flow j => simp [carries, drainsAt]
    | bank x => simp [carries, Schedule.staged]
    | follower => simp [carries]
  atReset := owned_atReset
  mark _ l f n h := owned_flows.links.alignMark l f n h
  data _ l c h := owned_flows.links.alignData l c h
  passed _ c h := owned_flows.classify .pass c h
  pulse _ _ _ h := takePulse_owned h
  swap _ h := takeSwap_owned h
  drained _ i h := endDrain_owned i h
  held s h := owned_of_frame h (by simp)

/-- Settles O57: a block's operation and its RUNNING entry begin together and end together, and nothing else touches
either. -/
theorem everyStepKeepsOperationsOwned : Obligations.EveryStepKeepsOperationsOwned := fun _ _ => owned_kept.step

end Sys2Proof.Machine
end

section
/-! PROOF. Every step keeps the keys of the flow entries distinct and their in-queue counts equal to the queued
records. -/

-- Checked one after another, as the tests are: the theorems of a section all at once take a thread each.
set_option Elab.async false

namespace Sys2Proof.Machine

/-! ### Keys -/

/-- A place's entry, if it still holds one, keeps the key that it had. -/
def keyKept (new old : Option FlowEntry) : Prop :=
  new = none ∨ new.map (fun e => (e.lane, e.inflow)) = old.map (fun e => (e.lane, e.inflow))

theorem sameKey_eq_true {a b : Option FlowEntry} :
    sameKey a b = true ↔ ∃ x y, a = some x ∧ b = some y ∧ x.lane = y.lane ∧ x.inflow = y.inflow := by
  unfold sameKey
  split
  · simp
  · next hno =>
    refine ⟨nofun, fun ⟨x, y, ha, hb, _⟩ => absurd hb (hno x y ha)⟩

theorem keys_of_kept {s t : State} (h : keysDistinct s) (f : ∀ i : FlowIdx, keyKept t.flows[i] s.flows[i]) :
    keysDistinct t := by
  intro i j hij
  rw [← Bool.not_eq_true, sameKey_eq_true]
  rintro ⟨x, y, hx, hy, hlane, hflow⟩
  have hold {i : FlowIdx} {x : FlowEntry} (hx : t.flows[i] = some x) :
      ∃ x', s.flows[i] = some x' ∧ x'.lane = x.lane ∧ x'.inflow = x.inflow := by
    rcases f i with hn | hk
    · rw [hn] at hx
      cases hx
    · rw [hx] at hk
      obtain ⟨x', hx', hkey⟩ := Option.map_eq_some_iff.mp hk.symm
      exact ⟨x', hx', congrArg Prod.fst hkey, congrArg Prod.snd hkey⟩
  obtain ⟨x', hx', hl, hf⟩ := hold hx
  obtain ⟨y', hy', hl', hf'⟩ := hold hy
  have hsame := sameKey_eq_true.mpr ⟨x', y', hx', hy', hl.trans (hlane.trans hl'.symm), hf.trans (hflow.trans hf'.symm)⟩
  rw [h i j hij] at hsame
  cases hsame

theorem keys_of_frame {s t : State} (h : keysDistinct s) (f : t.flows = s.flows) : keysDistinct t :=
  keys_of_kept h fun i => .inr (by rw [f])

theorem keys_of_modFlow {s t : State} {i : FlowIdx} {f : FlowEntry → FlowEntry} (h : keysDistinct s)
    (hflows : t.flows = upd s.flows i (Option.map f)) (hf : ∀ e, (f e).lane = e.lane ∧ (f e).inflow = e.inflow) :
    keysDistinct t :=
  keys_of_kept h fun j => .inr (by
    rw [hflows]
    refine upd_get_map s.flows i j _ (Option.map fun e => (e.lane, e.inflow)) fun x => ?_
    rw [Option.map_map]
    exact Option.map_congr fun e _ => Prod.ext (hf e).1 (hf e).2)

theorem keys_of_freed {s t : State} {i : FlowIdx} (h : keysDistinct s)
    (hflows : t.flows = upd s.flows i fun _ => none) : keysDistinct t :=
  keys_of_kept h fun j => by
    rw [hflows, upd_get]
    split
    · exact .inl rfl
    · exact .inr rfl

theorem endDrain_keys {s : State} (i : FlowIdx) (h : keysDistinct s) : keysDistinct (endDrain i s) := by
  rcases endDrain_cases i s with ⟨-, heq⟩ | ⟨e, -, -, -, heq⟩
  · rw [heq]
    exact h
  · exact keys_of_freed (i := i) h (by rw [heq]; simp)

/-- A new entry takes a key that no other holds (R97). -/
theorem keys_of_added {s : State} {i : FlowIdx} {e : FlowEntry} (h : keysDistinct s)
    (hnew : findKey s e.lane.val e.inflow.toNat = none) :
    keysDistinct { s with flows := upd s.flows i fun _ => some e } := by
  have hother (j : FlowIdx) (x : FlowEntry) (hx : s.flows[j] = some x) (hl : x.lane = e.lane) (hf : x.inflow = e.inflow) :
      False := findKey_none hnew j x hx ⟨congrArg Fin.val hl, congrArg BitVec.toNat hf⟩
  intro j k hjk
  rw [← Bool.not_eq_true, sameKey_eq_true]
  rintro ⟨x, y, hx, hy, hlane, hflow⟩
  simp only [upd_get] at hx hy
  split at hx <;> split at hy
  · next hj hk => exact hjk (hj.trans hk.symm)
  · cases hx
    exact hother k y hy hlane.symm hflow.symm
  · cases hy
    exact hother j x hx hlane hflow
  · have hsame := sameKey_eq_true.mpr ⟨x, y, hx, hy, hlane, hflow⟩
    rw [h j k hjk] at hsame
    cases hsame

theorem rewriteAndSend_keys {s : State} (r : GroupRec) (h : keysDistinct s) : keysDistinct (rewriteAndSend r s) := by
  unfold rewriteAndSend
  split
  · exact h
  · exact endDrain_keys _ (keys_of_modFlow h rfl fun _ => ⟨rfl, rfl⟩)

theorem transmit_keys {s : State} (swaps : Bool) (h : keysDistinct s) : keysDistinct (transmit swaps s) := by
  have hsend {t : State} (c : Choice) (ht : keysDistinct t) : keysDistinct (send c t) := by
    cases c with
    | head g borrowed =>
      simp only [send, takeHead]
      split
      · exact ht
      · refine rewriteAndSend_keys _ (keys_of_frame ht ?_)
        split <;> rfl
    | reply => exact keys_of_frame ht (by simp [send])
    | notice => exact keys_of_frame ht (by simp [send])
    | fill => exact ht
  unfold transmit
  dsimp only
  split <;> exact hsend _ (keys_of_frame h (by simp))

theorem doGroupFlush_keys {s : State} (r : Request) (h : keysDistinct s) : keysDistinct (doGroupFlush r s) := by
  have hrecords (l : List GroupRec) {t : State} (ht : keysDistinct t) :
      keysDistinct (l.foldl (fun s x => flushRecord x s) t) := by
    induction l generalizing t with
    | nil => exact ht
    | cons x l ih => exact ih (endDrain_keys _ (keys_of_modFlow ht rfl fun _ => ⟨rfl, rfl⟩))
  unfold doGroupFlush
  split
  · exact h
  · exact hrecords _ (keys_of_frame h rfl)

theorem keys_flows : KeptByFlows keysDistinct where
  raises _ _ _ _ h := keys_of_frame h (by simp)
  expected _ _ _ h := keys_of_modFlow h rfl fun _ => ⟨rfl, rfl⟩
  enqueues _ _ _ _ _ _ _ h := keys_of_modFlow h rfl fun _ => ⟨rfl, rfl⟩

theorem resetEntry_keyKept (e : Option FlowEntry) : keyKept (resetEntry e) e := by
  unfold resetEntry
  split
  · exact .inl rfl
  · split
    · exact .inl rfl
    · exact .inr rfl

theorem keys_kept : KeptByParts (fun _ => True) keysDistinct where
  toKeptByReceivers := keys_flows.links.receivers
  renew s h := keys_of_kept h fun i => .inr (by
    simp only [renewBudgets, Fin.getElem_fin, Vector.getElem_map, Option.map_map]
    rfl)
  engineTick _ h := keys_flows.links.engineTick h
  counterTick _ h := keys_flows.links.counterTick h
  release _ h := keys_flows.links.releasePoint h
  transmit _ b h := transmit_keys b h
  lease _ p h := keys_flows.links.renewLease p h
  reply _ _ _ _ _ h := h
  unitReset s r h := keys_of_kept h fun i => by
    rw [doUnitReset_eq]
    simpa using resetEntry_keyKept s.flows[i]
  laneSet _ r p _ _ _ h := keys_flows.laneSetCarried r p h
  flowAdd _ _ _ hnew _ _ _ h := keys_of_added h hnew
  flowModify _ _ _ h := keys_of_modFlow h rfl fun _ => ⟨rfl, rfl⟩
  flowRemove _ _ _ _ _ _ h := keys_of_freed h rfl
  beginDrain _ _ _ _ _ _ _ h := keys_of_modFlow h rfl fun _ => ⟨rfl, rfl⟩
  schedCancel s r _ h := keys_of_frame h (by simp)
  groupFlush _ r _ h := doGroupFlush_keys r h
  cycleSet s r _ h := keys_of_frame h (by simp)
  atReset := by
    intro i j _
    rw [← Bool.not_eq_true, sameKey_eq_true]
    rintro ⟨x, -, hx, -⟩
    simp [State.reset] at hx
  mark _ l f n h := keys_flows.links.alignMark l f n h
  data _ l c h := keys_flows.links.alignData l c h
  passed _ c h := keys_flows.classify .pass c h
  pulse s _ _ h := keys_of_frame h (by simp)
  swap s h := keys_of_frame h (by simp)
  drained _ i h := endDrain_keys i h
  held s h := keys_of_frame h (by simp)

/-! ### In-queue counts -/

/-- The in-queue count that a place holds, 0 for a free one. -/
def inQueueOf : Option FlowEntry → Nat
  | some e => e.inQueue
  | none => 0

/-- Records of a list that name an index. -/
def naming (i : FlowIdx) (l : List GroupRec) : Nat := l.countP fun r => r.entry == i

/-- The in-queue counts are those of the queued records and of records `l` that have left their queue uncounted. -/
def countsMatchBut (l : List GroupRec) (s : State) : Prop :=
  ∀ i : FlowIdx, recordsNaming s i + naming i l = inQueueOf s.flows[i]

theorem countsMatch_iff (s : State) : countsMatchRecords s ↔ countsMatchBut [] s := by
  refine forall_congr' fun i => ?_
  unfold inQueueOf
  split <;> simp_all [naming]

theorem counts_of_frame {l : List GroupRec} {s t : State} (h : countsMatchBut l s)
    (hrecords : ∀ i, recordsNaming t i = recordsNaming s i)
    (hcounts : ∀ i : FlowIdx, inQueueOf t.flows[i] = inQueueOf s.flows[i]) : countsMatchBut l t := fun i => by
  rw [hrecords, hcounts]
  exact h i

theorem counts_of_same {l : List GroupRec} {s t : State} (h : countsMatchBut l s)
    (f : t.groups = s.groups ∧ t.flows = s.flows) : countsMatchBut l t :=
  counts_of_frame h (fun i => by unfold recordsNaming; rw [f.1]) fun i => by rw [f.2]

/-- A flow entry changed in other fields than its in-queue count. -/
theorem counts_of_modFlow {l : List GroupRec} {s t : State} {i : FlowIdx} {f : FlowEntry → FlowEntry}
    (h : countsMatchBut l s) (hgroups : t.groups = s.groups) (hflows : t.flows = upd s.flows i (Option.map f))
    (hf : ∀ e, (f e).inQueue = e.inQueue) : countsMatchBut l t :=
  counts_of_frame h (fun i => by unfold recordsNaming; rw [hgroups]) fun j => by
    rw [hflows]
    refine upd_get_map s.flows i j _ inQueueOf fun x => ?_
    cases x with
    | none => rfl
    | some e => exact hf e

/-- A place that counts nothing holds something else that counts nothing. -/
theorem counts_of_place {l : List GroupRec} {s t : State} {i : FlowIdx} {x : Option FlowEntry}
    (h : countsMatchBut l s) (hgroups : t.groups = s.groups) (hflows : t.flows = upd s.flows i fun _ => x)
    (hold : inQueueOf s.flows[i] = 0) (hnew : inQueueOf x = 0) : countsMatchBut l t :=
  counts_of_frame h (fun i => by unfold recordsNaming; rw [hgroups]) fun j => by
    rw [hflows, upd_get]
    split
    · next hj => rw [hj, hold, hnew]
    · rfl

theorem endDrain_counts {l : List GroupRec} {s : State} (i : FlowIdx) (h : countsMatchBut l s) :
    countsMatchBut l (endDrain i s) := by
  rcases endDrain_cases i s with ⟨-, heq⟩ | ⟨e, he, -, hq, heq⟩
  · rw [heq]
    exact h
  · exact counts_of_place (i := i) (x := none) h (by simp) (by rw [heq]; simp) (by rw [he]; exact hq) rfl

/-- The records of a group queue, in a total over the groups. -/
theorem recordsNaming_upd {s t : State} {g : Group} {f : GroupState → GroupState} (hgroups : t.groups = upd s.groups g f)
    (i : FlowIdx) :
    recordsNaming t i + naming i s.groups[g].queue = recordsNaming s i + naming i (f s.groups[g]).queue := by
  unfold recordsNaming
  rw [hgroups]
  exact sum_upd s.groups g f fun q => naming i q.queue

/-- Records leave a group queue for the list of those not yet counted out. -/
theorem counts_of_taken {l out : List GroupRec} {s t : State} {g : Group} {f : GroupState → GroupState}
    (h : countsMatchBut l s) (hgroups : t.groups = upd s.groups g f) (hflows : t.flows = s.flows)
    (hout : s.groups[g].queue = out ++ (f s.groups[g]).queue) : countsMatchBut (out ++ l) t := fun i => by
  have hmoved := recordsNaming_upd hgroups i
  have hsplit : naming i s.groups[g].queue = naming i out + naming i (f s.groups[g]).queue := by
    rw [hout]
    exact List.countP_append
  have hlist : naming i (out ++ l) = naming i out + naming i l := List.countP_append
  have hi := h i
  rw [hflows, hlist]
  omega

/-- A record that has left its queue is counted out by its entry. -/
theorem counts_of_out {l : List GroupRec} {s t : State} {r : GroupRec} {f : FlowEntry → FlowEntry}
    (h : countsMatchBut (r :: l) s) (hgroups : t.groups = s.groups) (hflows : t.flows = upd s.flows r.entry (Option.map f))
    (hf : ∀ e, (f e).inQueue = e.inQueue - 1) : countsMatchBut l t := fun i => by
  have hi := h i
  have hrecords : recordsNaming t i = recordsNaming s i := by unfold recordsNaming; rw [hgroups]
  rw [hrecords, hflows, upd_get]
  by_cases he : i = r.entry
  · have hcons : naming i (r :: l) = naming i l + 1 := List.countP_cons_of_pos (by simp [he])
    rw [if_pos he]
    cases hx : s.flows[i] with
    | none =>
      rw [hx, hcons] at hi
      simp [inQueueOf] at hi
    | some e =>
      rw [hx, hcons] at hi
      simp only [inQueueOf, Option.map_some, hf] at hi ⊢
      omega
  · have hcons : naming i (r :: l) = naming i l := List.countP_cons_of_neg (by simpa using fun e => he e.symm)
    rw [if_neg he, ← hcons]
    exact hi

theorem enqueue_counts {s : State} {i : FlowIdx} (g : Group) (o : Origin) (c : DataCell)
    (hi : s.flows[i].isSome = true) (h : countsMatchBut [] s) : countsMatchBut [] (enqueue i g o c s) := fun j => by
  have hadded := recordsNaming_upd (s := s) (t := enqueue i g o c s) (g := g)
    (f := fun q => { q with queue := q.queue ++ [{ cell := c, entry := i, origin := o }] }) rfl j
  have hj := h j
  have happend : naming j (s.groups[g].queue ++ [{ cell := c, entry := i, origin := o }]) =
      naming j s.groups[g].queue + naming j [{ cell := c, entry := i, origin := o }] := List.countP_append
  simp only at hadded
  have hflows : (enqueue i g o c s).flows[j] = if j = i then
      s.flows[j].map fun x => { x with inQueue := x.inQueue + 1, admitted := min (x.admitted + 1) 65535 } else s.flows[j] :=
    upd_get _ _ _ _
  rw [hflows]
  obtain ⟨e, he⟩ := Option.isSome_iff_exists.mp hi
  by_cases hji : j = i
  · have hone : naming j [{ cell := c, entry := i, origin := o }] = 1 := by simp [naming, hji]
    subst hji
    rw [if_pos rfl, he]
    rw [he] at hj
    simp only [inQueueOf, Option.map_some] at hj ⊢
    omega
  · have hzero : naming j [{ cell := c, entry := i, origin := o }] = 0 := by simp [naming, Ne.symm hji]
    rw [if_neg hji]
    omega

/-- A record that has left its queue names an entry that still counts it. -/
theorem entry_of_out {l : List GroupRec} {s : State} {r : GroupRec} (h : countsMatchBut (r :: l) s) :
    s.flows[r.entry] ≠ none := fun hn => by
  have hr := h r.entry
  have hcons : naming r.entry (r :: l) = naming r.entry l + 1 := List.countP_cons_of_pos (by simp)
  rw [hn, hcons] at hr
  simp [inQueueOf] at hr

theorem rewriteAndSend_counts {s : State} {r : GroupRec} (h : countsMatchBut [r] s) :
    countsMatchBut [] (rewriteAndSend r s) := by
  unfold rewriteAndSend
  split
  · next hn => exact absurd hn (entry_of_out h)
  · exact endDrain_counts _ (counts_of_out h rfl rfl fun _ => rfl)

theorem takeHead_counts {s : State} (g : Group) (borrowed : Bool) (h : countsMatchBut [] s) :
    countsMatchBut [] (takeHead g borrowed s) := by
  unfold takeHead
  split
  · exact h
  · next r rest hq =>
    have htaken : countsMatchBut [r] (modGroup g (fun q => { q with queue := rest }) s) :=
      counts_of_taken (out := [r]) (g := g) (f := fun q => { q with queue := rest }) h rfl rfl hq
    refine rewriteAndSend_counts (counts_of_same htaken ?_)
    split <;> exact ⟨rfl, rfl⟩

theorem transmit_counts {s : State} (swaps : Bool) (h : countsMatchBut [] s) : countsMatchBut [] (transmit swaps s) := by
  have hsend {t : State} (c : Choice) (ht : countsMatchBut [] t) : countsMatchBut [] (send c t) := by
    cases c with
    | head g borrowed => exact takeHead_counts g borrowed ht
    | reply => exact counts_of_same ht (by simp [send])
    | notice => exact counts_of_same ht (by simp [send])
    | fill => exact ht
  unfold transmit
  dsimp only
  split <;> exact hsend _ (counts_of_same h (by simp))

theorem flushRecords_counts (l : List GroupRec) {s : State} (h : countsMatchBut l s) :
    countsMatchBut [] (l.foldl (fun s x => flushRecord x s) s) := by
  induction l generalizing s with
  | nil => exact h
  | cons x l ih => exact ih (endDrain_counts _ (counts_of_out (s := s) h rfl rfl fun _ => rfl))

theorem doGroupFlush_counts {s : State} (r : Request) (h : countsMatchBut [] s) :
    countsMatchBut [] (doGroupFlush r s) := by
  unfold doGroupFlush
  split
  · exact h
  · next g _ =>
    have htaken : countsMatchBut (s.groups[g].queue ++ []) (modGroup g (fun x => { x with queue := [] }) s) :=
      counts_of_taken (g := g) (f := fun x => { x with queue := [] }) h rfl rfl (List.append_nil _).symm
    rw [List.append_nil] at htaken
    exact flushRecords_counts _ (counts_of_same htaken ⟨rfl, rfl⟩)

theorem counts_flows : KeptByFlows (countsMatchBut []) where
  raises _ _ _ _ h := counts_of_same h (by simp)
  expected _ _ _ h := counts_of_modFlow h rfl rfl fun _ => rfl
  enqueues _ _ g o c hi _ h := enqueue_counts g o c hi h

theorem doUnitReset_counts (s : State) (r : Request) : countsMatchBut [] (doUnitReset r s) := fun i => by
  rw [doUnitReset_eq]
  have hqueues : (s.groups.toList.map fun _ => 0).sum = 0 := by simp
  simp only [recordsNaming, Vector.toList_map, List.map_map, Function.comp_def, List.countP_nil, hqueues, naming,
    Fin.getElem_fin, Vector.getElem_map]
  unfold resetEntry
  split
  · rfl
  · split <;> rfl

theorem counts_atReset : countsMatchBut [] State.reset := fun i => by
  have hempty : ∀ q ∈ State.reset.groups.toList, q.queue = [] := by decide
  have hnone : recordsNaming State.reset i = 0 := by
    refine List.sum_eq_zero fun n hn => ?_
    obtain ⟨q, hq, rfl⟩ := List.mem_map.mp hn
    rw [hempty q hq]
    rfl
  have hfree : State.reset.flows[i] = none := by simp [State.reset]
  rw [hnone, hfree]
  rfl

theorem counts_kept : KeptByParts (fun _ => True) (countsMatchBut []) where
  toKeptByReceivers := counts_flows.links.receivers
  renew s h := counts_of_frame h (fun _ => rfl) fun i => by
    simp only [renewBudgets, Fin.getElem_fin, Vector.getElem_map]
    cases s.flows[i.val] <;> rfl
  engineTick _ h := counts_flows.links.engineTick h
  counterTick _ h := counts_flows.links.counterTick h
  release _ h := counts_flows.links.releasePoint h
  transmit _ b h := transmit_counts b h
  lease _ p h := counts_flows.links.renewLease p h
  reply _ _ _ _ _ h := h
  unitReset s r _ := doUnitReset_counts s r
  laneSet _ r p _ _ _ h := counts_flows.laneSetCarried r p h
  flowAdd _ _ _ _ hfree _ hq h := counts_of_place h rfl rfl (by rw [hfree]; rfl) hq
  flowModify _ _ _ h := counts_of_modFlow h rfl rfl fun _ => rfl
  flowRemove _ _ _ he _ hq h := counts_of_place h rfl rfl (by rw [he]; exact hq) rfl
  beginDrain _ _ _ _ _ _ _ h := counts_of_modFlow h rfl rfl fun _ => rfl
  schedCancel s r _ h := counts_of_same h (by simp)
  groupSet s g n b _ _ _ h := 
    counts_of_taken (out := []) (g := g) (f := fun q => { q with limit := n, borrow := b }) h rfl rfl rfl
  groupFlush _ r _ h := doGroupFlush_counts r h
  cycleSet s r _ h := counts_of_same h (by simp)
  atReset := counts_atReset
  mark _ l f n h := counts_flows.links.alignMark l f n h
  data _ l c h := counts_flows.links.alignData l c h
  passed _ c h := counts_flows.classify .pass c h
  pulse s _ _ h := counts_of_same h (by simp)
  swap s h := counts_of_same h (by simp)
  drained _ i h := endDrain_counts i h
  held s h := counts_of_same h (by simp)

/-- Settles O53: a place changes its key only when it is filled with a key that none holds or is freed, and a record
joins or leaves a group queue with its entry's count, a flushed or sent one in two moves. -/
theorem everyStepKeepsFlowEntriesSound : Obligations.EveryStepKeepsFlowEntriesSound := fun s t ⟨hkeys, hcounts⟩ ht =>
  ⟨keys_kept.step hkeys ht, (countsMatch_iff t).mpr (counts_kept.step ((countsMatch_iff s).mp hcounts) ht)⟩

end Sys2Proof.Machine
end

section
/-! PROOF. Every step keeps the first law: free buffers, queued cells and the cell in transmission are 1024 together. -/

-- Checked one after another, as the tests are: the theorems of a section all at once take a thread each.
set_option Elab.async false

namespace Sys2Proof.Machine

/-! ### Buffers in hand -/

/-- The buffers add up to 1024 with those of `n` cells that a block has in hand. -/
def buffersWith (n : Nat) (s : State) : Prop := s.free + lanesHold s + groupsHold s + inTransmission s + n = 1024

theorem buffers_of_frame {n : Nat} {s t : State} (h : buffersWith n s)
    (f : t.free = s.free ∧ t.lanes = s.lanes ∧ t.groups = s.groups ∧ t.trunk.inTransit = s.trunk.inTransit) :
    buffersWith n t := by
  unfold buffersWith lanesHold groupsHold inTransmission at *
  rw [f.1, f.2.1, f.2.2.1, f.2.2.2]
  exact h

theorem lanesHold_upd {s t : State} {l : Lane} {f : LaneState → LaneState} (h : t.lanes = upd s.lanes l f) :
    lanesHold t + s.lanes[l].queue.length = lanesHold s + (f s.lanes[l]).queue.length := by
  unfold lanesHold
  rw [h]
  exact sum_upd s.lanes l f fun x => x.queue.length

theorem groupsHold_upd {s t : State} {g : Group} {f : GroupState → GroupState} (h : t.groups = upd s.groups g f) :
    groupsHold t + s.groups[g].queue.length = groupsHold s + (f s.groups[g]).queue.length := by
  unfold groupsHold
  rw [h]
  exact sum_upd s.groups g f fun q => q.queue.length

/-- A lane changed with what its queue gives up put in hand or returned. -/
theorem buffers_of_lane {m n : Nat} {s t : State} {l : Lane} {f : LaneState → LaneState} (h : buffersWith m s)
    (hlanes : t.lanes = upd s.lanes l f)
    (hmoved : t.free + (f s.lanes[l]).queue.length + n = s.free + s.lanes[l].queue.length + m)
    (hkeep : t.groups = s.groups ∧ t.trunk.inTransit = s.trunk.inTransit) : buffersWith n t := by
  have hhold := lanesHold_upd hlanes
  have hgroups : groupsHold t = groupsHold s := by unfold groupsHold; rw [hkeep.1]
  have hsent : inTransmission t = inTransmission s := by unfold inTransmission; rw [hkeep.2]
  unfold buffersWith at *
  omega

/-- A group queue changed with what it gives up or takes. -/
theorem buffers_of_group {m n : Nat} {s t : State} {g : Group} {f : GroupState → GroupState} (h : buffersWith m s)
    (hgroups : t.groups = upd s.groups g f)
    (hmoved : t.free + (f s.groups[g]).queue.length + n = s.free + s.groups[g].queue.length + m)
    (hkeep : t.lanes = s.lanes ∧ t.trunk.inTransit = s.trunk.inTransit) : buffersWith n t := by
  have hhold := groupsHold_upd hgroups
  have hlanes : lanesHold t = lanesHold s := by unfold lanesHold; rw [hkeep.1]
  have hsent : inTransmission t = inTransmission s := by unfold inTransmission; rw [hkeep.2]
  unfold buffersWith at *
  omega

/-! ### The classifier -/

/-- The buffers that a cell of this origin has in hand when it reaches the classifier (5.3). -/
def Origin.inHand (o : Origin) : Nat := if o.holdsBuffer then 1 else 0

theorem giveBack_buffers {n : Nat} {s : State} (o : Origin) (h : buffersWith (n + o.inHand) s) :
    buffersWith n (giveBack o s) := by
  unfold Origin.inHand at h
  unfold giveBack
  split
  · next ho =>
    rw [if_pos ho] at h
    show s.free + 1 + lanesHold s + groupsHold s + inTransmission s + n = 1024
    unfold buffersWith at h
    omega
  · next ho =>
    rw [if_neg ho] at h
    exact h

theorem enqueue_buffers {n : Nat} {s : State} (i : FlowIdx) (g : Group) (o : Origin) (c : DataCell)
    (h : buffersWith (n + 1) s) : buffersWith n (enqueue i g o c s) :=
  buffers_of_group (g := g) (f := fun q => { q with queue := q.queue ++ [{ cell := c, entry := i, origin := o }] }) h rfl
    (by simp only [enqueue_frame, List.length_append, List.length_singleton]; omega) ⟨rfl, rfl⟩

theorem groupAdmission_buffers {n : Nat} {s : State} (i : FlowIdx) (g : Group) (o : Origin) (c : DataCell)
    (h : buffersWith (n + o.inHand) s) : buffersWith n (groupAdmission i g o c s) := by
  unfold groupAdmission
  split
  · exact giveBack_buffers o (buffers_of_frame h (by simp))
  · split
    · next ho =>
      rw [Origin.inHand, if_pos ho] at h
      exact enqueue_buffers i g o c h
    · next ho =>
      rw [Origin.inHand, if_neg ho] at h
      split
      · exact buffers_of_frame h (by simp)
      · next hfree =>
        refine enqueue_buffers i g o c ?_
        show s.free - 1 + lanesHold s + groupsHold s + inTransmission s + (n + 1) = 1024
        unfold buffersWith at h
        omega

theorem classify_buffers {n : Nat} {s : State} (o : Origin) (c : DataCell) (h : buffersWith (n + o.inHand) s) :
    buffersWith n (classify o c s) := by
  unfold classify
  split
  · exact giveBack_buffers o (buffers_of_frame h (by simp))
  · next i hi =>
    split
    · next hnone =>
      obtain ⟨e, he, -⟩ := findKey_some hi
      rw [hnone] at he
      cases he
    · next e _ =>
      unfold classifyHit
      split
      · exact giveBack_buffers o (buffers_of_frame h (by simp))
      · split
        · exact giveBack_buffers o (buffers_of_frame h (by simp))
        · dsimp only
          split
          · exact giveBack_buffers o (buffers_of_frame h (by simp))
          · exact groupAdmission_buffers i e.group o c (buffers_of_frame h (by simp))

/-- Released cells in hand all find a queue or give their buffer back. -/
theorem classifyAll_buffers (e : Epoch) (recs : List LaneRec) {s : State} (h : buffersWith recs.length s) :
    buffersWith 0 (recs.foldl (fun s r => classify (.aligned e) r.cell s) s) := by
  induction recs generalizing s with
  | nil => exact h
  | cons r recs ih => exact ih (classify_buffers (.aligned e) r.cell h)

/-! ### Lane queues -/

/-- The lane with another queue, and its hysteresis state judged on it (R46, R47, R50). -/
def LaneState.withQueue (prof : Profile) (q : List LaneRec) (x : LaneState) : LaneState :=
  { x with queue := q, high := judgedHigh prof q.length x.high }

theorem judgeLane_lanes (l : Lane) (s : State) :
    (judgeLane l s).lanes = upd s.lanes l fun x => x.withQueue s.ports[l.port].profile x.queue := rfl

theorem takeOut_lanes (l : Lane) (e : Epoch) (s : State) :
    (takeOut l e s).lanes =
      upd s.lanes l fun x => x.withQueue s.ports[l.port].profile (x.queue.filter fun r => !(r.epoch == e)) := by
  simp [LaneState.withQueue]

theorem emptyLane_lanes (l : Lane) (s : State) :
    (emptyLane l s).lanes = upd s.lanes l fun x => x.withQueue s.ports[l.port].profile [] := by
  simp [LaneState.withQueue]

/-- The part with a cell appended to a lane queue that has room, out of a free buffer (R46). -/
def laneTake (l : Lane) (e : Epoch) (c : DataCell) (s : State) : State :=
  judgeLane l
    (modLane l (fun x => { x with queue := x.queue ++ [{ cell := c, epoch := e }] }) { s with free := s.free - 1 })

theorem laneTake_lanes (l : Lane) (e : Epoch) (c : DataCell) (s : State) :
    (laneTake l e c s).lanes =
      upd s.lanes l fun x => x.withQueue s.ports[l.port].profile (x.queue ++ [{ cell := c, epoch := e }]) := by
  simp [laneTake, LaneState.withQueue]

/-- All that an append can do: it counts and raises, or the cell joins a queue below its quota (R46). -/
theorem laneAppend_cases (l : Lane) (e : Epoch) (c : DataCell) (s : State) :
    ((laneAppend l e c s).lanes = s.lanes ∧ (laneAppend l e c s).free = s.free) ∨
    (s.lanes[l].queue.length < s.ports[l.port].profile.quota ∧ s.free ≠ 0 ∧ laneAppend l e c s = laneTake l e c s) := by
  unfold laneAppend
  split
  · exact .inl ⟨rfl, rfl⟩
  · next hquota =>
    split
    · exact .inl (by simp)
    · next hfree => exact .inr ⟨Nat.lt_of_not_le hquota, hfree, rfl⟩

/-- The cells of an epoch and the others are the whole queue. -/
theorem epochRecs_length (s : State) (l : Lane) (e : Epoch) :
    (epochRecs s l e).length + (s.lanes[l].queue.filter fun r => !(r.epoch == e)).length = s.lanes[l].queue.length :=
  (List.length_eq_length_filter_add _).symm

theorem takeOut_buffers {s : State} (l : Lane) (e : Epoch) (h : buffersWith 0 s) :
    buffersWith (epochRecs s l e).length (takeOut l e s) := by
  have hlen := epochRecs_length s l e
  refine buffers_of_lane h (takeOut_lanes l e s) ?_ (by simp)
  simp only [takeOut_frame, LaneState.withQueue]
  omega

theorem discardEpoch_buffers {s : State} (l : Lane) (e : Epoch) (h : buffersWith 0 s) :
    buffersWith 0 (discardEpoch l e s) := by
  have hlen := epochRecs_length s l e
  refine buffers_of_lane h (takeOut_lanes l e s) ?_ (by simp)
  simp only [discardEpoch_frame, LaneState.withQueue]
  omega

theorem laneAppend_buffers {s : State} (l : Lane) (e : Epoch) (c : DataCell) (h : buffersWith 0 s) :
    buffersWith 0 (laneAppend l e c s) := by
  rcases laneAppend_cases l e c s with ⟨hlanes, hfree⟩ | ⟨-, hfree, heq⟩
  · exact buffers_of_frame h ⟨hfree, hlanes, by simp⟩
  · rw [heq]
    refine buffers_of_lane h (laneTake_lanes l e c s) ?_ (by simp [laneTake])
    have hone : (laneTake l e c s).free = s.free - 1 := by simp [laneTake]
    simp only [hone, LaneState.withQueue, List.length_append, List.length_singleton]
    omega

theorem buffers_links : KeptByLinks (buffersWith 0) where
  raises _ _ _ _ h := buffers_of_frame h (by simp)
  member _ l m n h :=
    buffers_of_lane (l := l) (f := fun x => { x with member := m x, lateCount := n x }) h rfl rfl ⟨rfl, rfl⟩
  discards _ l e h := discardEpoch_buffers l e h
  releases _ l e h := classifyAll_buffers e _ (takeOut_buffers l e h)
  appends _ l e c h := laneAppend_buffers l e c h
  empties s l h := buffers_of_lane h (emptyLane_lanes l s) (by simp [LaneState.withQueue]) (by simp)
  judges s l h := buffers_of_lane h (judgeLane_lanes l s) rfl (by simp)

/-! ### The trunk, a flush and a reset -/

/-- The slot just sent gives back its cell's buffer (R44). -/
theorem endSlot_buffers {s : State} (h : buffersWith 0 s) : buffersWith 0 (endSlot s) := by
  unfold buffersWith at *
  have hlanes : lanesHold (endSlot s) = lanesHold s := by simp [lanesHold]
  have hgroups : groupsHold (endSlot s) = groupsHold s := by simp [groupsHold]
  have hsent : inTransmission (endSlot s) = 0 := by simp [inTransmission]
  have hfree : (endSlot s).free = s.free + inTransmission s := by simp [inTransmission]
  omega

/-- With no cell in transmission the head of a group queue becomes it (R44, R124). -/
theorem takeHead_buffers {s : State} (g : Group) (borrowed : Bool) (hidle : s.trunk.inTransit = none)
    (h : buffersWith 0 s) : buffersWith 0 (takeHead g borrowed s) := by
  unfold takeHead
  split
  · exact h
  · next r rest hq =>
    have hsent : buffersWith 0
        { modGroup g (fun q => { q with queue := rest }) s with
          trunk := { s.trunk with inTransit := some { cell := r.cell, origin := r.origin } } } := by
      have hhold := groupsHold_upd (s := s) (t := modGroup g (fun q => { q with queue := rest }) s)
        (f := fun q => { q with queue := rest }) rfl
      have hidle : inTransmission s = 0 := by simp [inTransmission, hidle]
      have hlen : s.groups[g].queue.length = rest.length + 1 := by rw [hq]; rfl
      unfold buffersWith at *
      show s.free + lanesHold s + groupsHold (modGroup g (fun q => { q with queue := rest }) s) + 1 + 0 = 1024
      simp only at hhold
      omega
    refine buffers_of_frame hsent ?_
    dsimp only
    split <;> simp

theorem transmit_buffers {s : State} (swaps : Bool) (h : buffersWith 0 s) : buffersWith 0 (transmit swaps s) := by
  have hsend {t : State} (c : Choice) (hidle : t.trunk.inTransit = none) (ht : buffersWith 0 t) :
      buffersWith 0 (send c t) := by
    cases c with
    | head g borrowed => exact takeHead_buffers g borrowed hidle ht
    | reply =>
      simp only [send, sendReply]
      split
      · exact ht
      · exact buffers_of_frame ht (by simp [putOut])
    | notice =>
      simp only [send, sendNotice]
      split
      · exact ht
      · exact buffers_of_frame ht (by simp [putOut])
    | fill => exact ht
  have hend := endSlot_buffers h
  unfold transmit
  dsimp only
  split
  · exact hsend _ (by simp) (buffers_of_frame hend (by simp))
  · exact hsend _ (by simp) hend

theorem flushRecords_buffers (l : List GroupRec) {s : State} (h : buffersWith l.length s) :
    buffersWith 0 (l.foldl (fun s x => flushRecord x s) s) := by
  induction l generalizing s with
  | nil => exact h
  | cons x l ih =>
    refine ih ?_
    have hfreed : buffersWith l.length (freeBuffers 1 s) := by
      show s.free + 1 + lanesHold s + groupsHold s + inTransmission s + l.length = 1024
      unfold buffersWith at h
      rw [List.length_cons] at h
      omega
    exact buffers_of_frame hfreed (by simp [flushRecord])

theorem doGroupFlush_buffers {s : State} (r : Request) (h : buffersWith 0 s) : buffersWith 0 (doGroupFlush r s) := by
  unfold doGroupFlush
  split
  · exact h
  · next g _ =>
    have htaken : buffersWith s.groups[g].queue.length (modGroup g (fun x => { x with queue := [] }) s) :=
      buffers_of_group (g := g) (f := fun x => { x with queue := [] }) h rfl
        (by simp only [modGroup_frame, List.length_nil]; omega) ⟨rfl, rfl⟩
    exact flushRecords_buffers _ htaken

/-- A total over places that all count nothing. -/
theorem total_eq_zero {α : Type} {n : Nat} {v : Vector α n} {f : α → Nat} (h : ∀ x ∈ v.toList, f x = 0) :
    (v.toList.map f).sum = 0 :=
  List.sum_eq_zero fun _ hn => by
    obtain ⟨x, hx, rfl⟩ := List.mem_map.mp hn
    exact h x hx

theorem doUnitReset_buffers {s : State} (r : Request) (h : buffersWith 0 s) : buffersWith 0 (doUnitReset r s) := by
  have hgroups : groupsHold (doUnitReset r s) = 0 := by
    refine total_eq_zero fun q hq => ?_
    rw [doUnitReset_eq] at hq
    obtain ⟨x, -, rfl⟩ := List.mem_map.mp (Vector.toList_map ▸ hq)
    rfl
  have hlanes : lanesHold (doUnitReset r s) = 0 := by
    refine total_eq_zero fun x hx => ?_
    rw [doUnitReset_eq] at hx
    obtain ⟨l, rfl⟩ := Vector.mem_ofFn.mp (Vector.mem_toList_iff.mp hx)
    rfl
  have hfree : (doUnitReset r s).free = s.free + (lanesHold s + groupsHold s) := by rw [doUnitReset_eq]
  have hsent : inTransmission (doUnitReset r s) = inTransmission s := by
    rw [doUnitReset_eq]
    rfl
  unfold buffersWith at *
  omega

theorem buffers_kept : KeptByParts (fun _ => True) (buffersWith 0) where
  toKeptByReceivers := buffers_links.receivers
  engineTick _ h := buffers_links.engineTick h
  counterTick _ h := buffers_links.counterTick h
  release _ h := buffers_links.releasePoint h
  transmit _ b h := transmit_buffers b h
  lease _ p h := buffers_links.renewLease p h
  reply _ _ _ _ _ h := h
  unitReset _ r h := doUnitReset_buffers r h
  laneSet _ r p _ _ _ h := buffers_links.laneSetCarried r p h
  rejoin _ l _ h := buffers_links.member _ l (fun _ => .joining) (fun _ => 0) h
  schedCancel s r _ h := buffers_of_frame h (by simp)
  groupSet _ g n b _ _ _ h :=
    buffers_of_group (g := g) (f := fun q => { q with limit := n, borrow := b }) h rfl rfl ⟨rfl, rfl⟩
  groupFlush _ r _ h := doGroupFlush_buffers r h
  cycleSet s r _ h := buffers_of_frame h (by simp)
  atReset := by
    have hlanes : lanesHold State.reset = 0 := by decide
    have hgroups : groupsHold State.reset = 0 := by decide
    show 1024 + lanesHold State.reset + groupsHold State.reset + 0 + 0 = 1024
    omega
  mark _ l f n h := buffers_links.alignMark l f n h
  data _ l c h := buffers_links.alignData l c h
  passed _ c h := classify_buffers .pass c h
  pulse s _ _ h := buffers_of_frame h (by simp)
  swap s h := buffers_of_frame h (by simp)
  drained s i h := buffers_of_frame h (by simp)
  held s h := buffers_of_frame h (by simp)

/-- Settles O51: a cell that leaves one queue is in another, in transmission, or gives its buffer back, counted while it
is in a block's hand. -/
theorem everyStepKeepsBuffers : Obligations.EveryStepKeepsBuffers := fun _ _ => buffers_kept.step

end Sys2Proof.Machine
end

section
/-! PROOF. Every step keeps lane queues within their quota, group queues within their limit, quota and watermarks related,
and the hysteresis state true to the occupancy. -/

-- Checked one after another, as the tests are: the theorems of a section all at once take a thread each.
set_option Elab.async false

namespace Sys2Proof.Machine

/-! ### Group queues (R115) -/

/-- A group queue holds no more than its limit, and the limit is in its range. -/
def GroupState.within (q : GroupState) : Prop := q.queue.length ≤ q.limit ∧ 1 ≤ q.limit ∧ q.limit ≤ 1024

/-- Every group queue is within its limit. -/
def groupsWithin (s : State) : Prop := ∀ g : Group, s.groups[g].within

theorem groups_of_frame {s t : State} (h : groupsWithin s) (f : t.groups = s.groups) : groupsWithin t := by
  unfold groupsWithin
  rw [f]
  exact h

theorem groups_of_upd {s t : State} {g : Group} {f : GroupState → GroupState} (h : groupsWithin s)
    (hgroups : t.groups = upd s.groups g f) (hg : s.groups[g].within → (f s.groups[g]).within) : groupsWithin t := by
  intro k
  rw [hgroups, upd_get]
  split
  · next e => exact e ▸ hg (h g)
  · exact h k

theorem groups_flows : KeptByFlows groupsWithin where
  raises _ _ _ _ h := groups_of_frame h (by simp)
  enqueues _ i g o c _ hroom h :=
    groups_of_upd (g := g) (f := fun q => { q with queue := q.queue ++ [{ cell := c, entry := i, origin := o }] }) h rfl
      fun hg => ⟨by simpa using hroom, hg.2⟩

theorem transmit_groups {s : State} (swaps : Bool) (h : groupsWithin s) : groupsWithin (transmit swaps s) := by
  have hhead {t : State} (g : Group) (borrowed : Bool) (ht : groupsWithin t) : groupsWithin (takeHead g borrowed t) := by
    unfold takeHead
    split
    · exact ht
    · next r rest hq =>
      have htaken : groupsWithin (modGroup g (fun q => { q with queue := rest }) t) :=
        groups_of_upd (g := g) (f := fun q => { q with queue := rest }) ht rfl fun hg =>
          ⟨Nat.le_trans (by rw [hq]; exact Nat.le_succ _) hg.1, hg.2⟩
      refine groups_of_frame htaken ?_
      dsimp only
      split <;> simp
  have hsend {t : State} (c : Choice) (ht : groupsWithin t) : groupsWithin (send c t) := by
    cases c with
    | head g borrowed => exact hhead g borrowed ht
    | reply => exact groups_of_frame ht (by simp [send])
    | notice => exact groups_of_frame ht (by simp [send])
    | fill => exact ht
  unfold transmit
  dsimp only
  split <;> exact hsend _ (groups_of_frame h (by simp))

/-- An emptied group queue is within its limit. -/
theorem GroupState.within_empty {q : GroupState} (h : q.within) : GroupState.within { q with queue := [] } :=
  ⟨Nat.zero_le _, h.2⟩

theorem doGroupFlush_groups {s : State} (r : Request) (h : groupsWithin s) : groupsWithin (doGroupFlush r s) := by
  unfold doGroupFlush
  split
  · exact h
  · next g _ =>
    have hempty : groupsWithin (modGroup g (fun x => { x with queue := [] }) s) :=
      groups_of_upd (g := g) (f := fun x => { x with queue := [] }) h rfl GroupState.within_empty
    exact groups_of_frame hempty (flushRecords_keep _ _).2.2.2.1

theorem groups_kept : KeptByParts (fun _ => True) groupsWithin where
  toKeptByReceivers := groups_flows.links.receivers
  engineTick _ h := groups_flows.links.engineTick h
  counterTick _ h := groups_flows.links.counterTick h
  release _ h := groups_flows.links.releasePoint h
  transmit _ b h := transmit_groups b h
  lease _ p h := groups_flows.links.renewLease p h
  reply _ _ _ _ _ h := h
  unitReset s r h g := by
    rw [doUnitReset_eq]
    simpa using GroupState.within_empty (h g)
  laneSet _ r p _ _ _ h := groups_flows.laneSetCarried r p h
  schedCancel s r _ h := groups_of_frame h (by simp)
  groupSet s g n b h1 h2 hlen h :=
    groups_of_upd (g := g) (f := fun q => { q with limit := n, borrow := b }) h rfl fun _ => ⟨hlen, h1, h2⟩
  groupFlush _ r _ h := doGroupFlush_groups r h
  cycleSet s r _ h := groups_of_frame h (by simp)
  atReset := by
    have hreset : ∀ g : Group, (State.reset.groups[g].queue.length ≤ State.reset.groups[g].limit ∧
        1 ≤ State.reset.groups[g].limit ∧ State.reset.groups[g].limit ≤ 1024) := by decide
    exact hreset
  mark _ l f n h := groups_flows.links.alignMark l f n h
  data _ l c h := groups_flows.links.alignData l c h
  passed _ c h := groups_flows.classify .pass c h
  pulse s _ _ h := groups_of_frame h (by simp)
  swap s h := groups_of_frame h (by simp)
  drained s i h := groups_of_frame h (by simp)
  held s h := groups_of_frame h (by simp)

/-! ### Lane queues (R46, R50) -/

/-- A lane queue holds no more than its quota and the hysteresis state agrees with the occupancy. -/
def LaneState.within (prof : Profile) (x : LaneState) : Prop :=
  x.queue.length ≤ prof.quota ∧ hysteresisAgrees prof x.queue.length x.high

/-- A hysteresis state that is judged agrees with the occupancy (R50). -/
theorem judgedHigh_agrees {prof : Profile} (h : prof.related) (n : Nat) (before : Bool) :
    hysteresisAgrees prof n (judgedHigh prof n before) := by
  obtain ⟨-, h⟩ := h
  unfold judgedHigh
  refine ⟨fun hq => if_pos hq, fun hq hn => by rw [if_neg hq, if_pos hn], fun hq hn => ?_⟩
  rw [if_neg hq] at h
  rw [if_neg hq, if_neg (by omega), if_pos hn]

theorem withQueue_within {prof : Profile} (h : prof.related) {q : List LaneRec} (hq : q.length ≤ prof.quota)
    (x : LaneState) : (x.withQueue prof q).within prof := ⟨hq, judgedHigh_agrees h _ _⟩

/-- Every lane's quota and watermarks are related, and every lane but perhaps one is within its quota. -/
def lanesWithinBut (x : Option Lane) (s : State) : Prop :=
  ∀ l : Lane, s.ports[l.port].profile.related ∧ (some l ≠ x → s.lanes[l].within s.ports[l.port].profile)

theorem lanes_of_frame {x : Option Lane} {s t : State} (h : lanesWithinBut x s)
    (hprofiles : ∀ l : Lane, t.ports[l.port].profile = s.ports[l.port].profile) (f : t.lanes = s.lanes) :
    lanesWithinBut x t := by
  intro l
  rw [hprofiles, f]
  exact h l

/-- One lane's queue changed, with the hysteresis state judged on what is left in it. -/
theorem lanes_of_queue {x : Option Lane} {s t : State} {l : Lane} {f : LaneState → List LaneRec} (h : lanesWithinBut x s)
    (hports : t.ports = s.ports)
    (hlanes : t.lanes = upd s.lanes l fun y => y.withQueue s.ports[l.port].profile (f y))
    (hlen : some l ≠ x → (f s.lanes[l]).length ≤ s.ports[l.port].profile.quota) : lanesWithinBut x t := by
  intro k
  rw [hports, hlanes, upd_get]
  refine ⟨(h k).1, fun hk => ?_⟩
  split
  · next e =>
    subst e
    exact withQueue_within (h k).1 (hlen hk) _
  · exact (h k).2 hk

/-- The lane left out is within its quota again when its queue is judged with no more than the quota in it. -/
theorem lanes_all_of_queue {s t : State} {l : Lane} {f : LaneState → List LaneRec} (h : lanesWithinBut (some l) s)
    (hports : t.ports = s.ports)
    (hlanes : t.lanes = upd s.lanes l fun y => y.withQueue s.ports[l.port].profile (f y))
    (hlen : (f s.lanes[l]).length ≤ s.ports[l.port].profile.quota) : lanesWithinBut none t := by
  intro k
  rw [hports, hlanes, upd_get]
  refine ⟨(h k).1, fun _ => ?_⟩
  split
  · next e =>
    subst e
    exact withQueue_within (h k).1 hlen _
  · next e => exact (h k).2 (by simpa using e)

theorem lanes_links (x : Option Lane) : KeptByLinks (lanesWithinBut x) where
  raises _ _ _ _ h := lanes_of_frame h (by simp) (by simp)
  member s l m n h := by
    intro k
    refine ⟨(h k).1, fun hk => ?_⟩
    have hsame (y : LaneState) (prof : Profile) :
        LaneState.within prof { y with member := m y, lateCount := n y } = y.within prof := rfl
    have hget := upd_get_map s.lanes l k (fun y => { y with member := m y, lateCount := n y })
      (LaneState.within s.ports[k.port].profile) fun y => hsame y _
    exact hget.mpr ((h k).2 hk)
  discards s l e h := lanes_of_queue (l := l) h (by simp) (takeOut_lanes l e s) fun hl =>
    Nat.le_trans (List.length_filter_le _ _) ((h l).2 hl).1
  releases s l e h := by
    have htaken : lanesWithinBut x (takeOut l e s) := lanes_of_queue (l := l) h (by simp) (takeOut_lanes l e s) fun hl =>
      Nat.le_trans (List.length_filter_le _ _) ((h l).2 hl).1
    exact lanes_of_frame htaken (by simp) (by simp)
  appends s l e c h := by
    rcases laneAppend_cases l e c s with ⟨hlanes, -⟩ | ⟨hroom, -, heq⟩
    · exact lanes_of_frame h (by simp) hlanes
    · rw [heq]
      exact lanes_of_queue h (by simp [laneTake]) (laneTake_lanes l e c s) fun _ => by simpa using hroom
  receiver s p f h := lanes_of_frame h (fun l => by rw [modRx_mgmt]) (by simp)
  empties s l h := lanes_of_queue h (by simp) (emptyLane_lanes l s) fun _ => Nat.zero_le _
  judges s l h := lanes_of_queue h (by simp) (judgeLane_lanes l s) fun hl => ((h l).2 hl).1

/-! ### LANE_SET (R36, R37, R51) -/

theorem port_of_lane? {p : Port} {l : Lane} (h : p.lane? = some l) : l.port = p := by
  unfold Port.lane? at h
  split at h
  · cases h
    rfl
  · cases h

theorem lane?_port (l : Lane) : l.port.lane? = some l := by
  revert l
  decide

theorem lane_port_ne_tIn (l : Lane) : l.port ≠ tIn := by
  revert l
  decide

/-- The quota and watermarks that a LANE_SET gives a lane are related (R20, R36). -/
theorem newProfile_related {r : Request} {p : Port} (hp : p ≠ tIn) (h : laneSetOk r p = true) (old : Profile) :
    (newProfile r p old).related := by
  simp only [laneSetOk, Bool.and_eq_true, Bool.or_eq_true, beq_iff_eq, hp, false_or, decide_eq_true_eq] at h
  obtain ⟨-, ⟨-, hquota⟩, hmarks⟩ := h
  unfold newProfile
  rw [if_neg hp]
  refine ⟨hquota, ?_⟩
  unfold watermarksOk at hmarks
  dsimp only
  split
  · next hzero => simpa [hzero] using hmarks
  · next hzero => simpa [hzero, and_assoc] using hmarks

theorem withProfile_profile (r : Request) (p q : Port) (s : State) :
    (withProfile r p s).ports[q].profile =
      if q = p then newProfile r p s.ports[p].profile else s.ports[q].profile := by
  unfold withProfile
  simp only [modPort_frame, upd_get]
  split <;> rfl

/-- With the new record in its port every lane but the port's own is as it was. -/
theorem withProfile_lanes {s : State} {r : Request} {p : Port} (hok : laneSetOk r p = true) (h : lanesWithinBut none s) :
    lanesWithinBut p.lane? (withProfile r p s) := by
  intro l
  rw [withProfile_profile]
  split
  · next e =>
    have hlane : p.lane? = some l := e ▸ lane?_port l
    exact ⟨newProfile_related (e ▸ lane_port_ne_tIn l) hok _, fun hne => absurd hlane.symm hne⟩
  · exact ⟨(h l).1, fun _ => (h l).2 nofun⟩

theorem lanes_of_laneSet {s : State} {r : Request} {p : Port} (ha : laneSetAllowed r p s) (h : lanesWithinBut none s) :
    lanesWithinBut none (laneSetCarried r p s) := by
  obtain ⟨hok, -, hroom⟩ := ha
  have hset := withProfile_lanes hok h
  cases hl : p.lane? with
  | none =>
    rw [hl] at hset
    exact (lanes_links none).laneSetCarried r p hset
  | some l =>
    rw [hl] at hset
    obtain rfl := port_of_lane? hl
    have hempty {t : State} (ht : lanesWithinBut (some l) t) : lanesWithinBut none (emptyPortLane l.port t) := by
      simp only [emptyPortLane, hl]
      exact lanes_all_of_queue ht (by simp) (emptyLane_lanes l t) (Nat.zero_le _)
    cases hr : laneSetRestarts r l.port s with
    | true =>
      by_cases hup : s.ports[l.port].rx.st = .up
      · rw [laneSetCarried_leaves hr hup]
        exact hempty ((lanes_links (some l)).leaveUp _ _ hset)
      · rw [laneSetCarried_searches hr hup]
        exact hempty ((lanes_links (some l)).receiver _ _ _ hset)
    | false =>
      rw [laneSetCarried_judges hr]
      simp only [laneSetJudge, hl]
      have hprofile := withProfile_profile r l.port l.port s
      rw [if_pos rfl] at hprofile
      split
      · refine lanes_all_of_queue hset (by simp) (judgeLane_lanes l _) ?_
        rw [hprofile]
        have hkept : (newProfile r l.port s.ports[l.port].profile).quota ≥ portOccupancy s l.port :=
          Nat.le_of_not_lt fun hlt => hroom ⟨lane_port_ne_tIn l, hr, hlt⟩
        simpa [portOccupancy, hl, withProfile] using hkept
      · next hsame =>
        simp only [bne_iff_ne, Bool.or_eq_true, ne_eq, not_or, not_not] at hsame
        obtain ⟨⟨hquota, hhigh⟩, hlow⟩ := hsame
        intro k
        refine ⟨(hset k).1, fun _ => ?_⟩
        by_cases e : k = l
        · subst e
          have hk := (h k).2 nofun
          unfold LaneState.within hysteresisAgrees at hk ⊢
          rw [hprofile, ← hquota, ← hhigh, ← hlow]
          exact hk
        · exact (hset k).2 (by simpa using e)

/-! ### The law -/

theorem lanes_atReset : lanesWithinBut none State.reset := by
  have hempty : ∀ l : Lane, State.reset.lanes[l].queue = [] ∧
      State.reset.lanes[l].high = judgedHigh State.reset.ports[l.port].profile 0 State.reset.lanes[l].high := by decide
  have hrelated : ∀ l : Lane, State.reset.ports[l.port].profile.quota ≤ 1024 ∧
      (if State.reset.ports[l.port].profile.quota = 0 then
        State.reset.ports[l.port].profile.high = 0 ∧ State.reset.ports[l.port].profile.low = 0
      else 1 ≤ State.reset.ports[l.port].profile.high ∧
        State.reset.ports[l.port].profile.high ≤ State.reset.ports[l.port].profile.quota ∧
        State.reset.ports[l.port].profile.low < State.reset.ports[l.port].profile.high) := by decide
  intro l
  refine ⟨hrelated l, fun _ => ?_⟩
  obtain ⟨hqueue, hhigh⟩ := hempty l
  unfold LaneState.within
  rw [hqueue, hhigh]
  exact ⟨Nat.zero_le _, judgedHigh_agrees (hrelated l) _ _⟩

theorem lanes_kept : KeptByParts (fun _ => True) (lanesWithinBut none) where
  toKeptByReceivers := (lanes_links none).receivers
  engineTick _ h := (lanes_links none).engineTick h
  counterTick _ h := (lanes_links none).counterTick h
  release _ h := (lanes_links none).releasePoint h
  transmit s b h := lanes_of_frame h (by simp) (by simp)
  lease _ p h := (lanes_links none).renewLease p h
  reply _ _ _ _ _ h := h
  unitReset s r h l := by
    rw [doUnitReset_eq]
    obtain ⟨hrel, -⟩ := h l
    simp only [Fin.getElem_fin, Vector.getElem_map, Vector.getElem_ofFn] at hrel ⊢
    exact ⟨hrel, fun _ => ⟨Nat.zero_le _, judgedHigh_agrees hrel _ _⟩⟩
  laneSet _ _ _ _ _ ha h := lanes_of_laneSet ha h
  rejoin _ l _ h := (lanes_links none).member _ l (fun _ => .joining) (fun _ => 0) h
  schedCancel s r _ h := lanes_of_frame h (by simp) (by simp)
  groupFlush s r _ h := lanes_of_frame h (by simp) (by simp)
  cycleSet s r _ h := lanes_of_frame h (by simp) (by simp)
  atReset := lanes_atReset
  initDone s n _ _ h := by
    refine lanes_of_frame h (fun l => ?_) rfl
    simp only [Fin.getElem_fin, Vector.getElem_map]
    unfold PortState.afterInit
    split <;> rfl
  mark _ l f n h := (lanes_links none).alignMark l f n h
  data _ l c h := (lanes_links none).alignData l c h
  passed s c h := lanes_of_frame h (by simp) (by simp)
  pulse s _ _ h := lanes_of_frame h (by simp) (by simp)
  swap s h := lanes_of_frame h (by simp) (by simp)
  drained s i h := lanes_of_frame h (by simp) (by simp)
  held s h := lanes_of_frame h (by simp) (by simp)

theorem queues_iff (s : State) : queuesWithinLimits s ↔ lanesWithinBut none s ∧ groupsWithin s := by
  refine and_congr (forall_congr' fun l => ?_) Iff.rfl
  exact and_congr_right fun _ => ⟨fun h _ => h, fun h => h nofun⟩

/-- Settles O52: every change of a lane queue is judged at once, within the quota in force, and a group queue grows only
below its limit. -/
theorem everyStepKeepsQueuesWithinLimits : Obligations.EveryStepKeepsQueuesWithinLimits := fun s t h ht =>
  have ⟨hlanes, hgroups⟩ := (queues_iff s).mp h
  (queues_iff t).mpr ⟨lanes_kept.step hlanes ht, groups_kept.step hgroups ht⟩

end Sys2Proof.Machine
end

section
/-! PROOF. Every step keeps the engine's queues and table within their capacities, tags distinct per port, completions held
and requests waiting only while the reply queue is full, and the unit address legal. -/

-- Checked one after another, as the tests are: the theorems of a section all at once take a thread each.
set_option Elab.async false

namespace Sys2Proof.Machine

/-! ### The engine at rest and between the shares of a boundary -/

/-- Two operations are not of one port and tag. -/
def Operation.apart (a b : Operation) : Prop := ¬(a.port = b.port ∧ a.tag = b.tag)

/-- The in-flight table, RUNNING entries and held ones (R143). -/
def Engine.table (e : Engine) : List Operation := e.inFlight ++ e.held.map HeldOp.op

/-- The engine's laws but for what its requests wait for. -/
structure Engine.sound (e : Engine) : Prop where
  requests : e.requests.length ≤ 8
  replies : e.replies.length ≤ 16
  table : e.table.length ≤ 4
  tags : e.table.Pairwise Operation.apart
  held : e.held ≠ [] → e.replies.length = 16
  address : e.unitAddr ≠ 255

/-- Requests wait only while the reply queue has `k` replies or more; between the send of a reply and the take that it
makes possible `k` is 15, and 16 at rest (R144). -/
def Engine.waits (k : Nat) (e : Engine) : Prop := e.requests ≠ [] → k ≤ e.replies.length

/-- The engine's laws, with requests waiting for `k` replies. -/
def engineHolds (k : Nat) (s : State) : Prop := s.engine.sound ∧ s.engine.waits k

theorem engineHolds_iff (s : State) : engineWithinCapacity s ∧ unitAddressLegal s ↔ engineHolds 16 s := by
  constructor
  · rintro ⟨⟨h1, h2, h3, h4, h5, h6⟩, h7⟩
    exact ⟨⟨h1, h2, h3, h4, h5, h7⟩, fun hr => (h6 hr).ge⟩
  · rintro ⟨h, hw⟩
    exact ⟨⟨h.requests, h.replies, h.table, h.tags, h.held, fun hr => Nat.le_antisymm h.replies (hw hr)⟩, h.address⟩

/-- The owner is no part of these laws. -/
theorem Engine.sound.of_frame {e f : Engine} (h : e.sound)
    (hsame : f.unitAddr = e.unitAddr ∧ f.requests = e.requests ∧ f.replies = e.replies ∧ f.inFlight = e.inFlight ∧
      f.held = e.held) : f.sound := by
  obtain ⟨haddr, hreq, hrep, hfly, hheld⟩ := hsame
  have htable : f.table = e.table := by rw [Engine.table, Engine.table, hfly, hheld]
  constructor
  · rw [hreq]; exact h.requests
  · rw [hrep]; exact h.replies
  · rw [htable]; exact h.table
  · rw [htable]; exact h.tags
  · rw [hheld, hrep]; exact h.held
  · rw [haddr]; exact h.address

theorem Engine.waits_of_le {e f : Engine} {k : Nat} (h : e.waits k) (hreq : f.requests = e.requests)
    (hrep : e.replies.length ≤ f.replies.length) : f.waits k := fun hr => Nat.le_trans (h (hreq ▸ hr)) hrep

theorem engine_of_frame {k : Nat} {s t : State} (h : engineHolds k s)
    (hsame : t.engine.unitAddr = s.engine.unitAddr ∧ t.engine.requests = s.engine.requests ∧
      t.engine.replies = s.engine.replies ∧ t.engine.inFlight = s.engine.inFlight ∧ t.engine.held = s.engine.held) :
    engineHolds k t :=
  ⟨h.1.of_frame hsame, Engine.waits_of_le h.2 hsame.2.1 (by rw [hsame.2.2.1])⟩

/-- The pairs of a table do not depend on its order. -/
theorem tags_of_perm {l m : List Operation} (h : l.Pairwise Operation.apart) (hp : m.Perm l) : m.Pairwise Operation.apart :=
  (hp.pairwise_iff fun hab hba => hab ⟨hba.1.symm, hba.2.symm⟩).mpr h

/-! ### Replies, completions and new operations -/

theorem reply_sound {s : State} (r : Request) (st : Status) (o : Octets) (hr : engineReady s = true) (h : s.engine.sound) :
    (reply r st o s).engine.sound := by
  obtain ⟨hroom, hheld⟩ := (engineReady_iff s).mp hr
  exact
    { requests := h.requests
      replies := by simpa [reply] using hroom
      table := h.table
      tags := h.tags
      held := fun hne => absurd hheld hne
      address := h.address }

theorem openOperation_sound {s t : State} (r : Request) (x : Target) (hc : canBegin r s) (h : s.engine.sound)
    (hsame : t.engine = s.engine) : (openOperation r x t).engine.sound := by
  obtain ⟨htag, hsize⟩ := hc
  have htable : (openOperation r x t).engine.table.Perm
      ({ port := r.port, tag := r.tag, code := r.code, target := x } :: s.engine.table) := by
    simp only [openOperation, Engine.table, hsame, List.append_assoc]
    exact List.perm_middle
  have hlen : s.engine.table.length = s.engine.tableSize := by simp [Engine.table, Engine.tableSize]
  refine
    { requests := by simpa [openOperation, hsame] using h.requests
      replies := by simpa [openOperation, hsame] using h.replies
      table := by rw [htable.length_eq, List.length_cons, hlen]; exact hsize
      tags := tags_of_perm (List.pairwise_cons.mpr ⟨fun o ho => ?_, h.tags⟩) htable
      held := by simpa [openOperation, hsame] using h.held
      address := by simpa [openOperation, hsame] using h.address }
  rintro ⟨hp, ht⟩
  have hin : s.engine.tagInUse r.port r.tag = true := by
    unfold Engine.tagInUse
    exact List.any_eq_true.mpr ⟨o, ho, by simp only [← hp, ← ht]; simp⟩
  rw [htag] at hin
  cases hin

theorem complete_sound {s : State} (x : Target) (st : Status) (result : Octets) (h : s.engine.sound) :
    (complete x st result s).engine.sound := by
  rcases complete_cases x st result s with ⟨-, heq⟩ | ⟨o, ho, -, ⟨hr, heq⟩ | ⟨hr, heq⟩⟩
  · rw [heq]
    exact h
  · obtain ⟨hroom, hheld⟩ := (engineReady_iff s).mp hr
    have hsub : (s.engine.inFlight.erase o ++ s.engine.held.map HeldOp.op).Sublist s.engine.table :=
      List.erase_sublist.append (List.Sublist.refl _)
    rw [heq]
    exact
      { requests := h.requests
        replies := by simpa using hroom
        table := Nat.le_trans hsub.length_le h.table
        tags := h.tags.sublist hsub
        held := fun hne => absurd hheld hne
        address := h.address }
  · have hfull : s.engine.replies.length = 16 := by
      by_contra hne
      have hroom : s.engine.replies.length < 16 := Nat.lt_of_le_of_ne h.replies hne
      have hready := (engineReady_iff s).mpr ⟨hroom, by by_contra hh; exact hne (h.held hh)⟩
      rw [hr] at hready
      cases hready
    have hperm : (s.engine.inFlight.erase o ++
        (s.engine.held ++ [HeldOp.mk o st result]).map HeldOp.op).Perm s.engine.table := by
      rw [List.map_append, ← List.append_assoc]
      refine (List.perm_append_singleton _ _).trans ?_
      exact (List.perm_cons_erase ho).symm.append_right _
    rw [heq]
    exact
      { requests := h.requests
        replies := h.replies
        table := Nat.le_trans hperm.length_eq.le h.table
        tags := tags_of_perm h.tags hperm
        held := fun _ => hfull
        address := h.address }

/-- No report takes a reply away. -/
theorem complete_replies (x : Target) (st : Status) (result : Octets) (s : State) :
    s.engine.replies.length ≤ (complete x st result s).engine.replies.length := by
  rcases complete_cases x st result s with ⟨-, heq⟩ | ⟨o, -, -, ⟨-, heq⟩ | ⟨-, heq⟩⟩ <;> rw [heq]
  simp

theorem complete_holds {k : Nat} {s t : State} (x : Target) (st : Status) (result : Octets) (h : engineHolds k s)
    (hsame : t.engine = s.engine) : engineHolds k (complete x st result t) := by
  have ht : engineHolds k t := engine_of_frame h (by simp [hsame])
  exact ⟨complete_sound x st result ht.1, Engine.waits_of_le ht.2 (by simp) (complete_replies x st result t)⟩

theorem endDrain_holds {k : Nat} {s : State} (i : FlowIdx) (h : engineHolds k s) : engineHolds k (endDrain i s) := by
  rcases endDrain_cases i s with ⟨-, heq⟩ | ⟨-, -, -, -, heq⟩ <;> rw [heq]
  · exact h
  · exact complete_holds _ _ _ h rfl

theorem takeSwap_holds {k : Nat} {s : State} (h : engineHolds k s) : engineHolds k (takeSwap s) := by
  unfold takeSwap
  split
  · exact complete_holds _ _ _ h rfl
  · exact h

theorem appendHeld_holds {k : Nat} {s : State} (h : engineHolds k s) : engineHolds k (appendHeld s) := by
  rcases appendHeld_cases s with ⟨-, heq⟩ | ⟨x, rest, hheld, hroom, -⟩
  · rw [heq]
    exact h
  · have hfull := h.1.held (by rw [hheld]; nofun)
    omega

/-! ### The trunk takes a reply (R125, R152) -/

/-- Where a reply has left its place a held completion fills it. -/
theorem fillPlace_holds {s t : State} {x : Reply} {rest : List Reply} (h : engineHolds 16 s)
    (hreplies : s.engine.replies = x :: rest) (ht : t.engine = { s.engine with replies := rest }) :
    engineHolds 15 (appendHeld t) := by
  obtain ⟨hs, hw⟩ := h
  have hlen : s.engine.replies.length = rest.length + 1 := by rw [hreplies]; rfl
  have hle := hs.replies
  have hwt : t.engine.requests ≠ [] → 15 ≤ rest.length := fun hr => by
    have := hw (by simpa [ht] using hr)
    omega
  rcases appendHeld_cases t with ⟨hidle, heq⟩ | ⟨y, others, hheld, hroom, heq⟩
  · rw [heq]
    refine ⟨⟨?_, ?_, ?_, ?_, fun hne => ?_, ?_⟩, fun hr => ?_⟩
    all_goals simp only [ht, Engine.table] at *
    · exact hs.requests
    · omega
    · exact hs.table
    · exact hs.tags
    · have hfull := hs.held hne
      rcases hidle with hnone | hfull'
      · exact absurd hnone hne
      · omega
    · exact hs.address
    · exact hwt hr
  · have hsub : (t.engine.inFlight ++ others.map HeldOp.op).Sublist s.engine.table := by
      simp only [ht, Engine.table] at hheld ⊢
      rw [hheld]
      exact (List.Sublist.refl _).append (List.sublist_cons_self _ _)
    have hfull : s.engine.replies.length = 16 := hs.held (by rw [ht] at hheld; rw [hheld]; nofun)
    rw [heq]
    refine ⟨⟨?_, ?_, ?_, ?_, fun hne => ?_, ?_⟩, fun hr => ?_⟩
    · simpa [ht] using hs.requests
    · simp only [ht, List.length_append, List.length_singleton]
      omega
    · exact Nat.le_trans hsub.length_le hs.table
    · exact hs.tags.sublist hsub
    · simp only [ht, List.length_append, List.length_singleton]
      omega
    · simpa [ht] using hs.address
    · simp only [ht, List.length_append, List.length_singleton]
      omega

/-- A reply that is sent frees a place, and a held completion fills it. -/
theorem sendReply_holds {s : State} (h : engineHolds 16 s) : engineHolds 15 (sendReply s) := by
  unfold sendReply
  split
  · exact ⟨h.1, fun hr => Nat.le_of_succ_le (h.2 hr)⟩
  · next hreplies => exact fillPlace_holds h hreplies rfl

theorem engineHolds_mono {k : Nat} {s : State} (h : engineHolds 16 s) (hk : k ≤ 16) : engineHolds k s :=
  ⟨h.1, fun hr => Nat.le_trans hk (h.2 hr)⟩

theorem rewriteAndSend_holds {k : Nat} {s : State} (r : GroupRec) (h : engineHolds k s) :
    engineHolds k (rewriteAndSend r s) := by
  unfold rewriteAndSend
  split
  · exact h
  · exact endDrain_holds _ (engine_of_frame h ⟨rfl, rfl, rfl, rfl, rfl⟩)

theorem transmit_holds {s : State} (swaps : Bool) (h : engineHolds 16 s) : engineHolds 15 (transmit swaps s) := by
  have hsend {t : State} (c : Choice) (ht : engineHolds 16 t) : engineHolds 15 (send c t) := by
    cases c with
    | head g borrowed =>
      refine engineHolds_mono ?_ (by decide)
      simp only [send, takeHead]
      split
      · exact ht
      · refine rewriteAndSend_holds _ (engine_of_frame ht ?_)
        split <;> exact ⟨rfl, rfl, rfl, rfl, rfl⟩
    | reply => exact sendReply_holds ht
    | notice =>
      simp only [send, sendNotice]
      split <;> exact engineHolds_mono ht (by decide)
    | fill => exact engineHolds_mono ht (by decide)
  have hend : engineHolds 16 (endSlot s) := engine_of_frame h (by simp)
  unfold transmit
  dsimp only
  split
  · exact hsend _ (takeSwap_holds hend)
  · exact hsend _ hend

/-! ### The commands -/

theorem flushRecords_sound (l : List GroupRec) {s : State} (h : s.engine.sound) :
    (l.foldl (fun s x => flushRecord x s) s).engine.sound := by
  induction l generalizing s with
  | nil => exact h
  | cons x l ih => exact ih (endDrain_holds (k := 0) x.entry (s := modFlow _ _ (freeBuffers 1 s)) ⟨h, fun _ => Nat.zero_le _⟩).1

theorem endDrain_replies (i : FlowIdx) (s : State) :
    s.engine.replies.length ≤ (endDrain i s).engine.replies.length := by
  rcases endDrain_cases i s with ⟨-, heq⟩ | ⟨-, -, -, -, heq⟩ <;> rw [heq]
  exact complete_replies (.flow i) .done [] { s with flows := upd s.flows i fun _ => none }

theorem flushRecords_replies (l : List GroupRec) (s : State) :
    s.engine.replies.length ≤ (l.foldl (fun s x => flushRecord x s) s).engine.replies.length := by
  induction l generalizing s with
  | nil => exact Nat.le_refl _
  | cons x l ih => exact Nat.le_trans (endDrain_replies x.entry (modFlow _ _ (freeBuffers 1 s))) (ih (flushRecord x s))

theorem sound_kept_by_receivers : KeptByReceivers fun s => s.engine.sound where
  rx _ _ _ _ h := h
  leaveUp _ _ _ _ _ _ h := h.of_frame (by simp)
  enterUp _ _ _ h := h.of_frame (by simp)

theorem sound_kept_by_commands : KeptByCommands (fun _ => True) fun s => s.engine.sound where
  lease _ _ h := h.of_frame (by simp)
  reply _ r st o hr h := reply_sound r st o hr h
  own _ _ _ _ _ _ _ h := h.of_frame ⟨rfl, rfl, rfl, rfl, rfl⟩
  disown _ h := h.of_frame ⟨rfl, rfl, rfl, rfl, rfl⟩
  address s u hu h :=
    { requests := h.requests, replies := h.replies, table := h.table, tags := h.tags, held := h.held, address := hu }
  unitReset s r h := by
    rw [doUnitReset_eq]
    exact
      { requests := Nat.zero_le _, replies := Nat.le_of_ble_eq_true rfl, table := Nat.zero_le _, tags := List.Pairwise.nil, held := nofun
        address := h.address }
  laneSet _ _ _ _ _ _ h := h.of_frame (by simp)
  beginDrain _ r i _ _ _ hc h := openOperation_sound r (.flow i) hc h rfl
  schedSwap s r _ _ hc h := openOperation_sound r (.bank s.sched.staged) hc h rfl
  schedCancel s r hr h := by
    unfold doSchedCancel
    split
    · exact complete_sound _ _ _ (reply_sound (s := { s with sched := _ }) r _ _ hr h)
    · exact reply_sound r _ _ hr h
  groupFlush s r hr h := by
    unfold doGroupFlush
    split
    · exact reply_sound r _ _ hr h
    · exact flushRecords_sound _ (reply_sound (s := countGroup _ _ (modGroup _ _ s)) r _ _ hr h)
  cycleSet s r hr h := by
    unfold doCycleSet
    split
    · exact reply_sound r _ _ hr h
    · split
      · exact reply_sound r _ _ hr h
      · dsimp only
        split
        · exact complete_sound _ _ _ (reply_sound (s := { s with follower := _ }) r _ _ hr h)
        · exact reply_sound (s := { s with follower := _ }) r _ _ hr h
  cycleArm _ r _ _ hc h := openOperation_sound r .follower hc h rfl

/-- The request queue is as it was, or empty after a UNIT_RESET. -/
def requestsLeft (l : List Request) (s : State) : Prop := s.engine.requests = [] ∨ s.engine.requests = l

theorem requests_kept_by_receivers (l : List Request) : KeptByReceivers (requestsLeft l) where
  rx _ _ _ _ h := h
  leaveUp _ _ _ _ _ _ h := by simpa [requestsLeft] using h
  enterUp _ _ _ h := by simpa [requestsLeft] using h

theorem requests_kept_by_commands (l : List Request) : KeptByCommands (fun _ => True) (requestsLeft l) where
  lease _ _ h := by simpa [requestsLeft] using h
  reply _ _ _ _ _ h := h
  unitReset s r _ := .inl (by rw [doUnitReset_eq])
  laneSet _ _ _ _ _ _ h := by simpa [requestsLeft] using h
  schedCancel _ _ _ h := by simpa [requestsLeft] using h
  groupFlush _ _ _ h := by simpa [requestsLeft] using h
  cycleSet _ _ _ h := by simpa [requestsLeft] using h

theorem laneSetRestart_replies (p : Port) (enabled : Bool) (s : State) :
    (laneSetRestart p enabled s).engine.replies = s.engine.replies := by
  unfold laneSetRestart
  split <;> simp

/-- Every request is answered at once: with one reply, and perhaps with completions after it (R144, R148). -/
theorem carryOut_replies {c : Command} (hc : c ≠ .unitReset) (r : Request) (s : State) :
    s.engine.replies.length < (carryOut c r s).engine.replies.length := by
  have hreply (st : Status) (o : Octets) (t : State) (ht : t.engine.replies = s.engine.replies) :
      s.engine.replies.length < (reply r st o t).engine.replies.length := by simp [reply, ht]
  have hdone (x : Target) (st st' : Status) (o o' : Octets) (t : State) (ht : t.engine.replies = s.engine.replies) :
      s.engine.replies.length < (complete x st o (reply r st' o' t)).engine.replies.length :=
    Nat.lt_of_lt_of_le (hreply st' o' t ht) (complete_replies x st o _)
  cases c with
  | unitReset => exact absurd rfl hc
  | flowRemove =>
    simp only [carryOut, doFlowRemove, beginDrain]
    repeat' split
    all_goals exact hreply _ _ _ rfl
  | schedCancel =>
    simp only [carryOut, doSchedCancel]
    split
    · exact hdone _ _ _ _ _ _ rfl
    · exact hreply _ _ _ rfl
  | groupFlush =>
    simp only [carryOut, doGroupFlush]
    split
    · exact hreply _ _ _ rfl
    · exact Nat.lt_of_lt_of_le (hreply _ _ _ rfl) (flushRecords_replies _ (reply _ _ _ (countGroup _ _ (modGroup _ _ s))))
  | cycleSet =>
    simp only [carryOut, doCycleSet]
    split
    · exact hreply _ _ _ rfl
    · split
      · exact hreply _ _ _ rfl
      · split
        · exact hdone _ _ _ _ _ _ rfl
        · exact hreply _ _ _ rfl
  | _ =>
    simp only [carryOut, doIdentify, doClaim, doRelease, doSetUnit, doLaneGet, doLaneSet, doLaneRestart, doAlignGet,
      doAlignSet, doAlignRejoin, doFlowAdd, doFlowModify, doFlowGet, doFlowList, doSchedWrite, doSchedRead,
      doSchedSwap, doGroupSet, doGroupGet, doCycleArm, doCycleGet, doSnapTake, doSnapRead, doSnapDrop, doCountClear,
      doNoticeEnable, doNoticeGet]
    repeat' split
    all_goals simp [refuse, grant, reply, laneSetRestart_replies]

/-- A taken request is answered (R144, R145). -/
theorem handle_replies (r : Request) (s : State) :
    (handle r s).engine.requests = [] ∨ s.engine.replies.length < (handle r s).engine.replies.length := by
  have hlease : (renewLease r.port s).engine.replies = s.engine.replies := by simp
  have hrefuse (st : Status) : s.engine.replies.length < (refuse r st (renewLease r.port s)).engine.replies.length := by
    simp [refuse, reply]
  unfold handle checkRequest
  split
  · exact .inr (hrefuse _)
  · next c _ =>
    split
    · exact .inr (hrefuse _)
    · split
      · exact .inr (hrefuse _)
      · by_cases hc : c = .unitReset
        · subst hc
          exact .inl (by simp only [carryOut, doUnitReset_eq])
        · exact .inr (hlease ▸ carryOut_replies hc r _)

theorem handle_sound {s : State} (r : Request) (hr : engineReady s = true) (h : s.engine.sound) :
    (handle r s).engine.sound :=
  sound_kept_by_commands.handle sound_kept_by_receivers r hr trivial h

theorem handle_requests {s : State} (r : Request) (hr : engineReady s = true) :
    (handle r s).engine.requests = [] ∨ (handle r s).engine.requests = s.engine.requests :=
  (requests_kept_by_commands s.engine.requests).handle (requests_kept_by_receivers _) r hr trivial (.inr rfl)

/-- The take that a sent reply makes possible fills the reply queue again, or there is no request left. -/
theorem takeRequest_holds {s : State} (h : engineHolds 15 s) : engineHolds 16 (takeRequest s) := by
  obtain ⟨hs, hw⟩ := h
  unfold takeRequest
  split
  · next hnone => exact ⟨hs, fun hr => absurd hnone hr⟩
  · next r rest hreq =>
    have hwaits : 15 ≤ s.engine.replies.length := hw (by rw [hreq]; nofun)
    split
    · next hready =>
      have hleft : (Engine.sound { s.engine with requests := rest }) :=
        { requests := Nat.le_trans (by rw [hreq]; exact Nat.le_succ _) hs.requests
          replies := hs.replies, table := hs.table, tags := hs.tags, held := hs.held, address := hs.address }
      have htaken := handle_sound (s := { s with engine := { s.engine with requests := rest } }) r hready hleft
      refine ⟨htaken, fun hr => ?_⟩
      rcases handle_replies r { s with engine := { s.engine with requests := rest } } with hnone | hgrown
      · exact absurd hnone hr
      · exact Nat.le_trans (Nat.succ_le_succ hwaits) hgrown
    · next hbusy =>
      refine ⟨hs, fun _ => ?_⟩
      by_contra hlt
      refine hbusy ((engineReady_iff s).mpr ⟨Nat.lt_of_not_le hlt, ?_⟩)
      by_contra hheld
      exact hlt (hs.held hheld).ge

/-- A request is taken at once where none waits and the engine is ready; it waits only behind a full reply queue. -/
theorem requestReaches_holds {s : State} (r : Request) (h : engineHolds 16 s) : engineHolds 16 (requestReaches r s) := by
  obtain ⟨hs, hw⟩ := h
  unfold requestReaches
  split
  · next hready =>
    obtain ⟨hnone, hready⟩ := Bool.and_eq_true_iff.mp hready
    rw [List.isEmpty_iff] at hnone
    refine ⟨handle_sound r hready hs, fun hr => absurd ?_ hr⟩
    rcases handle_requests r hready with he | he
    · exact he
    · exact he.trans hnone
  · next hbusy =>
    have hfull : 16 ≤ s.engine.replies.length := by
      by_contra hlt
      refine hbusy (Bool.and_eq_true_iff.mpr ⟨?_, (engineReady_iff s).mpr ⟨Nat.lt_of_not_le hlt, ?_⟩⟩)
      · rw [List.isEmpty_iff]
        by_contra hr
        exact hlt (hw hr)
      · by_contra hheld
        exact hlt (hs.held hheld).ge
    unfold enqueueRequest
    split
    · next hroom =>
      exact ⟨{ requests := by rw [List.length_append]; exact hroom, replies := hs.replies, table := hs.table, tags := hs.tags,
               held := hs.held, address := hs.address }, fun _ => hfull⟩
    · exact ⟨hs, fun _ => hfull⟩

/-! ### A boundary: the take comes after the slot -/

/-- The shares of a boundary that touch the engine's queues. -/
def isSlotOrTake (t : Config.Task) : Bool := t == .transmit || t == .take

theorem withTake_order (n : Nat) (x : Config.Turn) :
    (Config.withTake n x.tasks).filter isSlotOrTake = [.transmit, .take] := by
  have hput (l : List Config.Task) (hl : l.filter isSlotOrTake = []) :
      (l.take n ++ .take :: l.drop n).filter isSlotOrTake = [.take] := by
    have hsplit : (l.take n).filter isSlotOrTake ++ (l.drop n).filter isSlotOrTake = [] := by
      rw [← List.filter_append, List.take_append_drop, hl]
    obtain ⟨h1, h2⟩ := List.append_eq_nil_iff.mp hsplit
    rw [List.filter_append, h1, List.filter_cons_of_pos (by rfl), h2]
    rfl
  have hafter (l : List Config.Task) (hl : l.filter isSlotOrTake = []) := congrArg (List.cons Config.Task.transmit) (hput l hl)
  cases x with
  | tickReleaseSend => exact hafter [] rfl
  | tickSendRelease => exact hafter [.release] rfl
  | releaseTickSend => exact hafter [] rfl
  | releaseSendTick => exact hafter [.tick] rfl
  | sendTickRelease => exact hafter [.tick, .release] rfl
  | sendReleaseTick => exact hafter [.release, .tick] rfl

/-- In every order of a boundary's shares the slot comes before the one take. -/
theorem boundaryOrder_order (o : Config.BoundaryOrder) : o.tasks.filter isSlotOrTake = [.transmit, .take] := by
  unfold Config.BoundaryOrder.tasks
  dsimp only
  rw [List.filter_append, List.filter_cons_of_neg (by decide), ← List.filter_append, List.take_append_drop]
  exact withTake_order _ _

theorem runTask_holds {k : Nat} {m : Marks} {t : Config.Task} {s : State} (ht : isSlotOrTake t = false)
    (h : engineHolds k s) : engineHolds k (runTask m t s) := by
  cases t with
  | transmit => cases ht
  | take => cases ht
  | renew => unfold runTask; dsimp only; split; exacts [h, h]
  | tick => unfold runTask; dsimp only; split; exacts [engine_of_frame h (by simp), h]
  | release => unfold runTask; dsimp only; split; exacts [engine_of_frame h (by simp), h]

/-- Shares without a slot or a take keep the engine's laws. -/
theorem runTasks_holds_plain {k : Nat} {m : Marks} {ts : List Config.Task} {s : State}
    (ht : ts.filter isSlotOrTake = []) (h : engineHolds k s) : engineHolds k (runTasks m ts s) := by
  induction ts generalizing s with
  | nil => exact h
  | cons t ts ih =>
    cases hx : isSlotOrTake t with
    | true =>
      rw [List.filter_cons_of_pos hx] at ht
      cases ht
    | false =>
      rw [List.filter_cons_of_neg (by simp [hx])] at ht
      exact ih ht (runTask_holds hx h)

theorem runTasks_holds_take {m : Marks} {ts : List Config.Task} {s : State}
    (ht : ts.filter isSlotOrTake = [.take]) (h : engineHolds 15 s) : engineHolds 16 (runTasks m ts s) := by
  induction ts generalizing s with
  | nil => cases ht
  | cons t ts ih =>
    cases hx : isSlotOrTake t with
    | true =>
      rw [List.filter_cons_of_pos hx] at ht
      obtain ⟨rfl, hrest⟩ := List.cons.inj ht
      show engineHolds 16 (runTasks m ts (takeRequest s))
      exact runTasks_holds_plain hrest (takeRequest_holds h)
    | false =>
      rw [List.filter_cons_of_neg (by simp [hx])] at ht
      exact ih ht (runTask_holds hx h)

theorem runTasks_holds {m : Marks} {ts : List Config.Task} {s : State}
    (ht : ts.filter isSlotOrTake = [.transmit, .take]) (h : engineHolds 16 s) : engineHolds 16 (runTasks m ts s) := by
  induction ts generalizing s with
  | nil => cases ht
  | cons t ts ih =>
    cases hx : isSlotOrTake t with
    | true =>
      rw [List.filter_cons_of_pos hx] at ht
      obtain ⟨rfl, hrest⟩ := List.cons.inj ht
      show engineHolds 16 (runTasks m ts (transmit m.swap s))
      exact runTasks_holds_take hrest (transmit_holds _ h)
    | false =>
      rw [List.filter_cons_of_neg (by simp [hx])] at ht
      exact ih ht (runTask_holds hx h)

theorem serve_holds {s : State} (m : Marks) (h : engineHolds 16 s) : engineHolds 16 (serve m s) := by
  unfold serve
  split
  · exact runTasks_holds (boundaryOrder_order _) h
  · exact runTasks_holds (boundaryOrder_order _) h

theorem takePulse_holds {k : Nat} {s : State} (h : engineHolds k s) : engineHolds k (takePulse s) := by
  have hfollow {t : State} (p : Int) (ht : engineHolds k t) : engineHolds k (followPulse p t) := by
    unfold followPulse
    dsimp only
    split
    · exact ht
    · split
      · exact engine_of_frame ht (by simp)
      · exact ht
    · split
      · exact engine_of_frame ht (by simp)
      · exact ht
    · split
      · refine complete_holds _ _ _ ht ?_
        dsimp only
        split <;> simp
      · exact ht
  unfold takePulse
  dsimp only
  split
  · exact takeSwap_holds (hfollow _ h)
  · exact hfollow _ h

/-- The strap address is one of the eight lowest (R16). -/
theorem straps_address (u : BitVec 3) : u.zeroExtend 8 ≠ (255 : Byte) := by
  revert u
  decide

theorem engine_kept : KeptByEvents (engineHolds 16) where
  rx _ _ _ _ h := h
  leaveUp _ _ _ _ _ _ h := engine_of_frame h (by simp)
  enterUp _ _ _ h := engine_of_frame h (by simp)
  atReset :=
    ⟨{ requests := Nat.zero_le _, replies := Nat.zero_le _, table := Nat.zero_le _, tags := List.Pairwise.nil
       held := fun hne => absurd rfl hne, address := by decide }, fun hne => absurd rfl hne⟩
  released _ u _ h :=
    ⟨{ requests := h.1.requests, replies := h.1.replies, table := h.1.table, tags := h.1.tags, held := h.1.held
       address := straps_address u }, h.2⟩
  initSlot _ _ _ h := h
  initDone _ _ _ h := h
  mark _ _ _ _ h := engine_of_frame h (by simp)
  data _ _ _ h := engine_of_frame h (by simp)
  passed _ _ h := engine_of_frame h (by simp)
  serve _ m _ h := serve_holds m h
  engineTick _ h := engine_of_frame h (by simp)
  counterTick _ h := engine_of_frame h (by simp)
  pulse _ _ _ h := takePulse_holds h
  swap _ h := takeSwap_holds h
  drained _ i h := endDrain_holds i h
  held _ h := appendHeld_holds h
  reaches _ r _ h := requestReaches_holds r h
  take _ h := takeRequest_holds (engineHolds_mono h (by decide))

/-- Settles O56: a completion is held and a request waits only behind a full reply queue; the one place that a boundary
frees is filled from the held order, or by the take that follows the slot in every order of the boundary's shares. -/
theorem everyStepKeepsTheEngineWithinCapacity : Obligations.EveryStepKeepsTheEngineWithinCapacity := fun s t h ht =>
  (engineHolds_iff t).mpr (engine_kept.step ((engineHolds_iff s).mp h) ht)

end Sys2Proof.Machine
end

section
/-! PROOF. The part as a whole: a step, the state at reset, and the reset events. -/

-- Checked one after another, as the tests are: the theorems of a section all at once take a thread each.
set_option Elab.async false

namespace Sys2Proof.Machine

/-! ### A step and the reset state -/

/-- Settles O1: the queue's two shapes. -/
theorem stepRunsTheFrontCommand : Obligations.StepRunsTheFrontCommand :=
  ⟨fun _ _ _ => rfl, fun s h => by unfold step; rw [h]⟩

theorem aligner_atReset : alignerSound State.reset := by
  have hlanes : ∀ l : Lane, State.reset.lanes[l] = LaneState.powerOn := by decide
  have hnone : ∀ l : Lane, State.reset.lanes[l].member.inSet = false := fun l => by rw [hlanes]; rfl
  refine ⟨⟨Nat.zero_le _, trivial⟩, ⟨fun _ => ⟨rfl, rfl, hnone⟩, nofun, nofun⟩, by decide, by decide, by decide, fun l => ?_⟩
  unfold memberSound laneQueueOrdered memberQualified
  rw [hlanes]
  exact ⟨fun _ hr => (List.not_mem_nil hr).elim, ⟨fun _ hq => (List.not_mem_nil hq).elim, List.Pairwise.nil⟩, fun h => absurd rfl h,
    Nat.zero_le _⟩

/-- Settles O2: each law holds at reset by its own section, where every step keeps it. -/
theorem lawsHoldAtReset : Obligations.LawsHoldAtReset :=
  have ⟨hengine, haddress⟩ := (engineHolds_iff _).mpr engine_kept.atReset
  ⟨buffers_kept.atReset, (queues_iff _).mpr ⟨lanes_kept.atReset, groups_kept.atReset⟩, keys_kept.atReset,
    (countsMatch_iff _).mpr counts_kept.atReset, quiet_kept.atReset, aligner_atReset, owner_kept.atReset, holder_kept.atReset,
    receivers_atReset, hengine, haddress, owned_atReset, notices_kept.atReset, capable_atReset, time_kept.atReset,
    trunk_kept.atReset⟩

/-! ### RESET_ASSERT and RESET_RELEASE (R15, R16) -/

/-- The straps are the three lowest bits of the unit address (R16). -/
theorem straps_toNat (u : BitVec 3) :
    (u.zeroExtend 8 : Byte).toNat =
      (u.getLsbD 2).toNat * 4 + (u.getLsbD 1).toNat * 2 + (u.getLsbD 0).toNat := by
  revert u
  decide

theorem powerOn_banks (n : Slot) :
    State.reset.sched.bankA[n] = { kind := if n = 0 then .mgmt else .group 0, lend := true } ∧
    State.reset.sched.bankB[n] = { kind := .idle, lend := false } := by
  revert n
  decide

/-- Settles O3: the power-on values are read off block by block. -/
theorem resetGivesPowerOnStateAndSamplesStraps : Obligations.ResetGivesPowerOnStateAndSamplesStraps := by
  refine ⟨fun s => ⟨resetPart s, rfl, rfl, rfl, ?profiles, rfl, ?receivers, rfl, rfl, ?lanes, rfl, ?flows, ?groups, rfl, rfl,
      rfl, powerOn_banks, rfl, rfl, rfl, rfl, rfl, rfl, rfl⟩,
    fun s straps h => ⟨straps.zeroExtend 8, straps_toNat straps, ?release⟩, fun s straps h => ?high⟩
  case profiles =>
    show ∀ l : Lane, State.reset.ports[l.port].profile = _
    decide
  case receivers =>
    show ∀ p : Port, State.reset.ports[p].rx = _
    decide
  case lanes =>
    intro l
    refine ⟨?_, rfl⟩
    show State.reset.lanes[l] = _
    revert l
    decide
  case flows =>
    intro i
    show State.reset.flows[i] = none
    simp [State.reset]
  case groups =>
    show ∀ g : Group, State.reset.groups[g] = _
    decide
  case release => simp only [exec, execResetRelease, h]; rfl
  case high =>
    simp only [exec, execResetRelease]

end Sys2Proof.Machine
end

section
/-! PROOF. The shares of a boundary that also run alone: a tick at the engine and at the Counter Block, and the ends of
long operations. -/

-- Checked one after another, as the tests are: the theorems of a section all at once take a thread each.
set_option Elab.async false

namespace Sys2Proof.Machine

/-! ### Ticks (R156, R174) -/

theorem engineTick_unowned {s : State} (h : s.engine.owner = none) : engineTick s = s := by
  unfold engineTick
  rw [h]

theorem engineTick_counts {s : State} {o : Ownership} (h : s.engine.owner = some o) (hr : 2 ≤ o.remaining) :
    engineTick s =
      { s with engine := { s.engine with owner := some { o with remaining := o.remaining - 1 } } } := by
  unfold engineTick
  simp only [h]
  exact if_neg (by omega)

theorem engineTick_expires {s : State} {o : Ownership} (h : s.engine.owner = some o) (hr : o.remaining ≤ 1) :
    engineTick s =
      raise .ownerLost unitSubject [o8 o.port.val, 0x01] { s with engine := { s.engine with owner := none } } := by
  unfold engineTick
  simp only [h]
  exact if_pos hr

theorem counterTick_untaken {s : State} (h : s.snapshot = none) : counterTick s = s := by
  unfold counterTick
  rw [h]

theorem counterTick_counts {s : State} {x : Snapshot} (h : s.snapshot = some x) (hr : 2 ≤ x.remaining) :
    counterTick s = { s with snapshot := some { x with remaining := x.remaining - 1 } } := by
  unfold counterTick
  simp only [h]
  exact if_neg (by omega)

theorem counterTick_expires {s : State} {x : Snapshot} (h : s.snapshot = some x) (hr : x.remaining ≤ 1) :
    counterTick s =
      raise .snapExpired unitSubject [o8 x.holder.val]
        (countUnit (fun k => { k with snapExpiries := bump k.snapExpiries }) { s with snapshot := none }) := by
  unfold counterTick
  simp only [h]
  exact if_pos hr

/-- Settles O21: each share by what is owned or held, and by whether ticks remain. -/
theorem ticksCountDownLeaseAndLifetime : Obligations.TicksCountDownLeaseAndLifetime := by
  refine fun s => ⟨fun h => ?unowned, fun o h => ⟨fun n hn => ?leased, fun hr => ?expired⟩, fun h => ?untaken,
    fun x h => ⟨fun n hn => ?kept, fun hr => ?ended⟩⟩
  case unowned => exact congrArg Host.Outcome.next (engineTick_unowned h)
  case leased =>
    rw [exec, execLeaseExpiry, engineTick_counts h (by omega), hn]
    rfl
  case expired => exact congrArg Host.Outcome.next (engineTick_expires h hr.le)
  case untaken => exact congrArg Host.Outcome.next (counterTick_untaken h)
  case kept =>
    rw [exec, execSnapExpiry, counterTick_counts h (by omega), hn]
    rfl
  case ended => exact congrArg Host.Outcome.next (counterTick_expires h hr.le)

/-! ### The ends of long operations (R101, R112, R152) -/

theorem takeSwap_none {s : State} (h : s.sched.swapPending = false) : takeSwap s = s := by
  unfold takeSwap
  rw [if_neg (by simp [h])]

/-- A pending swap is made, and reported for its operation (R112). -/
theorem takeSwap_made {s : State} {o : Operation} (h : s.sched.swapPending = true)
    (ho : onlyOperation s (.bank s.sched.staged) o) :
    takeSwap s =
      reported o .done [s.sched.staged.code]
        { s with sched := { s.sched with active := s.sched.staged, swapPending := false } } := by
  unfold takeSwap
  rw [if_pos h]
  exact complete_eq_reported
    (s := { s with sched := { s.sched with active := s.sched.staged, swapPending := false } }) ho _ _

theorem endDrain_goes_on {s : State} {i : FlowIdx}
    (h : ∀ e, s.flows[i] = some e → e.draining = true → e.inQueue ≠ 0) : endDrain i s = s := by
  rcases endDrain_cases i s with ⟨-, heq⟩ | ⟨e, he, hd, hq, -⟩
  · exact heq
  · exact absurd hq (h e he hd)

/-- A drain with no cell queued ends, and is reported for its operation (R101). -/
theorem endDrain_ends {s : State} {i : FlowIdx} {e : FlowEntry} {o : Operation} (he : s.flows[i] = some e)
    (hd : e.draining = true) (hq : e.inQueue = 0) (ho : onlyOperation s (.flow i) o) :
    endDrain i s = reported o .done [] { s with flows := upd s.flows i fun _ => none } := by
  rcases endDrain_cases i s with ⟨hno, -⟩ | ⟨-, -, -, -, heq⟩
  · exact absurd ⟨hd, hq⟩ (hno e he)
  · rw [heq]
    exact complete_eq_reported (s := { s with flows := upd s.flows i fun _ => none }) ho _ _

theorem appendHeld_waits {s : State} (h : s.engine.held = [] ∨ 16 ≤ s.engine.replies.length) : appendHeld s = s := by
  rcases appendHeld_cases s with ⟨-, heq⟩ | ⟨x, rest, hheld, hroom, -⟩
  · exact heq
  · rcases h with h | h
    · rw [hheld] at h
      cases h
    · omega

theorem appendHeld_fills {s : State} {x : HeldOp} {rest : List HeldOp} (h : s.engine.held = x :: rest)
    (hroom : s.engine.replies.length < 16) :
    appendHeld s =
      { s with engine :=
          { s.engine with
            replies := s.engine.replies ++ [x.op.completion x.status x.result], held := rest } } := by
  rcases appendHeld_cases s with ⟨hidle, -⟩ | ⟨y, others, hheld, -, heq⟩
  · rcases hidle with hnone | hfull
    · rw [h] at hnone
      cases hnone
    · omega
  · rw [h] at hheld
    cases hheld
    exact heq

/-- Settles O22: each report by its condition. -/
theorem blocksReportTheEndOfOperations : Obligations.BlocksReportTheEndOfOperations := by
  refine fun s => ⟨fun h => ?idle, fun h o => ⟨fun ha ho => ?toB, fun ha ho => ?toA⟩,
    fun i => ⟨fun e he hd hq o ho => ?drained, fun h => ?draining⟩, fun h => ?waits, fun x rest h hroom => ?fills⟩
  case idle => exact congrArg Host.Outcome.next (takeSwap_none h)
  case toB =>
    have hs : s.sched.staged = .b := by rw [Schedule.staged, ha]; rfl
    rw [exec, execSwapTakeEffect, takeSwap_made (o := o) h (hs ▸ ho), hs]
    rfl
  case toA =>
    have hs : s.sched.staged = .a := by rw [Schedule.staged, ha]; rfl
    rw [exec, execSwapTakeEffect, takeSwap_made (o := o) h (hs ▸ ho), hs]
    rfl
  case drained => exact congrArg Host.Outcome.next (endDrain_ends he hd hq ho)
  case draining => exact congrArg Host.Outcome.next (endDrain_goes_on h)
  case waits => exact congrArg Host.Outcome.next (appendHeld_waits h)
  case fills => exact congrArg Host.Outcome.next (appendHeld_fills h hroom)

end Sys2Proof.Machine
end

section
/-! PROOF. The requests that wait behind a take, and the number of orders drawn: no block reads them, so that a command
or a slot does the same whatever they are. -/

-- Checked one after another, as the tests are: the theorems of a section all at once take a thread each.
set_option Elab.async false

namespace Sys2Proof.Machine

/-- The state with these requests waiting and this number of orders drawn. -/
def queuing (l : List Request) (n : Nat) (s : State) : State :=
  { s with orderDraws := n, engine := { s.engine with requests := l } }

theorem requesting_eq (l : List Request) (s : State) : requesting l s = queuing l s.orderDraws s := rfl

@[simp] theorem queuing_queuing (l m : List Request) (n k : Nat) (s : State) :
    queuing l n (queuing m k s) = queuing l n s := rfl

section
variable (l : List Request) (n : Nat) (s : State)

@[simp] theorem queuing_frame :
    (queuing l n s).pending = s.pending ∧ (queuing l n s).phase = s.phase ∧ (queuing l n s).ports = s.ports ∧
    (queuing l n s).free = s.free ∧ (queuing l n s).lanes = s.lanes ∧ (queuing l n s).aligner = s.aligner ∧
    (queuing l n s).flows = s.flows ∧ (queuing l n s).groups = s.groups ∧ (queuing l n s).sched = s.sched ∧
    (queuing l n s).trunk = s.trunk ∧ (queuing l n s).timer = s.timer ∧ (queuing l n s).follower = s.follower ∧
    (queuing l n s).counters = s.counters ∧ (queuing l n s).snapshot = s.snapshot ∧
    (queuing l n s).notices = s.notices ∧ (queuing l n s).engine.unitAddr = s.engine.unitAddr ∧
    (queuing l n s).engine.owner = s.engine.owner ∧ (queuing l n s).engine.replies = s.engine.replies ∧
    (queuing l n s).engine.inFlight = s.engine.inFlight ∧ (queuing l n s).engine.held = s.engine.held := by
  simp [queuing]

/-! ### The operations that the blocks share -/

theorem raise_queuing (k : NoticeKind) (x : Byte) (d : Octets) :
    raise k x d (queuing l n s) = queuing l n (raise k x d s) := by
  unfold raise
  rw [apply_ite (queuing l n)]
  rfl

theorem complete_queuing (t : Target) (st : Status) (o : Octets) :
    complete t st o (queuing l n s) = queuing l n (complete t st o s) := by
  unfold complete
  simp only [queuing_frame]
  cases s.engine.inFlight.find? _ with
  | none => rfl
  | some x =>
    dsimp only
    rw [apply_ite (queuing l n)]
    rfl

theorem appendHeld_queuing : appendHeld (queuing l n s) = queuing l n (appendHeld s) := by
  unfold appendHeld
  simp only [queuing_frame]
  cases s.engine.held with
  | nil => rfl
  | cons x rest =>
    dsimp only
    rw [apply_ite (queuing l n)]
    rfl

theorem endDrain_queuing (i : FlowIdx) : endDrain i (queuing l n s) = queuing l n (endDrain i s) := by
  unfold endDrain
  simp only [queuing_frame]
  cases s.flows[i] with
  | none => rfl
  | some e =>
    dsimp only
    rw [apply_ite (queuing l n), ← complete_queuing]
    rfl

/-! ### A port leaves UP -/

theorem setResetTest_queuing : setResetTest (queuing l n s) = queuing l n (setResetTest s) := by
  unfold setResetTest
  rw [apply_ite (queuing l n)]
  rfl

theorem alignLeaveUp_queuing (k : Lane) : alignLeaveUp k (queuing l n s) = queuing l n (alignLeaveUp k s) := by
  unfold alignLeaveUp
  dsimp only
  rw [← setResetTest_queuing]
  rfl

theorem laneLeavesUp_queuing (p : Port) : laneLeavesUp p (queuing l n s) = queuing l n (laneLeavesUp p s) := by
  unfold laneLeavesUp
  cases p.lane? with
  | none => rfl
  | some k => exact alignLeaveUp_queuing l n (emptyLane k s) k

theorem ownerLeavesUp_queuing (p : Port) : ownerLeavesUp p (queuing l n s) = queuing l n (ownerLeavesUp p s) := by
  unfold ownerLeavesUp
  rw [apply_ite (queuing l n), ← raise_queuing]
  rfl

theorem holderLeavesUp_queuing (p : Port) : holderLeavesUp p (queuing l n s) = queuing l n (holderLeavesUp p s) := by
  unfold holderLeavesUp
  rw [apply_ite (queuing l n)]
  rfl

theorem leaveUp_queuing (p : Port) (c : DownCause) : leaveUp p c (queuing l n s) = queuing l n (leaveUp p c s) := by
  unfold leaveUp
  dsimp only
  rw [← holderLeavesUp_queuing, ← ownerLeavesUp_queuing, ← laneLeavesUp_queuing, ← raise_queuing]
  rfl


/-! ### Commands -/

variable (r : Request)

theorem doClaim_queuing : doClaim r (queuing l n s) = queuing l n (doClaim r s) := by
  unfold doClaim
  rw [apply_ite (queuing l n)]
  simp only [queuing_frame]
  cases s.engine.owner with
  | none => rfl
  | some o =>
    dsimp only
    rw [apply_ite (queuing l n)]
    rfl

theorem doSetUnit_queuing : doSetUnit r (queuing l n s) = queuing l n (doSetUnit r s) := by
  unfold doSetUnit
  simp only [apply_ite (queuing l n)]
  rfl

theorem doLaneGet_queuing : doLaneGet r (queuing l n s) = queuing l n (doLaneGet r s) := by
  unfold doLaneGet
  cases fin? (r.arg 0) 7 <;> rfl

theorem laneSetJudge_queuing (p : Port) (a b : Profile) : laneSetJudge p a b (queuing l n s) = queuing l n (laneSetJudge p a b s) := by
  unfold laneSetJudge
  cases p.lane? with
  | none => rfl
  | some k =>
    dsimp only
    rw [apply_ite (queuing l n)]
    rfl

theorem emptyPortLane_queuing (p : Port) : emptyPortLane p (queuing l n s) = queuing l n (emptyPortLane p s) := by
  unfold emptyPortLane
  cases p.lane? <;> rfl

theorem laneSetRestart_queuing (p : Port) (enabled : Bool) : laneSetRestart p enabled (queuing l n s) = queuing l n (laneSetRestart p enabled s) := by
  unfold laneSetRestart
  rw [← emptyPortLane_queuing, apply_ite (queuing l n), ← leaveUp_queuing]
  rfl

theorem doLaneSet_queuing : doLaneSet r (queuing l n s) = queuing l n (doLaneSet r s) := by
  unfold doLaneSet
  cases fin? (r.arg 0) 7 with
  | none => rfl
  | some p =>
    dsimp only
    simp only [apply_ite (queuing l n), ← laneSetRestart_queuing, ← laneSetJudge_queuing]
    rfl

theorem doLaneRestart_queuing : doLaneRestart r (queuing l n s) = queuing l n (doLaneRestart r s) := by
  unfold doLaneRestart
  cases fin? (r.arg 0) 7 with
  | none => rfl
  | some p =>
    dsimp only
    simp only [queuing_frame]
    cases s.ports[p].rx.st with
    | up => exact leaveUp_queuing l n (reply r .ok [] s) p .restart
    | off => rfl
    | hunt => rfl
    | check => rfl

theorem doAlignGet_queuing : doAlignGet r (queuing l n s) = queuing l n (doAlignGet r s) := by
  unfold doAlignGet
  simp only [apply_ite (queuing l n)]
  rfl

theorem doAlignSet_queuing : doAlignSet r (queuing l n s) = queuing l n (doAlignSet r s) := by
  unfold doAlignSet
  cases fin? (r.arg 1) 64 with
  | none => rfl
  | some k =>
    dsimp only
    rw [apply_ite (queuing l n)]
    rfl

theorem doAlignRejoin_queuing : doAlignRejoin r (queuing l n s) = queuing l n (doAlignRejoin r s) := by
  unfold doAlignRejoin
  cases fin? (r.arg 0) 6 with
  | none => rfl
  | some k =>
    dsimp only
    simp only [apply_ite (queuing l n)]
    rfl

theorem doFlowAdd_queuing : doFlowAdd r (queuing l n s) = queuing l n (doFlowAdd r s) := by
  unfold doFlowAdd
  cases flowArgs r with
  | none => rfl
  | some e =>
    have hkey : findKey (queuing l n s) e.lane.val e.inflow.toNat = findKey s e.lane.val e.inflow.toNat := rfl
    have hfree : lowestFree (queuing l n s) = lowestFree s := rfl
    simp only [hkey, hfree]
    cases findKey s e.lane.val e.inflow.toNat with
    | some i => rfl
    | none => cases lowestFree s <;> rfl

theorem doFlowModify_queuing : doFlowModify r (queuing l n s) = queuing l n (doFlowModify r s) := by
  unfold doFlowModify
  cases flowArgs r with
  | none => rfl
  | some e =>
    have hkey : findKey (queuing l n s) e.lane.val e.inflow.toNat = findKey s e.lane.val e.inflow.toNat := rfl
    simp only [hkey]
    cases findKey s e.lane.val e.inflow.toNat with
    | none => rfl
    | some i =>
      dsimp only
      rw [apply_ite (queuing l n)]
      rfl

theorem beginDrain_queuing (i : FlowIdx) : beginDrain r i (queuing l n s) = queuing l n (beginDrain r i s) := by
  unfold beginDrain
  simp only [apply_ite (queuing l n)]
  rfl

theorem doFlowRemove_queuing : doFlowRemove r (queuing l n s) = queuing l n (doFlowRemove r s) := by
  have hkey : findKey (queuing l n s) (r.arg 0) (r.arg16 1) = findKey s (r.arg 0) (r.arg16 1) := rfl
  unfold doFlowRemove
  simp only [hkey]
  cases findKey s (r.arg 0) (r.arg16 1) with
  | none => rfl
  | some i =>
    dsimp only
    simp only [apply_ite (queuing l n), ← beginDrain_queuing]
    rfl

theorem doFlowGet_queuing : doFlowGet r (queuing l n s) = queuing l n (doFlowGet r s) := by
  have hsel : flowSelected r (queuing l n s) = flowSelected r s := rfl
  unfold doFlowGet
  simp only [hsel, queuing_frame]
  rcases flowSelected r s with _ | _ | i
  · rfl
  · rfl
  · dsimp only
    cases s.flows[i] <;> rfl

theorem doSchedWrite_queuing : doSchedWrite r (queuing l n s) = queuing l n (doSchedWrite r s) := by
  unfold doSchedWrite
  cases entriesOf (r.args.drop 2) with
  | none => rfl
  | some es =>
    dsimp only
    simp only [apply_ite (queuing l n)]
    rfl

theorem doSchedRead_queuing : doSchedRead r (queuing l n s) = queuing l n (doSchedRead r s) := by
  unfold doSchedRead
  cases bankOf (r.arg 0) with
  | none => rfl
  | some x =>
    dsimp only
    simp only [apply_ite (queuing l n)]
    rfl

theorem doSchedSwap_queuing : doSchedSwap r (queuing l n s) = queuing l n (doSchedSwap r s) := by
  unfold doSchedSwap
  simp only [apply_ite (queuing l n)]
  rfl

theorem doSchedCancel_queuing : doSchedCancel r (queuing l n s) = queuing l n (doSchedCancel r s) := by
  unfold doSchedCancel
  rw [apply_ite (queuing l n), ← complete_queuing]
  rfl

theorem doGroupSet_queuing : doGroupSet r (queuing l n s) = queuing l n (doGroupSet r s) := by
  unfold doGroupSet
  cases fin? (r.arg 0) 16 with
  | none => rfl
  | some g =>
    dsimp only
    simp only [apply_ite (queuing l n)]
    rfl

theorem doGroupGet_queuing : doGroupGet r (queuing l n s) = queuing l n (doGroupGet r s) := by
  unfold doGroupGet
  cases fin? (r.arg 0) 16 <;> rfl

theorem flushRecord_queuing (x : GroupRec) : flushRecord x (queuing l n s) = queuing l n (flushRecord x s) := by
  unfold flushRecord
  rw [← endDrain_queuing]
  rfl

theorem flushRecords_queuing (q : List GroupRec) :
    q.foldl (fun s x => flushRecord x s) (queuing l n s) =
      queuing l n (q.foldl (fun s x => flushRecord x s) s) := by
  induction q generalizing s with
  | nil => rfl
  | cons x q ih => rw [List.foldl_cons, flushRecord_queuing, ih, List.foldl_cons]

theorem doGroupFlush_queuing : doGroupFlush r (queuing l n s) = queuing l n (doGroupFlush r s) := by
  unfold doGroupFlush
  cases fin? (r.arg 0) 16 with
  | none => rfl
  | some g =>
    dsimp only
    rw [← flushRecords_queuing]
    rfl

theorem doCycleSet_queuing : doCycleSet r (queuing l n s) = queuing l n (doCycleSet r s) := by
  unfold doCycleSet
  cases followModeOf (r.arg 0) with
  | none => rfl
  | some m =>
    dsimp only
    simp only [apply_ite (queuing l n), ← complete_queuing]
    rfl

theorem doCycleArm_queuing : doCycleArm r (queuing l n s) = queuing l n (doCycleArm r s) := by
  unfold doCycleArm
  simp only [apply_ite (queuing l n)]
  rfl

theorem doSnapTake_queuing : doSnapTake r (queuing l n s) = queuing l n (doSnapTake r s) := by
  unfold doSnapTake
  simp only [apply_ite (queuing l n)]
  rfl

theorem doSnapRead_queuing : doSnapRead r (queuing l n s) = queuing l n (doSnapRead r s) := by
  unfold doSnapRead
  simp only [queuing_frame, apply_ite (queuing l n)]
  cases s.snapshot with
  | none => rfl
  | some x =>
    dsimp only
    rw [apply_ite (queuing l n)]
    rfl

theorem doSnapDrop_queuing : doSnapDrop r (queuing l n s) = queuing l n (doSnapDrop r s) := by
  unfold doSnapDrop
  simp only [apply_ite (queuing l n)]
  rfl

theorem doCountClear_queuing : doCountClear r (queuing l n s) = queuing l n (doCountClear r s) := by
  unfold doCountClear
  simp only [apply_ite (queuing l n)]
  rfl

theorem doNoticeEnable_queuing : doNoticeEnable r (queuing l n s) = queuing l n (doNoticeEnable r s) := by
  unfold doNoticeEnable
  simp only [apply_ite (queuing l n)]
  rfl

/-- A command other than UNIT_RESET does the same whatever waits behind it. -/
theorem carryOut_queuing {c : Command} (hc : c ≠ .unitReset) :
    carryOut c r (queuing l n s) = queuing l n (carryOut c r s) := by
  cases c with
  | unitReset => exact absurd rfl hc
  | identify => rfl
  | claim => exact doClaim_queuing ..
  | release => rfl
  | setUnit => exact doSetUnit_queuing ..
  | laneGet => exact doLaneGet_queuing ..
  | laneSet => exact doLaneSet_queuing ..
  | laneRestart => exact doLaneRestart_queuing ..
  | alignGet => exact doAlignGet_queuing ..
  | alignSet => exact doAlignSet_queuing ..
  | alignRejoin => exact doAlignRejoin_queuing ..
  | flowAdd => exact doFlowAdd_queuing ..
  | flowModify => exact doFlowModify_queuing ..
  | flowRemove => exact doFlowRemove_queuing ..
  | flowGet => exact doFlowGet_queuing ..
  | flowList => rfl
  | schedWrite => exact doSchedWrite_queuing ..
  | schedRead => exact doSchedRead_queuing ..
  | schedSwap => exact doSchedSwap_queuing ..
  | schedCancel => exact doSchedCancel_queuing ..
  | groupSet => exact doGroupSet_queuing ..
  | groupGet => exact doGroupGet_queuing ..
  | groupFlush => exact doGroupFlush_queuing ..
  | cycleSet => exact doCycleSet_queuing ..
  | cycleArm => exact doCycleArm_queuing ..
  | cycleGet => rfl
  | snapTake => exact doSnapTake_queuing ..
  | snapRead => exact doSnapRead_queuing ..
  | snapDrop => exact doSnapDrop_queuing ..
  | countClear => exact doCountClear_queuing ..
  | noticeEnable => exact doNoticeEnable_queuing ..
  | noticeGet => rfl

/-! ### The transmitter -/

theorem takeSwap_queuing : takeSwap (queuing l n s) = queuing l n (takeSwap s) := by
  unfold takeSwap
  simp only [apply_ite (queuing l n), ← complete_queuing]
  rfl

theorem endSlot_queuing : endSlot (queuing l n s) = queuing l n (endSlot s) := by
  unfold endSlot
  simp only [queuing_frame]
  cases s.trunk.inTransit <;> rfl

theorem rewriteAndSend_queuing (x : GroupRec) : rewriteAndSend x (queuing l n s) = queuing l n (rewriteAndSend x s) := by
  unfold rewriteAndSend
  simp only [queuing_frame]
  cases s.flows[x.entry] with
  | none => rfl
  | some e =>
    dsimp only
    rw [← endDrain_queuing]
    rfl

theorem takeHead_queuing (g : Group) (borrowed : Bool) :
    takeHead g borrowed (queuing l n s) = queuing l n (takeHead g borrowed s) := by
  unfold takeHead
  simp only [queuing_frame]
  cases s.groups[g].queue with
  | nil => rfl
  | cons x rest =>
    dsimp only
    rw [← rewriteAndSend_queuing, apply_ite (queuing l n)]
    rfl

theorem sendReply_queuing : sendReply (queuing l n s) = queuing l n (sendReply s) := by
  unfold sendReply
  simp only [queuing_frame]
  cases s.engine.replies with
  | nil => rfl
  | cons x rest =>
    dsimp only
    rw [← appendHeld_queuing]
    rfl

theorem sendNotice_queuing : sendNotice (queuing l n s) = queuing l n (sendNotice s) := by
  unfold sendNotice
  simp only [queuing_frame]
  cases s.notices.waiting <;> rfl

theorem send_queuing (c : Choice) : send c (queuing l n s) = queuing l n (send c s) := by
  cases c with
  | head g borrowed => exact takeHead_queuing ..
  | reply => exact sendReply_queuing ..
  | notice => exact sendNotice_queuing ..
  | fill => rfl

theorem transmit_queuing (swaps : Bool) : transmit swaps (queuing l n s) = queuing l n (transmit swaps s) := by
  unfold transmit
  dsimp only
  rw [endSlot_queuing, takeSwap_queuing, ← apply_ite (queuing l n), ← send_queuing]
  rfl

end

end Sys2Proof.Machine
end

section
/-! PROOF. A management command stands for a request of its port, and the engine's take of a request (R31, R144 to
R147). -/

-- Checked one after another, as the tests are: the theorems of a section all at once take a thread each.
set_option Elab.async false

namespace Sys2Proof.Machine

/-! ### Requests reach the engine -/

/-- A management command is the submission of its request. -/
theorem exec_of_request {c : Instr} {r : Request} (h : requestOfCommand c = some r) :
    ∃ k : Command, r.code = k.code ∧ ∀ s, exec c s = .next (submit k r.port r.tag r.args s) := by
  cases c with
  | identify p t a => cases h; exact ⟨.identify, rfl, fun _ => rfl⟩
  | claim p t a => cases h; exact ⟨.claim, rfl, fun _ => rfl⟩
  | release p t a => cases h; exact ⟨.release, rfl, fun _ => rfl⟩
  | setUnit p t a => cases h; exact ⟨.setUnit, rfl, fun _ => rfl⟩
  | unitReset p t a => cases h; exact ⟨.unitReset, rfl, fun _ => rfl⟩
  | laneGet p t a => cases h; exact ⟨.laneGet, rfl, fun _ => rfl⟩
  | laneSet p t a => cases h; exact ⟨.laneSet, rfl, fun _ => rfl⟩
  | laneRestart p t a => cases h; exact ⟨.laneRestart, rfl, fun _ => rfl⟩
  | alignGet p t a => cases h; exact ⟨.alignGet, rfl, fun _ => rfl⟩
  | alignSet p t a => cases h; exact ⟨.alignSet, rfl, fun _ => rfl⟩
  | alignRejoin p t a => cases h; exact ⟨.alignRejoin, rfl, fun _ => rfl⟩
  | flowAdd p t a => cases h; exact ⟨.flowAdd, rfl, fun _ => rfl⟩
  | flowModify p t a => cases h; exact ⟨.flowModify, rfl, fun _ => rfl⟩
  | flowRemove p t a => cases h; exact ⟨.flowRemove, rfl, fun _ => rfl⟩
  | flowGet p t a => cases h; exact ⟨.flowGet, rfl, fun _ => rfl⟩
  | flowList p t a => cases h; exact ⟨.flowList, rfl, fun _ => rfl⟩
  | schedWrite p t a => cases h; exact ⟨.schedWrite, rfl, fun _ => rfl⟩
  | schedRead p t a => cases h; exact ⟨.schedRead, rfl, fun _ => rfl⟩
  | schedSwap p t a => cases h; exact ⟨.schedSwap, rfl, fun _ => rfl⟩
  | schedCancel p t a => cases h; exact ⟨.schedCancel, rfl, fun _ => rfl⟩
  | groupSet p t a => cases h; exact ⟨.groupSet, rfl, fun _ => rfl⟩
  | groupGet p t a => cases h; exact ⟨.groupGet, rfl, fun _ => rfl⟩
  | groupFlush p t a => cases h; exact ⟨.groupFlush, rfl, fun _ => rfl⟩
  | cycleSet p t a => cases h; exact ⟨.cycleSet, rfl, fun _ => rfl⟩
  | cycleArm p t a => cases h; exact ⟨.cycleArm, rfl, fun _ => rfl⟩
  | cycleGet p t a => cases h; exact ⟨.cycleGet, rfl, fun _ => rfl⟩
  | snapTake p t a => cases h; exact ⟨.snapTake, rfl, fun _ => rfl⟩
  | snapRead p t a => cases h; exact ⟨.snapRead, rfl, fun _ => rfl⟩
  | snapDrop p t a => cases h; exact ⟨.snapDrop, rfl, fun _ => rfl⟩
  | countClear p t a => cases h; exact ⟨.countClear, rfl, fun _ => rfl⟩
  | noticeEnable p t a => cases h; exact ⟨.noticeEnable, rfl, fun _ => rfl⟩
  | noticeGet p t a => cases h; exact ⟨.noticeGet, rfl, fun _ => rfl⟩
  | resetAssert => cases h
  | resetRelease x => cases h
  | initEnd => cases h
  | headerSearch p o => cases h
  | checkCell p o => cases h
  | lossOfSignal p => cases h
  | cellArrival p o => cases h
  | slotBoundary => cases h
  | leaseExpiry => cases h
  | snapExpiry => cases h
  | swapTakeEffect => cases h
  | drainEnd i => cases h
  | crefPulse => cases h
  | armComplete => cases h
  | requestTake => cases h
  | heldCompletionAppend => cases h

theorem engineFree_iff (s : State) :
    engineFree s ↔ (s.engine.requests.isEmpty && engineReady s) = true := by
  rw [Bool.and_eq_true, engineReady_iff, List.isEmpty_iff]
  rfl

/-- The take of the only request (R144). -/
theorem takeRequest_ready {s : State} {r : Request} {rest : List Request} (h : s.engine.requests = r :: rest)
    (hr : s.engine.replies.length < 16) (hh : s.engine.held = []) :
    takeRequest s = handle r (requesting rest s) := by
  simp only [takeRequest, h, (engineReady_iff s).mpr ⟨hr, hh⟩, if_true]
  rfl

/-- A request that finds the engine free is the take of it (R144). -/
theorem requestReaches_free {s : State} (r : Request) (h : engineFree s) :
    requestReaches r s = takeRequest (requesting [r] s) := by
  obtain ⟨hreq, hrep, hheld⟩ := h
  rw [requestReaches_ready r s hreq hrep hheld, takeRequest_ready (s := requesting [r] s) rfl hrep hheld]
  exact congrArg (handle r) (by unfold requesting; rw [← hreq])

theorem requestReaches_waits {s : State} (r : Request) (h : ¬engineFree s) (hl : s.engine.requests.length < 8) :
    requestReaches r s = requesting (s.engine.requests ++ [r]) s := by
  unfold requestReaches enqueueRequest
  rw [if_neg (mt (engineFree_iff s).mpr h)]
  exact if_pos hl

theorem requestReaches_overruns {s : State} (r : Request) (hl : 8 ≤ s.engine.requests.length) :
    requestReaches r s = countPort r.port (fun k => { k with mreqOverrun := bump k.mreqOverrun }) s := by
  have hbusy : ¬engineFree s := fun h => by
    rw [h.1] at hl
    exact absurd hl (by decide)
  unfold requestReaches enqueueRequest
  rw [if_neg (mt (engineFree_iff s).mpr hbusy)]
  exact if_neg (Nat.not_lt.mpr hl)

theorem submit_notPermitted (c : Command) {p : Port} (tag : Byte) (args : Octets) {s : State} (h : s.phase = .running)
    (hu : s.ports[p].rx.st = .up) (hm : s.ports[p].profile.mgmt = false) :
    submit c p tag args s = countPort p (fun k => { k with mreqNotPermitted := bump k.mreqNotPermitted }) s := by
  unfold submit
  rw [if_pos (by simp [h, portUp_iff.mpr hu]), if_neg (ne_true_of_eq_false hm)]

theorem submit_unreceived (c : Command) {p : Port} (tag : Byte) (args : Octets) {s : State}
    (h : s.phase ≠ .running ∨ s.ports[p].rx.st ≠ .up) : submit c p tag args s = s := by
  rcases h with h | h
  · simp [submit, h]
  · exact submit_down c p tag args s h

/-- Settles O25: the command submits its request, and the submission goes by what the part and the port are. -/
theorem commandsAreTakenOrWait : Obligations.CommandsAreTakenOrWait := by
  intro c r s hc
  obtain ⟨k, hk, hexec⟩ := exec_of_request hc
  have hr : (⟨r.port, k.code, r.tag, r.args⟩ : Request) = r := by rw [← hk]
  have hreach : ∀ (h : s.phase = .running) (hu : s.ports[r.port].rx.st = .up) (hm : s.ports[r.port].profile.mgmt = true),
      exec c s = .next (requestReaches r s) := fun h hu hm => by
    rw [hexec, submit_reaches k r.port r.tag r.args s h hu hm, hr]
  refine ⟨fun ⟨hrun, hup, hm, hfree⟩ => ?taken, fun hrun hup => ⟨fun hm hbusy => ⟨fun hl => ?waits, fun hl => ?overrun⟩,
    fun hm => ?barred⟩, fun hlost => ?lost⟩
  case taken => rw [hreach hrun hup hm, requestReaches_free r hfree]; rfl
  case waits => rw [hreach hrun hup hm, requestReaches_waits r hbusy hl]
  case overrun => rw [hreach hrun hup hm, requestReaches_overruns r hl]; rfl
  case barred => rw [hexec, submit_notPermitted k r.tag r.args hrun hup hm]; rfl
  case lost => rw [hexec, submit_unreceived k r.tag r.args hlost]

/-! ### The take (R144, R145) -/

theorem takeRequest_waits {s : State} (h : s.engine.requests = [] ∨ 16 ≤ s.engine.replies.length ∨ s.engine.held ≠ []) :
    takeRequest s = s := by
  unfold takeRequest
  cases hreq : s.engine.requests with
  | nil => rfl
  | cons r rest =>
    have hwait : ¬engineReady s = true := fun hr => by
      obtain ⟨hplace, hheld⟩ := (engineReady_iff s).mp hr
      rcases h with h | h | h
      · rw [hreq] at h
        cases h
      · omega
      · exact h hheld
    exact if_neg hwait

theorem commandOf_eq_none {b : Byte} (h : ∀ x ∈ allCommands, x.code ≠ b) : commandOf b = none :=
  List.find?_eq_none.mpr fun x hx => by simpa using h x hx

/-- A request with no command's code is refused (R145 step 1). -/
theorem handle_unknown {r : Request} {s : State} (h : commandOf r.code = none) :
    handle r s = answered r.port r.code r.tag .badCommand [] (leaseRenewed r.port s) := by
  unfold handle checkRequest
  rw [h, renewLease_eq_leaseRenewed]
  rfl

theorem renewLease_queuing (p : Port) (l : List Request) (n : Nat) (s : State) :
    renewLease p (queuing l n s) = queuing l n (renewLease p s) := by
  simp only [renewLease_eq]
  rfl

/-- The request is UNIT_RESET and is carried out. -/
abbrev resetsUnit (r : Request) (s : State) : Prop :=
  r.code = 0x05 ∧ r.args = [] ∧ s.engine.owner.map Ownership.port = some r.port

/-- Of the requests behind a take those of a UNIT_RESET go, and no others; and the take does not read them. -/
theorem handle_queuing (r : Request) (l : List Request) (n : Nat) (s : State) :
    handle r (queuing l n s) = queuing (if resetsUnit r s then [] else l) n (handle r s) := by
  unfold handle
  rw [renewLease_queuing]
  have hown : (renewLease r.port s).engine.ownerPort = s.engine.ownerPort := renewLease_ownerPort _ _
  generalize renewLease r.port s = t at hown
  unfold checkRequest
  cases hc : commandOf r.code with
  | none =>
    have hno : ¬resetsUnit r s := fun h => by
      rw [h.1] at hc
      cases hc
    rw [if_neg hno]
    rfl
  | some c =>
    have hcode := commandOf_some hc
    have hown' : (queuing l n t).engine.ownerPort = t.engine.ownerPort := rfl
    dsimp only
    rw [hown']
    by_cases hfit : lengthFits c r.args = true
    · by_cases howner : (ownerCommand c r.args && t.engine.ownerPort != some r.port) = true
      · have hno : ¬resetsUnit r s := fun h => by
          rw [Bool.and_eq_true, bne_iff_ne, hown] at howner
          exact howner.2 h.2.2
        simp only [hfit, howner, if_neg hno]
        rfl
      · simp only [hfit, howner]
        by_cases hreset : c = .unitReset
        · subst hreset
          have hyes : resetsUnit r s := by
            refine ⟨hcode.symm, List.length_eq_zero_iff.mp (beq_iff_eq.mp hfit), ?_⟩
            rw [Bool.and_eq_true, not_and_or, bne_iff_ne, not_not, hown] at howner
            exact howner.resolve_left fun h => h rfl
          rw [if_pos hyes]
          simp only [Bool.not_true, Bool.false_eq_true, if_false, carryOut, doUnitReset_eq]
          rfl
        · have hno : ¬resetsUnit r s := fun h => hreset (by
            rw [h.1] at hc
            exact (Option.some.inj hc).symm)
          rw [if_neg hno]
          simpa using carryOut_queuing l n t r hreset
    · have hno : ¬resetsUnit r s := fun h => hfit (by
        rw [h.1] at hc
        cases hc
        rw [h.2.1]
        rfl)
      simp only [hfit, if_neg hno]
      rfl

/-- The codes of the commands, as R145 knows them. -/
theorem codes_eq : allCommands.map Command.code =
    [0x01, 0x02, 0x03, 0x04, 0x05, 0x10, 0x11, 0x12, 0x18, 0x19, 0x1A, 0x20, 0x21, 0x22, 0x23, 0x24, 0x30,
     0x31, 0x32, 0x33, 0x34, 0x35, 0x36, 0x40, 0x41, 0x42, 0x50, 0x51, 0x52, 0x53, 0x60, 0x61] := rfl

/-- Settles O26: the take waits, refuses an unknown code, or does what it does alone. -/
theorem takeNeedsAPlaceAndNoHeldCompletion : Obligations.TakeNeedsAPlaceAndNoHeldCompletion := by
  refine fun s => ⟨fun h => ?waits, fun r rest hreq hrep hheld hx => ?unknown, fun r rest hreq hrep hheld => ?alone⟩
  case waits => exact congrArg Host.Outcome.next (takeRequest_waits h)
  case unknown =>
    have hcode : commandOf r.code = none := commandOf_eq_none fun c hc h =>
      hx c.code (codes_eq ▸ List.mem_map_of_mem hc) h.symm
    rw [exec, execRequestTake, takeRequest_ready hreq hrep hheld, handle_unknown hcode]
    rfl
  case alone =>
    refine ⟨takeRequest (requesting [r] s), rfl, ?_⟩
    rw [exec, execRequestTake, takeRequest_ready hreq hrep hheld,
      takeRequest_ready (s := requesting [r] s) (rest := []) rfl hrep hheld]
    have hall : handle r (requesting rest s) = _ := handle_queuing r rest s.orderDraws s
    have hone : handle r (requesting [] (requesting [r] s)) = _ := handle_queuing r [] s.orderDraws s
    rw [hall, hone]
    rfl

end Sys2Proof.Machine
end

section
/-! PROOF. Requests that are refused before they reach their command: by their length (R146), and to a port that does
not own the unit (R147). -/

-- Checked one after another, as the tests are: the theorems of a section all at once take a thread each.
set_option Elab.async false

namespace Sys2Proof.Machine

/-! ### Lengths that fit (R146) -/

theorem lengthFits_schedWrite (a : Octets) :
    lengthFits .schedWrite a = true ↔ 2 ≤ a.length ∧ a.length = 2 + 2 * (octet a 1).toNat := by simp [lengthFits]

theorem lengthFits_noticeEnable (a : Octets) :
    lengthFits .noticeEnable a = true ↔ 2 ≤ a.length ∧ a.length = 2 + (octet a 1).toNat := by simp [lengthFits]

/-- The command does not fit in length, and is refused for it. -/
theorem exec_refusesLength (k : Command) {c : Instr} {s : State} {p : Port} {tag : Byte} {a : Octets} {fits : Prop}
    (hc : requestOfCommand c = some ⟨p, k.code, tag, a⟩) (he : exec c s = .next (submit k p tag a s))
    (hl : lengthFits k a = true ↔ fits) (h : takesAtOnce s p) (hno : ¬fits) (r : Request)
    (hr : requestOfCommand c = some r) :
    exec c s = .next (answered p r.code tag .badArgument [] (leaseRenewed p s)) := by
  rw [hc] at hr
  cases hr
  rw [he, submit_refusesLength k tag h (Bool.eq_false_iff.mpr (mt hl.mp hno))]

/-- Settles O27: each command is refused by the length that fits it. -/
theorem wrongLengthIsBadArgument : Obligations.WrongLengthIsBadArgument := by
  intro s p tag a h
  simp only [List.forall_mem_cons]
  have refuses (k : Command) {c : Instr} {fits : Prop} (hc : requestOfCommand c = some ⟨p, k.code, tag, a⟩)
      (he : exec c s = .next (submit k p tag a s)) (hl : lengthFits k a = true ↔ fits) :=
    exec_refusesLength k hc he hl h
  exact ⟨refuses .identify rfl rfl beq_iff_eq, refuses .claim rfl rfl beq_iff_eq, refuses .release rfl rfl beq_iff_eq,
    refuses .setUnit rfl rfl beq_iff_eq, refuses .unitReset rfl rfl beq_iff_eq, refuses .laneGet rfl rfl beq_iff_eq,
    refuses .laneSet rfl rfl beq_iff_eq, refuses .laneRestart rfl rfl beq_iff_eq, refuses .alignGet rfl rfl beq_iff_eq,
    refuses .alignSet rfl rfl beq_iff_eq, refuses .alignRejoin rfl rfl beq_iff_eq, refuses .flowAdd rfl rfl beq_iff_eq,
    refuses .flowModify rfl rfl beq_iff_eq, refuses .flowRemove rfl rfl beq_iff_eq,
    refuses .flowGet rfl rfl (lengthFits_flowGet a), refuses .flowList rfl rfl beq_iff_eq,
    refuses .schedWrite rfl rfl (lengthFits_schedWrite a), refuses .schedRead rfl rfl beq_iff_eq,
    refuses .schedSwap rfl rfl beq_iff_eq, refuses .schedCancel rfl rfl beq_iff_eq,
    refuses .groupSet rfl rfl beq_iff_eq, refuses .groupGet rfl rfl beq_iff_eq, refuses .groupFlush rfl rfl beq_iff_eq,
    refuses .cycleSet rfl rfl beq_iff_eq, refuses .cycleArm rfl rfl beq_iff_eq, refuses .cycleGet rfl rfl beq_iff_eq,
    refuses .snapTake rfl rfl beq_iff_eq, refuses .snapRead rfl rfl beq_iff_eq, refuses .snapDrop rfl rfl beq_iff_eq,
    refuses .countClear rfl rfl beq_iff_eq, refuses .noticeEnable rfl rfl (lengthFits_noticeEnable a),
    refuses .noticeGet rfl rfl beq_iff_eq, List.forall_mem_nil _⟩

/-! ### Owner commands of other ports (R147) -/

/-- An owner command of a port that does not own the unit is refused by its length or for that. -/
theorem submit_refusesOther (k : Command) {s : State} {p : Port} {tag : Byte} {a : Octets} {fits : Prop}
    [Decidable fits] (hl : lengthFits k a = true ↔ fits) (hk : ownerCommand k a = true) (h : takesAtOnce s p)
    (ho : ¬ownedBy s p) :
    submit k p tag a s = answered p k.code tag (if fits then .notOwner else .badArgument) [] s := by
  by_cases hf : fits
  · rw [if_pos hf, submit_refusesOthers k tag h (hl.mpr hf) hk ho]
  · rw [if_neg hf, submit_refusesLength k tag h (Bool.eq_false_iff.mpr (mt hl.mp hf)), leaseRenewed_of_not_ownedBy ho]

theorem exec_refusesOther (k : Command) {c : Instr} {s : State} {p : Port} {tag : Byte} {a : Octets} {fits : Prop}
    [Decidable fits] (hc : requestOfCommand c = some ⟨p, k.code, tag, a⟩) (he : exec c s = .next (submit k p tag a s))
    (hl : lengthFits k a = true ↔ fits) (hk : ownerCommand k a = true) (h : takesAtOnce s p) (ho : ¬ownedBy s p)
    (r : Request) (hr : requestOfCommand c = some r) :
    exec c s = .next (answered p r.code tag (if fits then .notOwner else .badArgument) [] s) := by
  rw [hc] at hr
  cases hr
  rw [he, submit_refusesOther k hl hk h ho]

/-- Settles O28: each owner command is refused by its length, or for its port. -/
theorem ownerCommandsAreRefusedToOthers : Obligations.OwnerCommandsAreRefusedToOthers := by
  intro s p tag a h ho
  simp only [List.forall_mem_cons]
  have refuses (k : Command) {c : Instr} {n : Nat} (hc : requestOfCommand c = some ⟨p, k.code, tag, a⟩)
      (he : exec c s = .next (submit k p tag a s)) (hl : lengthFits k a = true ↔ a.length = n)
      (hk : ownerCommand k a = true) := exec_refusesOther k hc he hl hk h ho
  exact ⟨⟨refuses .release rfl rfl beq_iff_eq rfl, refuses .unitReset rfl rfl beq_iff_eq rfl,
      refuses .schedSwap rfl rfl beq_iff_eq rfl, refuses .schedCancel rfl rfl beq_iff_eq rfl,
      refuses .cycleArm rfl rfl beq_iff_eq rfl, List.forall_mem_nil _⟩,
    ⟨refuses .setUnit rfl rfl beq_iff_eq rfl, refuses .laneRestart rfl rfl beq_iff_eq rfl,
      refuses .alignRejoin rfl rfl beq_iff_eq rfl, refuses .groupFlush rfl rfl beq_iff_eq rfl, List.forall_mem_nil _⟩,
    ⟨refuses .alignSet rfl rfl beq_iff_eq rfl, refuses .flowRemove rfl rfl beq_iff_eq rfl,
      refuses .countClear rfl rfl beq_iff_eq rfl, List.forall_mem_nil _⟩,
    ⟨refuses .flowAdd rfl rfl beq_iff_eq rfl, refuses .flowModify rfl rfl beq_iff_eq rfl, List.forall_mem_nil _⟩,
    congrArg Host.Outcome.next (submit_refusesOther .cycleSet beq_iff_eq rfl h ho),
    congrArg Host.Outcome.next (submit_refusesOther .groupSet beq_iff_eq rfl h ho),
    congrArg Host.Outcome.next (submit_refusesOther .laneSet beq_iff_eq rfl h ho),
    congrArg Host.Outcome.next (submit_refusesOther .schedWrite (lengthFits_schedWrite a) rfl h ho),
    congrArg Host.Outcome.next (submit_refusesOther .noticeEnable (lengthFits_noticeEnable a) rfl h ho),
    fun hclear => congrArg Host.Outcome.next
      (submit_refusesOther .snapTake beq_iff_eq (bne_iff_ne.mpr hclear) h ho)⟩

end Sys2Proof.Machine
end

section
/-! PROOF. CLAIM and SET_UNIT (R154, R160), and UNIT_RESET (R161). -/

-- Checked one after another, as the tests are: the theorems of a section all at once take a thread each.
set_option Elab.async false

namespace Sys2Proof.Machine

/-! ### CLAIM (R154) -/

section
variable {s : State} {p : Port} {tag n : Byte}

theorem doClaim_refuses (h : s.ports[p].rx.st ≠ .up ∨ s.ports[p].profile.mgmt = false) :
    doClaim { port := p, code := 0x02, tag := tag, args := [n] } s = answered p 0x02 tag .badArgument [] s := by
  refine if_pos ?_
  rw [Bool.or_eq_true, Bool.not_eq_true', Bool.not_eq_true']
  exact h.imp (fun hup => Bool.eq_false_iff.mpr fun e => hup (portUp_iff.mp e)) id

theorem leaseOf_toNat (n : Byte) : leaseOf n.toNat = if n = 0 then 64 else n.toNat := by
  simp only [leaseOf, octet_toNat_eq_zero]
  rfl

/-- A claim of a port that is UP and permitted goes by the owner. -/
theorem doClaim_qualified (hup : s.ports[p].rx.st = .up) (hm : s.ports[p].profile.mgmt = true) (r : Request)
    (hr : r.port = p) :
    doClaim r s =
      match s.engine.owner with
      | none => grant r (leaseOf (r.arg 0)) s
      | some o =>
        if o.port = p then grant r (leaseOf (r.arg 0)) s
        else reply r .owned [o8 o.port.val, o8 o.remaining] s := by
  subst hr
  refine if_neg ?_
  rw [Bool.or_eq_true, Bool.not_eq_true', Bool.not_eq_true', portUp_iff.mpr hup, not_or]
  exact ⟨Bool.true_eq_false_eq_False, fun e => Bool.false_ne_true (e.symm.trans hm)⟩

theorem doClaim_grants (hup : s.ports[p].rx.st = .up) (hm : s.ports[p].profile.mgmt = true)
    (ho : ∀ o, s.engine.owner = some o → o.port = p) :
    doClaim { port := p, code := 0x02, tag := tag, args := [n] } s =
      grant { port := p, code := 0x02, tag := tag, args := [n] } (leaseOf n.toNat) s := by
  rw [doClaim_qualified hup hm _ rfl]
  cases hown : s.engine.owner with
  | none => rfl
  | some o => exact if_pos (ho o hown)

theorem doClaim_owned (hup : s.ports[p].rx.st = .up) (hm : s.ports[p].profile.mgmt = true) {o : Ownership}
    (ho : s.engine.owner = some o) (hp : o.port ≠ p) :
    doClaim { port := p, code := 0x02, tag := tag, args := [n] } s =
      answered p 0x02 tag .owned [o8 o.port.val, o8 o.remaining] s := by
  rw [doClaim_qualified hup hm _ rfl, ho]
  exact if_neg hp

end

/-! ### SET_UNIT (R160) -/

theorem doSetUnit_eq (p : Port) (tag u : Byte) (s : State) :
    doSetUnit { port := p, code := 0x04, tag := tag, args := [u] } s =
      if u = 255 then answered p 0x04 tag .badArgument [] s
      else answered p 0x04 tag .ok [] { s with engine := { s.engine with unitAddr := u } } := by
  have hu : u.toNat = 255 ↔ u = 255 := BitVec.toNat_inj (y := (255 : Byte))
  simp only [doSetUnit, Request.arg_zero, hu]
  rfl

/-- The owners after the lease renewal are those before it. -/
theorem leaseRenewed_ownerPort {s : State} {p : Port} {o : Ownership} (h : (leaseRenewed p s).engine.owner = some o) :
    s.engine.owner.map Ownership.port = some o.port := by
  obtain ⟨x, hx, rfl⟩ := Option.map_eq_some_iff.mp h
  rw [hx]
  by_cases e : x.port = p
  · simp [e]
  · simp [e]

/-- Settles O30: a claim by its port and by the owner, and a unit address by its value. -/
theorem claimAndSetUnit : Obligations.ClaimAndSetUnit := by
  refine ⟨fun s p tag n hw h => ?down, fun s p tag n ht => ⟨fun h lease hl => ?grants, fun o ho hp => ?owned⟩,
    fun s p tag u ht ho => ⟨fun hu => ?illegal, fun hu => ?replaced⟩⟩
  case down =>
    refine congrArg Host.Outcome.next ?_
    rw [takeRequest_carriesOut .claim hw rfl fun e => nomatch e]
    exact doClaim_refuses h
  case grants =>
    have hsame : ∀ o, (leaseRenewed p s).engine.owner = some o → o.port = p := fun o ho => by
      have hport := leaseRenewed_ownerPort ho
      rcases h with h | h
      · rw [h] at hport
        cases hport
      · exact Option.some.inj (hport.symm.trans h)
    refine congrArg Host.Outcome.next ((submit_carriesOut .claim tag ht rfl fun e => nomatch e).trans ?_)
    rw [hl, ← leaseOf_toNat]
    exact doClaim_grants ht.2.1 ht.2.2.1 hsame
  case owned =>
    have hother : ¬ownedBy s p := fun e => hp (by rw [ownedBy, ho] at e; exact Option.some.inj e)
    refine congrArg Host.Outcome.next ((submit_carriesOut .claim tag ht rfl fun e => nomatch e).trans ?_)
    rw [leaseRenewed_of_not_ownedBy hother]
    exact doClaim_owned ht.2.1 ht.2.2.1 ho hp
  case illegal =>
    refine congrArg Host.Outcome.next ((submit_carriesOut .setUnit tag ht rfl fun _ => ho).trans ?_)
    exact (doSetUnit_eq p tag u _).trans (if_pos hu)
  case replaced =>
    refine congrArg Host.Outcome.next ((submit_carriesOut .setUnit tag ht rfl fun _ => ho).trans ?_)
    exact (doSetUnit_eq p tag u _).trans (if_neg hu)

/-! ### UNIT_RESET (R161) -/

theorem resetEntry_eq_bind (e : Option FlowEntry) :
    resetEntry e = e.bind fun x =>
      if x.draining then none else some { x with expected := none, egressSeq := 0, admitted := 0, inQueue := 0 } := by
  cases e <;> rfl

/-- Settles O32: the reset as one change of the state. -/
theorem unitResetKeepsConfiguration : Obligations.UnitResetKeepsConfiguration := by
  intro s p tag h ho
  refine congrArg Host.Outcome.next ((submit_carriesOut .unitReset tag h rfl fun _ => ho).trans ?_)
  rw [carryOut, doUnitReset_eq]
  have hlanes : (Vector.ofFn fun l : Lane => s.lanes[l].afterReset s.ports[l.port].profile) =
      Vector.ofFn fun l : Lane =>
        { queue := [], high := judgedHigh s.ports[l.port].profile 0 s.lanes[l].high,
          member :=
            (match s.lanes[l].member with
             | .isIn _ _ => .joining
             | .lagging => .joining
             | .joining => .joining
             | .waiting => .waiting),
          lateCount := 0 } := by
    refine congrArg Vector.ofFn (funext fun l => ?_)
    unfold LaneState.afterReset Membership.afterReset
    cases s.lanes[l].member <;> rfl
  have hflows : s.flows.map resetEntry = s.flows.map fun e => e.bind fun x =>
      if x.draining then none else some { x with expected := none, egressSeq := 0, admitted := 0, inQueue := 0 } :=
    congrArg (Vector.map · s.flows) (funext resetEntry_eq_bind)
  simp only [leaseRenewed_ports, leaseRenewed_lanes, leaseRenewed_flows, hlanes, hflows]
  rfl

end Sys2Proof.Machine
end

section
/-! PROOF. The Epoch Aligner's records and set in the words of the statements (R56 to R58, R74), and a port that leaves
UP (R33, R34). -/

-- Checked one after another, as the tests are: the theorems of a section all at once take a thread each.
set_option Elab.async false

namespace Sys2Proof.Machine

/-! ### Records and the set -/

theorem vector_all_iff {α : Type} {n : Nat} (v : Vector α n) (f : α → Bool) :
    v.toList.all f = true ↔ ∀ i : Fin n, f v[i] = true := by
  simp only [List.all_eq_true, Vector.mem_toList_iff, Vector.mem_iff_getElem]
  exact ⟨fun h i => h _ ⟨i.val, i.isLt, rfl⟩, fun h x ⟨k, hk, hx⟩ => hx ▸ h ⟨k, hk⟩⟩

theorem allNA_iff (r : EpochRec) : r.allNA = true ↔ ∀ l : Lane, r.status[l] = .na := by
  simp only [EpochRec.allNA, vector_all_iff, beq_iff_eq]

theorem noLaneIn_iff (s : State) : noLaneIn s = true ↔ ∀ l : Lane, s.lanes[l].member.inSet = false := by
  simp only [noLaneIn, vector_all_iff, Bool.not_eq_true']

theorem makeDue_eq (skew : Nat) (r : EpochRec) : r.makeDue skew = { r with due := some (r.due.getD (skew + 1)) } := by
  obtain ⟨e, due, status, arrivals⟩ := r
  cases due <;> rfl

theorem dueIfEmpty_eq (skew : Nat) : EpochRec.dueIfEmpty skew = dueWhenEmpty skew := by
  funext r
  simp only [EpochRec.dueIfEmpty, dueWhenEmpty, allNA_iff, makeDue_eq]

theorem setNA_eq (l : Lane) (r : EpochRec) : (r.setStatus l .na).setArrivals l 0 = laneOut l r := rfl

/-- The set reset test, by the window and the lanes (R74). -/
theorem setResetTest_eq (s : State) :
    setResetTest s =
      if s.aligner.window = [] ∧ ∀ l : Lane, s.lanes[l].member.inSet = false then
        { s with aligner := { s.aligner with running := false, lastReleased := none } }
      else s := by
  simp only [setResetTest, Bool.and_eq_true, List.isEmpty_iff, noLaneIn_iff]

/-- No lane is IN where one has left the set, exactly when no other is. -/
theorem noLaneIn_upd {v : Vector LaneState 6} {l : Lane} {f : LaneState → LaneState}
    (hf : (f v[l]).member.inSet = false) :
    (∀ m : Lane, (upd v l f)[m].member.inSet = false) ↔ ∀ m : Lane, m ≠ l → v[m].member.inSet = false := by
  refine forall_congr' fun m => ?_
  by_cases e : m = l
  · subst e
    simpa using hf
  · rw [upd_get, if_neg e]
    exact ⟨fun h _ => h, fun h => h e⟩

/-! ### A lane leaves UP (R76) -/

theorem alignLeaveUp_aligner (l : Lane) (s : State) :
    (alignLeaveUp l s).aligner =
      if s.aligner.window = [] ∧ ∀ m : Lane, m ≠ l → s.lanes[m].member.inSet = false then
        { s.aligner with running := false, lastReleased := none }
      else
        { s.aligner with window := s.aligner.window.map fun r => dueWhenEmpty s.aligner.skew (laneOut l r) } := by
  have hwindow : (s.aligner.window.map fun r => (r.setStatus l .na).setArrivals l 0).map
      (EpochRec.dueIfEmpty s.aligner.skew) =
      s.aligner.window.map fun r => dueWhenEmpty s.aligner.skew (laneOut l r) := by
    rw [List.map_map, dueIfEmpty_eq]
    rfl
  unfold alignLeaveUp
  dsimp only
  rw [setResetTest_eq]
  have hset : ((dueEmptyRecords (modWindow (List.map fun r => (r.setStatus l .na).setArrivals l 0)
      (modLane l (fun x => { x with member := .waiting, lateCount := 0 }) s))).aligner.window = [] ∧
      ∀ m : Lane, (dueEmptyRecords (modWindow (List.map fun r => (r.setStatus l .na).setArrivals l 0)
      (modLane l (fun x => { x with member := .waiting, lateCount := 0 }) s))).lanes[m].member.inSet = false) ↔
      s.aligner.window = [] ∧ ∀ m : Lane, m ≠ l → s.lanes[m].member.inSet = false := by
    simp only [dueEmptyRecords_frame, modWindow_frame, modLane_frame, List.map_eq_nil_iff]
    exact and_congr_right fun _ => noLaneIn_upd rfl
  simp only [hset]
  split
  · next h => simp [dueEmptyRecords, modWindow, modLane, h.1]
  · simp only [dueEmptyRecords, modWindow, modLane]
    rw [hwindow]

/-! ### A port leaves UP -/

/-- A raise of a kind that is enabled, with no record of it pending, opens one. -/
theorem raise_opens {s : State} {k : NoticeKind} {subject : Byte} (detail : Octets) (h : opensRecord s k subject) :
    raise k subject detail s =
      { s with notices := { s.notices with
          waiting := s.notices.waiting ++ [openedRecord k subject detail s.timer.cycle] } } := by
  rw [raise_enabled k subject detail s h.1, applyRaise_opens detail _ h.2]

/-- The receiver's own share of a leave of UP (R33). -/
def receiverDown (p : Port) (c : DownCause) (s : State) : State :=
  raise .laneDown (o8 p.val) [c.code, o8 s.ports[p].rx.level]
    (countPort p (fun k => { k with downs := bump k.downs }) (modRx p (fun _ => Receiver.fresh c.after) s))

theorem leaveUp_eq (p : Port) (c : DownCause) (s : State) :
    leaveUp p c s = holderLeavesUp p (ownerLeavesUp p (laneLeavesUp p (receiverDown p c s))) := rfl

theorem leaveUp_lane (p : Port) (c : DownCause) (s : State) :
    match p.lane? with
    | some l =>
      (leaveUp p c s).free = s.free + s.lanes[l].queue.length ∧
      (leaveUp p c s).lanes =
        upd s.lanes l (fun x =>
          { queue := [], high := judgedHigh s.ports[p].profile 0 x.high, member := .waiting, lateCount := 0 }) ∧
      (leaveUp p c s).aligner =
        (if s.aligner.window = [] ∧ ∀ m : Lane, m ≠ l → s.lanes[m].member.inSet = false then
          { s.aligner with running := false, lastReleased := none }
         else
          { s.aligner with
            window := s.aligner.window.map fun r => dueWhenEmpty s.aligner.skew (laneOut l r) })
    | none =>
      (leaveUp p c s).free = s.free ∧ (leaveUp p c s).lanes = s.lanes ∧ (leaveUp p c s).aligner = s.aligner := by
  simp only [leaveUp_eq, holderLeavesUp_frame, ownerLeavesUp_frame, laneLeavesUp]
  cases hl : p.lane? with
  | none => simp [receiverDown]
  | some l =>
    obtain rfl := port_of_lane? hl
    have hprofile : (receiverDown l.port c s).ports[l.port].profile = s.ports[l.port].profile := by
      simp [receiverDown]
    refine ⟨?free, ?lanes, ?aligner⟩
    case free => simp [receiverDown]
    case lanes =>
      simp only [alignLeaveUp_frame, emptyLane_lanes, upd_upd, hprofile]
      simp [receiverDown, LaneState.withQueue]
    case aligner =>
      rw [alignLeaveUp_aligner]
      have hlanes : ∀ m : Lane, m ≠ l → (emptyLane l (receiverDown l.port c s)).lanes[m] = s.lanes[m] := fun m hm => by
        rw [emptyLane_lanes, upd_get, if_neg hm]
        simp [receiverDown]
      have hall : (∀ m : Lane, m ≠ l → (emptyLane l (receiverDown l.port c s)).lanes[m].member.inSet = false) ↔
          ∀ m : Lane, m ≠ l → s.lanes[m].member.inSet = false :=
        forall_congr' fun m => forall_congr' fun hm => by rw [hlanes m hm]
      have haligner : (emptyLane l (receiverDown l.port c s)).aligner = s.aligner := by simp [receiverDown]
      simp only [hall, haligner]

/-- A port that leaves UP, in the words of the statements (R33, R34). -/
theorem leaveUp_leftUp (p : Port) (c : DownCause) (s : State) : leftUp p c s (leaveUp p c s) := by
  obtain ⟨hpending, hdraws, hphase, hflows, hgroups, hsched, htrunk, htimer, hfollower, hunit, hreq, hrep, hrun, hheld, -,
    -, -, henabled, hclanes, hcflows, hcgroups, hports⟩ := leaveUp_frame p c s
  refine ⟨hports, ?counted, hclanes, hcflows, hcgroups, leaveUp_lane p c s, ?engine, leaveUp_snapshot p c s, henabled,
    hflows, hgroups, hsched, htrunk, htimer, hfollower, hphase, hpending, hdraws⟩
  case counted => simp [leaveUp]
  case engine =>
    have howner := leaveUp_owner p c s
    generalize (leaveUp p c s).engine = e at *
    obtain ⟨_, _, _, _, _, _⟩ := e
    simp only at hunit hreq hrep hrun hheld howner
    rw [hunit, hreq, hrep, hrun, hheld, howner]
    rfl

/-- The notices of a leave of UP where both open a record: LANE_DOWN, then OWNER_LOST of the owner (R33, R157). -/
theorem leaveUp_notices {p : Port} {c : DownCause} {s : State} (hd : opensRecord s .laneDown (BitVec.ofNat 8 p.val))
    (ho : opensRecord s .ownerLost 0xFF) :
    (leaveUp p c s).counters.unit = s.counters.unit ∧
    (leaveUp p c s).notices.waiting =
      s.notices.waiting ++
      [openedRecord .laneDown (BitVec.ofNat 8 p.val) [c.code, o8 s.ports[p].rx.level] s.timer.cycle] ++
      (if s.engine.owner.map Ownership.port = some p then
        [openedRecord .ownerLost 0xFF [BitVec.ofNat 8 p.val, 0x02] s.timer.cycle]
       else []) := by
  have hdown : receiverDown p c s =
      { countPort p (fun k => { k with downs := bump k.downs }) (modRx p (fun _ => Receiver.fresh c.after) s) with
        notices := { s.notices with
          waiting := s.notices.waiting ++
            [openedRecord .laneDown (BitVec.ofNat 8 p.val) [c.code, o8 s.ports[p].rx.level] s.timer.cycle] } } :=
    raise_opens _ hd
  have hnotices : (laneLeavesUp p (receiverDown p c s)).notices = (receiverDown p c s).notices := by simp
  have hcounters : (laneLeavesUp p (receiverDown p c s)).counters.unit = s.counters.unit := by simp [hdown]
  have hengine : (laneLeavesUp p (receiverDown p c s)).engine = s.engine := by simp [receiverDown]
  have htimer : (laneLeavesUp p (receiverDown p c s)).timer = s.timer := by simp [receiverDown]
  simp only [leaveUp_eq, holderLeavesUp_frame]
  generalize laneLeavesUp p (receiverDown p c s) = t at *
  have hopens : opensRecord t .ownerLost 0xFF := by
    unfold opensRecord
    rw [hnotices, hdown]
    refine ⟨ho.1, fun n hn => ?_⟩
    rcases List.mem_append.mp hn with hn | hn
    · exact ho.2 n hn
    · cases List.mem_singleton.mp hn
      exact fun h => nomatch h.1
  unfold ownerLeavesUp
  rw [hengine]
  by_cases hp : s.engine.ownerPort = some p
  · have hopens' : opensRecord { t with engine := { s.engine with owner := none } } .ownerLost unitSubject := hopens
    rw [if_pos hp, raise_opens _ hopens', if_pos (show s.engine.owner.map Ownership.port = some p from hp)]
    refine ⟨hcounters, ?_⟩
    dsimp only
    rw [hnotices, hdown, htimer]
    rfl
  · rw [if_neg hp, if_neg (show ¬s.engine.owner.map Ownership.port = some p from hp), hnotices, hdown]
    exact ⟨hcounters, by simp⟩

end Sys2Proof.Machine
end

section
/-! PROOF. LANE_GET, LANE_SET and LANE_RESTART (R35 to R38). -/

-- Checked one after another, as the tests are: the theorems of a section all at once take a thread each.
set_option Elab.async false

namespace Sys2Proof.Machine

/-! ### LANE_GET (R35) -/

theorem doLaneGet_noPort {p : Port} {tag n : Byte} {s : State} (h : 6 < n.toNat) :
    doLaneGet { port := p, code := 0x10, tag := tag, args := [n] } s = answered p 0x10 tag .badArgument [] s := by
  rw [doLaneGet, Request.arg_zero, fin?_eq_none (by omega)]
  rfl

theorem port_octet (q : Port) : (BitVec.ofNat 8 q.val).toNat = q.val := toNat_ofNat_octet (by omega)

theorem doLaneGet_port (p q : Port) (tag : Byte) (s : State) :
    doLaneGet { port := p, code := 0x10, tag := tag, args := [BitVec.ofNat 8 q.val] } s =
      answered p 0x10 tag .ok (laneGetResult s q) s := by
  rw [doLaneGet, Request.arg_zero, port_octet, fin?_val]
  rfl

theorem profileOctets_eq (x : Profile) : x.octets = profileArguments x := by
  obtain ⟨enabled, mode, mgmt, quota, high, low, limit, tag⟩ := x
  cases mode <;> cases tag <;> simp [Profile.octets, profileArguments, Mode.code, yn, o8]

/-- The PAUSE line of a running part follows the two conditions of R52. -/
theorem pauseLine_running {s : State} (h : s.phase = .running) (l : Lane) :
    yn (pauseLine s l) =
      if s.ports[l.port].rx.st ≠ .up ∨ (s.ports[l.port].profile.mode = .aligned ∧ s.lanes[l].high = true) then 1
      else 0 := by
  rw [← yn_decide]
  refine congrArg yn (Bool.eq_iff_iff.mpr ?_)
  simp [pauseLine, h, pauseCondition, portUp, laneAligned]

theorem queueOctets_running {s : State} (h : s.phase = .running) (q : Port) :
    queueOctets s q =
      match q.lane? with
      | none => [0, 0, 0, 0]
      | some l =>
        o16 s.lanes[l].queue.length ++
          ([if s.lanes[l].high then 1 else 0,
            if s.ports[q].rx.st ≠ .up ∨ (s.ports[q].profile.mode = .aligned ∧ s.lanes[l].high = true) then 1
            else 0] : Octets) := by
  unfold queueOctets
  cases hl : q.lane? with
  | none => rfl
  | some l =>
    obtain rfl := port_of_lane? hl
    dsimp only
    rw [pauseLine_running h, yn]

/-- Settles O33: the result octet by octet. -/
theorem laneGetReportsThePort : Obligations.LaneGetReportsThePort := by
  intro s p tag h
  have reaches (a : Octets) (ha : a.length = 1) : exec (.laneGet p tag a) s =
      .next (doLaneGet { port := p, code := 0x10, tag := tag, args := a } (leaseRenewed p s)) :=
    congrArg Host.Outcome.next (submit_carriesOut .laneGet tag h (beq_iff_eq.mpr ha) fun e => nomatch e)
  refine ⟨fun n hn => ?noPort, fun q => ?port⟩
  case noPort => rw [reaches _ rfl, doLaneGet_noPort hn]
  case port =>
    rw [reaches _ rfl, doLaneGet_port, laneGetResult, profileOctets_eq, queueOctets_running (s := leaseRenewed p s) h.1]
    refine next_answered_congr ?_
    have hst : s.ports[q].rx.st.code = match s.ports[q].rx.st with
        | .off => 0
        | .hunt => 1
        | .check => 2
        | .up => 3 := by cases s.ports[q].rx.st <;> rfl
    simp only [leaseRenewed_ports, leaseRenewed_lanes, hst, profileArguments, List.append_assoc, List.cons_append, List.nil_append]
    rfl

/-! ### LANE_RESTART (R38) -/

theorem exec_laneRestart {s : State} {p : Port} (tag : Byte) (h : takesAtOnce s p) (o : ownedBy s p) (n : Byte) :
    exec (.laneRestart p tag [n]) s =
      .next (doLaneRestart { port := p, code := 0x12, tag := tag, args := [n] } (leaseRenewed p s)) :=
  congrArg Host.Outcome.next (submit_carriesOut .laneRestart tag h rfl fun _ => o)

theorem doLaneRestart_noPort {p : Port} {tag n : Byte} {s : State} (h : 6 < n.toNat) :
    doLaneRestart { port := p, code := 0x12, tag := tag, args := [n] } s =
      answered p 0x12 tag .badArgument [] s := by
  rw [doLaneRestart, Request.arg_zero, fin?_eq_none (by omega)]
  rfl

theorem doLaneRestart_port (p q : Port) (tag : Byte) (s : State) :
    doLaneRestart { port := p, code := 0x12, tag := tag, args := [BitVec.ofNat 8 q.val] } s =
      match s.ports[q].rx.st with
      | .off => answered p 0x12 tag .badArgument [] s
      | .up => leaveUp q .restart (answered p 0x12 tag .ok [] s)
      | .hunt => modRx q (fun _ => Receiver.fresh .hunt) (answered p 0x12 tag .ok [] s)
      | .check => modRx q (fun _ => Receiver.fresh .hunt) (answered p 0x12 tag .ok [] s) := by
  rw [doLaneRestart, Request.arg_zero, port_octet, fin?_val]
  cases h : s.ports[q].rx.st <;> simp only [h] <;> rfl

/-- The owner's port after the lease renewal (R144 step 2). -/
theorem leaseRenewed_owns {s : State} {p : Port} (h : ownedBy s p) (q : Port) :
    (leaseRenewed p s).engine.owner.map Ownership.port = some q ↔ p = q := by
  have hport : (leaseRenewed p s).engine.ownerPort = some p := by
    rw [← renewLease_eq_leaseRenewed, renewLease_ownerPort]
    exact h
  rw [show (leaseRenewed p s).engine.owner.map Ownership.port = some p from hport, Option.some.injEq]

/-- Settles O35: by the state of the port's receiver. -/
theorem laneRestartBeginsAnew : Obligations.LaneRestartBeginsAnew := by
  refine fun s p tag h o => ⟨fun n hn => ?noPort, fun q => ⟨fun hst => ?off, fun hst => ?searching, fun hst => ?up⟩⟩
  case noPort => rw [exec_laneRestart tag h o, doLaneRestart_noPort hn]
  all_goals rw [exec_laneRestart tag h o, doLaneRestart_port, leaseRenewed_ports]
  case off => rw [hst]
  case searching => rcases hst with hst | hst <;> rw [hst] <;> rfl
  case up =>
    rw [hst]
    refine ⟨_, rfl, leaveUp_leftUp .., fun hd ho => ?_⟩
    have hnotices := (leaveUp_notices (p := q) (c := .restart) (s := answered p 0x12 tag .ok [] (leaseRenewed p s)) hd ho).2
    have howns : (answered p 0x12 tag .ok [] (leaseRenewed p s)).engine.owner.map Ownership.port = some q ↔ p = q :=
      leaseRenewed_owns o q
    rw [hnotices]
    by_cases hp : p = q
    · rw [if_pos (howns.mpr hp), if_pos hp, hp]
      rfl
    · rw [if_neg (mt howns.mp hp), if_neg hp]
      rfl

end Sys2Proof.Machine
end

section
/-! PROOF. LANE_SET (R36, R37). -/

-- Checked one after another, as the tests are: the theorems of a section all at once take a thread each.
set_option Elab.async false

namespace Sys2Proof.Machine

/-! ### The checks in their order (R36) -/

theorem doLaneSet_noPort {r : Request} {s : State} (h : 6 < r.arg 0) : doLaneSet r s = refuse r .badArgument s := by
  rw [doLaneSet, fin?_eq_none (by omega)]

theorem doLaneSet_port {r : Request} (q : Port) (h : r.arg 0 = q.val) (s : State) :
    doLaneSet r s =
      if !laneSetOk r q then refuse r .badArgument s
      else if q = r.port ∧ (newProfile r q s.ports[q].profile).mgmt = false then refuse r .selfLockout s
      else if q ≠ tIn ∧ laneSetRestarts r q s = false ∧
          (newProfile r q s.ports[q].profile).quota < portOccupancy s q then refuse r .quotaInUse s
      else laneSetCarried r q (reply r .ok [] s) := by
  rw [doLaneSet, h, fin?_val]
  rfl

theorem watermarksOk_iff (quota high low : Nat) :
    watermarksOk quota high low = true ↔
      if quota = 0 then high = 0 ∧ low = 0 else 1 ≤ high ∧ high ≤ quota ∧ low < high := by
  unfold watermarksOk
  by_cases h : quota = 0 <;> simp [h, and_assoc]

/-- The value checks of LANE_SET (R36). -/
theorem laneSetOk_iff (r : Request) (q : Port) :
    laneSetOk r q = true ↔
      r.arg 1 ≤ 1 ∧ 16 ≤ r.arg 10 ∧
      (q = tIn ∨ r.arg 2 ≤ 1 ∧ r.arg 3 ≤ 1 ∧ r.arg 11 ≤ 1 ∧ r.arg16 4 ≤ 1024 ∧
        watermarksOk (r.arg16 4) (r.arg16 6) (r.arg16 8) = true) := by
  simp only [laneSetOk, isYesNo, Bool.and_eq_true, Bool.or_eq_true, decide_eq_true_eq, beq_iff_eq, and_assoc]

/-- A legal record replaces the old one with a restart, or leaves the port's receiver alone. -/
theorem actsAsRestart_iff (old new : Profile) :
    actsAsRestart old new = true ↔ ¬(new.enabled = old.enabled ∧ new.mode = old.mode) := by
  simp only [actsAsRestart, Bool.or_eq_true, bne_iff_ne, not_and_or, ne_comm (a := old.enabled), ne_comm (a := old.mode)]

theorem restartSearch_eq (enabled : Bool) (x : Receiver) :
    restartSearch enabled x =
      if enabled then Receiver.fresh .hunt else if x.st = .off then x else Receiver.fresh .off := by
  unfold restartSearch
  cases h : x.st <;> simp

/-! ### A lane queue emptied twice (R49, R50) -/

theorem judgedHigh_empty (x : Profile) (a b : Bool) : judgedHigh x 0 a = judgedHigh x 0 b := by
  simp [judgedHigh]

/-- The place that is changed, read by its own index. -/
theorem upd_at {α : Type} {n : Nat} (v : Vector α n) (i : Fin n) (f : α → α) : (upd v i f)[i] = f v[i] :=
  (upd_get v i i f).trans (if_pos rfl)

theorem emptyLane_again {l : Lane} {s : State} (hq : s.lanes[l].queue = [])
    (hh : s.lanes[l].high = judgedHigh s.ports[l.port].profile 0 s.lanes[l].high) : emptyLane l s = s := by
  have hlane : s.lanes[l].withQueue s.ports[l.port].profile [] = s.lanes[l] := by
    unfold LaneState.withQueue
    rw [List.length_nil, ← hh, ← hq]
  have hlanes : (emptyLane l s).lanes = s.lanes := (emptyLane_lanes l s).trans (upd_same _ _ _ hlane)
  have hfree : (emptyLane l s).free = s.free := by
    show s.free + s.lanes[l].queue.length = s.free
    rw [hq]
    rfl
  calc emptyLane l s = { s with free := (emptyLane l s).free, lanes := (emptyLane l s).lanes } := rfl
    _ = s := by rw [hlanes, hfree]

/-- A port that has left UP has an empty lane queue (R34). -/
theorem emptyPortLane_leaveUp (p : Port) (c : DownCause) (s : State) : emptyPortLane p (leaveUp p c s) = leaveUp p c s := by
  have hlane := leaveUp_lane p c s
  unfold emptyPortLane
  cases hl : p.lane? with
  | none => rfl
  | some l =>
    obtain rfl := port_of_lane? hl
    rw [hl] at hlane
    obtain ⟨-, hlanes, -⟩ := hlane
    refine emptyLane_again ?_ ?_ <;> rw [hlanes, upd_at]
    exact (judgedHigh_empty _ _ _).trans (congrArg (judgedHigh · 0 _) (leaveUp_profile ..).symm)

/-! ### A record on a lane -/

/-- The request of a LANE_SET with a record for a lane. -/
def recordRequest (p : Port) (tag : Byte) (l : Lane) (x : Profile) : Request :=
  { port := p, code := 0x11, tag := tag, args := BitVec.ofNat 8 l.val :: profileArguments x }

theorem profileArguments_length (x : Profile) : (profileArguments x).length = 12 := by
  cases h : x.tag <;> simp [profileArguments, h, o16]

theorem lengthFits_record (l : Lane) (x : Profile) :
    lengthFits .laneSet (BitVec.ofNat 8 l.val :: profileArguments x) = true :=
  beq_iff_eq.mpr (congrArg (· + 1) (profileArguments_length x))

/-- The fields of a record are read back from its octets (R9, R36). -/
structure CarriesRecord (r : Request) (l : Lane) (x : Profile) : Prop where
  lane : r.arg 0 = l.port.val
  enabled : r.arg 1 = x.enabled.toNat
  mode : r.arg 2 = x.mode.code.toNat
  mgmt : r.arg 3 = x.mgmt.toNat
  quota : r.arg16 4 = x.quota
  high : r.arg16 6 = x.high
  low : r.arg16 8 = x.low
  limit : r.arg 10 = x.limit
  tagged : r.arg 11 = x.tag.isSome.toNat
  tag : octet r.args 12 = x.tag.getD 0

theorem related_le {x : Profile} (h : x.related) : x.quota ≤ 1024 ∧ x.high ≤ 1024 ∧ x.low ≤ 1024 := by
  obtain ⟨hquota, hmarks⟩ := h
  split at hmarks <;> omega

theorem recordRequest_carries (p : Port) (tag : Byte) (l : Lane) {x : Profile} (hrel : x.related) (hlimit : x.limit ≤ 255) :
    CarriesRecord (recordRequest p tag l x) l x := by
  obtain ⟨hquota, hhigh, hlow⟩ := related_le hrel
  obtain ⟨enabled, mode, mgmt, quota, high, low, limit, expected⟩ := x
  constructor
  case lane => exact toNat_ofNat_octet (Nat.lt_trans l.isLt (by decide))
  case enabled => cases enabled <;> rfl
  case mode => cases mode <;> rfl
  case mgmt => cases mgmt <;> rfl
  case quota => exact o16_value (Nat.lt_of_le_of_lt hquota (by decide))
  case high => exact o16_value (Nat.lt_of_le_of_lt hhigh (by decide))
  case low => exact o16_value (Nat.lt_of_le_of_lt hlow (by decide))
  case limit => exact toNat_ofNat_octet (Nat.lt_of_le_of_lt hlimit (by decide))
  case tagged => cases expected <;> rfl
  case tag => cases expected <;> rfl

section
variable {r : Request} {l : Lane} {x : Profile}

theorem newProfile_record (h : CarriesRecord r l x) (old : Profile) : newProfile r l.port old = x := by
  unfold newProfile
  rw [if_neg (lane_port_ne_tIn l), h.enabled, h.mode, h.mgmt, h.quota, h.high, h.low, h.limit, h.tagged, h.tag]
  obtain ⟨enabled, mode, mgmt, quota, high, low, limit, expected⟩ := x
  congr
  · cases enabled <;> rfl
  · cases mode <;> rfl
  · cases mgmt <;> rfl
  · cases expected <;> rfl

theorem laneSetOk_record (h : CarriesRecord r l x) (hrel : x.related) (hlow : 16 ≤ x.limit) :
    laneSetOk r l.port = true := by
  rw [laneSetOk_iff, h.enabled, h.mode, h.mgmt, h.quota, h.high, h.low, h.limit, h.tagged, watermarksOk_iff]
  refine ⟨Bool.toNat_le _, hlow, .inr ⟨?_, Bool.toNat_le _, Bool.toNat_le _, hrel⟩⟩
  cases x.mode <;> decide

/-- A legal record goes by SELF_LOCKOUT, by the quota in use, and by restart. -/
theorem doLaneSet_record (h : CarriesRecord r l x) (hrel : x.related) (hlow : 16 ≤ x.limit) (s : State) :
    doLaneSet r s =
      if l.port = r.port ∧ x.mgmt = false then refuse r .selfLockout s
      else if actsAsRestart s.ports[l.port].profile x = false ∧ x.quota < s.lanes[l].queue.length then
        refuse r .quotaInUse s
      else laneSetCarried r l.port (reply r .ok [] s) := by
  have hoccupancy : portOccupancy s l.port = s.lanes[l].queue.length := by rw [portOccupancy, lane?_port]
  rw [doLaneSet_port l.port h.lane, laneSetOk_record h hrel hlow, newProfile_record h, laneSetRestarts,
    newProfile_record h, hoccupancy]
  simp [lane_port_ne_tIn]

/-- The part with a record in a lane's port. -/
theorem withProfile_record (h : CarriesRecord r l x) (s : State) :
    withProfile r l.port s = { s with ports := upd s.ports l.port fun z => { z with profile := x } } := by
  unfold withProfile
  rw [newProfile_record h]
  rfl

/-- Without a restart the hysteresis state is judged where quota or watermarks change (R51). -/
theorem laneSetCarried_record_judges (h : CarriesRecord r l x) {s : State}
    (ha : actsAsRestart s.ports[l.port].profile x = false) :
    laneSetCarried r l.port s =
      { s with
        ports := upd s.ports l.port fun z => { z with profile := x }
        lanes := upd s.lanes l fun z =>
          { z with high :=
              if x.quota = s.ports[l.port].profile.quota ∧ x.high = s.ports[l.port].profile.high ∧
                  x.low = s.ports[l.port].profile.low then z.high
              else judgedHigh x z.queue.length z.high } } := by
  have hr : laneSetRestarts r l.port s = false := by rw [laneSetRestarts, newProfile_record h, ha]
  rw [laneSetCarried_judges hr, newProfile_record h, withProfile_record h]
  unfold laneSetJudge
  rw [lane?_port]
  generalize s.ports[l.port].profile = y
  dsimp only
  by_cases hsame : x.quota = y.quota ∧ x.high = y.high ∧ x.low = y.low
  · obtain ⟨hq, hh, hl⟩ := hsame
    simp [hq, hh, hl]
  · have hchange : (y.quota != x.quota || y.high != x.high || y.low != x.low) = true := by
      simp only [Bool.or_eq_true, bne_iff_ne, ne_comm (a := y.quota), ne_comm (a := y.high), ne_comm (a := y.low)]
      tauto
    rw [if_pos hchange]
    simp only [judgeLane, modLane, if_neg hsame]
    congr
    funext z
    simp

theorem laneSetCarried_record_searches (h : CarriesRecord r l x) {s : State}
    (ha : actsAsRestart s.ports[l.port].profile x = true) (hup : s.ports[l.port].rx.st ≠ .up) :
    laneSetCarried r l.port s =
      { s with
        free := s.free + s.lanes[l].queue.length
        ports := upd s.ports l.port fun z =>
          { profile := x
            rx :=
              if x.enabled then Receiver.fresh .hunt
              else if z.rx.st = .off then z.rx
              else Receiver.fresh .off }
        lanes := upd s.lanes l fun z => { z with queue := [], high := judgedHigh x 0 z.high } } := by
  have hr : laneSetRestarts r l.port s = true := by rw [laneSetRestarts, newProfile_record h, ha]
  rw [laneSetCarried_searches hr hup, newProfile_record h, withProfile_record h, emptyPortLane, lane?_port]
  simp only [emptyLane, judgeLane, modLane, freeBuffers, modRx, modPort, upd_upd, restartSearch_eq]
  congr
  funext z
  simp

/-- An UP port leaves UP under its new record (R37). -/
theorem laneSetCarried_record_leaves (h : CarriesRecord r l x) {s : State}
    (ha : actsAsRestart s.ports[l.port].profile x = true) (hup : s.ports[l.port].rx.st = .up) :
    laneSetCarried r l.port s =
      leaveUp l.port (if x.enabled then .restart else .disabled)
        { s with ports := upd s.ports l.port fun z => { z with profile := x } } := by
  have hr : laneSetRestarts r l.port s = true := by rw [laneSetRestarts, newProfile_record h, ha]
  rw [laneSetCarried_leaves hr hup, emptyPortLane_leaveUp, withProfile_record h, laneSetCause, newProfile_record h]

end

end Sys2Proof.Machine
end

section
/-! PROOF. LANE_SET, continued: its refusals by value, T-in, and the statement (R36, R37). -/

-- Checked one after another, as the tests are: the theorems of a section all at once take a thread each.
set_option Elab.async false

namespace Sys2Proof.Machine

theorem exec_laneSet {s : State} {p : Port} (tag : Byte) {a : Octets} (h : takesAtOnce s p) (o : ownedBy s p)
    (ha : a.length = 13) :
    exec (.laneSet p tag a) s =
      .next (doLaneSet { port := p, code := 0x11, tag := tag, args := a } (leaseRenewed p s)) :=
  congrArg Host.Outcome.next (submit_carriesOut .laneSet tag h (beq_iff_eq.mpr ha) fun _ => o)

/-- The notices of a leave of UP that follows a reply to the owner's port (R37, R38). -/
theorem leaveUp_notices_owner {s t : State} {p q : Port} {c : DownCause} {tag : Byte} {code : Byte} {ports : Vector PortState 7}
    (ht : t = answered p code tag .ok [] { leaseRenewed p s with ports := ports }) (hlevel : ports[q].rx = s.ports[q].rx)
    (o : ownedBy s p) (hd : opensRecord s .laneDown (BitVec.ofNat 8 q.val)) (ho : opensRecord s .ownerLost 0xFF) :
    (leaveUp q c t).notices.waiting =
      s.notices.waiting ++
      [openedRecord .laneDown (BitVec.ofNat 8 q.val) [c.code, BitVec.ofNat 8 s.ports[q].rx.level] s.timer.cycle] ++
      (if p = q then [openedRecord .ownerLost 0xFF [BitVec.ofNat 8 p.val, 0x02] s.timer.cycle] else []) := by
  subst ht
  have hnotices := (leaveUp_notices (p := q) (c := c)
    (s := answered p code tag .ok [] { leaseRenewed p s with ports := ports }) hd ho).2
  have hrx : (answered p code tag .ok [] { leaseRenewed p s with ports := ports }).ports[q].rx = s.ports[q].rx := hlevel
  have howns : (answered p code tag .ok [] { leaseRenewed p s with ports := ports }).engine.owner.map Ownership.port =
      some q ↔ p = q := leaseRenewed_owns o q
  rw [hnotices, hrx]
  by_cases hp : p = q
  · rw [if_pos (howns.mpr hp), if_pos hp, hp]
    rfl
  · rw [if_neg (mt howns.mp hp), if_neg hp]
    rfl

/-! ### Refusals by value (R36) -/

theorem doLaneSet_illegal {r : Request} {q : Port} (hq : r.arg 0 = q.val) (h : laneSetOk r q = false) (s : State) :
    doLaneSet r s = refuse r .badArgument s := by
  rw [doLaneSet_port q hq, h]
  rfl

theorem doLaneSet_outside {r : Request} (s : State)
    (h : 6 < r.arg 0 ∨ 1 < r.arg 1 ∨ r.arg 10 < 16 ∨
      (r.arg 0 ≤ 5 ∧
        (1 < r.arg 2 ∨ 1 < r.arg 3 ∨ 1 < r.arg 11 ∨
          ∃ x : Profile, x.quota = r.arg16 4 ∧ x.high = r.arg16 6 ∧ x.low = r.arg16 8 ∧ ¬x.related))) :
    doLaneSet r s = refuse r .badArgument s := by
  by_cases hport : 6 < r.arg 0
  · exact doLaneSet_noPort hport
  · have hq : r.arg 0 = (⟨r.arg 0, by omega⟩ : Port).val := rfl
    refine doLaneSet_illegal hq (Bool.eq_false_iff.mpr fun hok => ?_) s
    obtain ⟨henabled, hlimit, hlane⟩ := (laneSetOk_iff _ _).mp hok
    rcases h with h | h | h | ⟨hlow, h⟩
    · exact hport h
    · omega
    · omega
    · have hne : (⟨r.arg 0, by omega⟩ : Port) ≠ tIn := fun e => by
        have := congrArg Fin.val e
        simp only [tIn] at this
        omega
      obtain ⟨hmode, hmgmt, htagged, hquota, hmarks⟩ := hlane.resolve_left hne
      rcases h with h | h | h | ⟨x, hxq, hxh, hxl, hno⟩
      · omega
      · omega
      · omega
      · rw [watermarksOk_iff, ← hxq, ← hxh, ← hxl] at hmarks
        exact hno ⟨hxq ▸ hquota, hmarks⟩

/-! ### T-in (R36) -/

/-- The argument octets of a LANE_SET on T-in: enabled and the budget limit, with the others ignored. -/
def tInArguments (on : Bool) (ignored : Octets) (limit : Byte) (after : Octets) : Octets :=
  6 :: (if on then 1 else 0) :: (ignored ++ limit :: after)

section
variable (p : Port) (tag : Byte) (on : Bool) {ignored after : Octets} {limit : Byte}

/-- The request of a LANE_SET on T-in. -/
def tInRequest (p : Port) (tag : Byte) (on : Bool) (ignored : Octets) (limit : Byte) (after : Octets) : Request :=
  { port := p, code := 0x11, tag := tag, args := tInArguments on ignored limit after }

theorem tInRequest_enabled : (tInRequest p tag on ignored limit after).arg 1 = on.toNat := by cases on <;> rfl

theorem tInRequest_limit (hi : ignored.length = 8) : (tInRequest p tag on ignored limit after).arg 10 = limit.toNat := by
  have h : (ignored ++ limit :: after)[8]? = some limit := by
    rw [List.getElem?_append_right (by omega), hi]
    rfl
  simp [Request.arg, tInRequest, tInArguments, octet, h]

/-- What a LANE_SET leaves of T-in's record. -/
def tInProfile (on : Bool) (limit : Byte) (old : Profile) : Profile := { old with enabled := on, limit := limit.toNat }

theorem newProfile_tIn (hi : ignored.length = 8) (old : Profile) :
    newProfile (tInRequest p tag on ignored limit after) tIn old = tInProfile on limit old := by
  unfold newProfile
  rw [if_pos rfl, tInRequest_enabled, tInRequest_limit p tag on hi]
  cases on <;> rfl

theorem doLaneSet_tIn (hi : ignored.length = 8) (hl : 16 ≤ limit.toNat) {s : State}
    (hm : s.ports[tIn].profile.mgmt = true) :
    doLaneSet (tInRequest p tag on ignored limit after) s =
      laneSetCarried (tInRequest p tag on ignored limit after) tIn
        (answered p 0x11 tag .ok [] s) := by
  have hok : laneSetOk (tInRequest p tag on ignored limit after) tIn = true := by
    rw [laneSetOk_iff, tInRequest_enabled, tInRequest_limit p tag on hi]
    exact ⟨Bool.toNat_le _, hl, .inl rfl⟩
  have hmgmt : ¬(tIn = (tInRequest p tag on ignored limit after).port ∧
      (newProfile (tInRequest p tag on ignored limit after) tIn s.ports[tIn].profile).mgmt = false) := by
    rw [newProfile_tIn p tag on hi]
    exact fun h => Bool.false_ne_true (h.2.symm.trans hm)
  rw [doLaneSet_port tIn rfl, hok, Bool.not_true, if_neg Bool.false_ne_true, if_neg hmgmt, if_neg fun h => h.1 rfl]
  rfl

/-- The part with T-in's new record. -/
def withTIn (on : Bool) (limit : Byte) (s : State) : State :=
  { s with ports := upd s.ports tIn fun z => { z with profile := tInProfile on limit s.ports[tIn].profile } }

theorem laneSetCarried_tIn (hi : ignored.length = 8) (s : State) :
    laneSetCarried (tInRequest p tag on ignored limit after) tIn s =
      if s.ports[tIn].profile.enabled = on then withTIn on limit s
      else if s.ports[tIn].rx.st = .up then leaveUp tIn (if on then .restart else .disabled) (withTIn on limit s)
      else modRx tIn (restartSearch on) (withTIn on limit s) := by
  have hnew := newProfile_tIn (after := after) (limit := limit) p tag on hi s.ports[tIn].profile
  have hwith : withProfile (tInRequest p tag on ignored limit after) tIn s = withTIn on limit s := by
    unfold withProfile
    rw [hnew]
    rfl
  have hr : laneSetRestarts (tInRequest p tag on ignored limit after) tIn s = true ↔ s.ports[tIn].profile.enabled ≠ on := by
    rw [laneSetRestarts, hnew, actsAsRestart_iff]
    simp [tInProfile, eq_comm]
  by_cases hsame : s.ports[tIn].profile.enabled = on
  · rw [if_pos hsame, laneSetCarried_judges (Bool.eq_false_iff.mpr fun e => hr.mp e hsame), hwith]
    rfl
  · rw [if_neg hsame]
    by_cases hup : s.ports[tIn].rx.st = .up
    · rw [if_pos hup, laneSetCarried_leaves (hr.mpr hsame) hup, emptyPortLane_leaveUp, hwith, laneSetCause, hnew]
      rfl
    · rw [if_neg hup, laneSetCarried_searches (hr.mpr hsame) hup, hwith, hnew]
      rfl

end

/-! ### The statement -/

/-- LANE_SET with a legal record on a lane (R36, R37). -/
theorem laneSet_record {s : State} {p : Port} {tag : Byte} {l : Lane} {x : Profile} (h : takesAtOnce s p)
    (o : ownedBy s p) (hrel : x.related) (hlow : 16 ≤ x.limit) (hhigh : x.limit ≤ 255) :
    exec (.laneSet p tag (BitVec.ofNat 8 l.val :: profileArguments x)) s =
      .next
        (if p = l.port ∧ x.mgmt = false then answered p 0x11 tag .selfLockout [] (leaseRenewed p s)
         else if actsAsRestart s.ports[l.port].profile x = false ∧ x.quota < s.lanes[l].queue.length then
          answered p 0x11 tag .quotaInUse [] (leaseRenewed p s)
         else laneSetCarried (recordRequest p tag l x) l.port (answered p 0x11 tag .ok [] (leaseRenewed p s))) := by
  rw [exec_laneSet tag h o (congrArg (· + 1) (profileArguments_length x))]
  have hcarries := recordRequest_carries p tag l hrel hhigh
  refine congrArg Host.Outcome.next ((doLaneSet_record hcarries hrel hlow (leaseRenewed p s)).trans ?_)
  simp only [eq_comm (a := l.port)]
  rfl

/-- Settles O34: a legal record on a lane by the checks and by restart, the refusals by value, and T-in. -/
theorem laneSetChecksAndReplacesTheRecord : Obligations.LaneSetChecksAndReplacesTheRecord := by
  refine ⟨fun s p tag l x y h o hrel hlow hhigh hy a ha => ?record,
    fun s p tag h o => ⟨fun a ha hno => ?outside, fun ignored after limit hi hf hl hm => ?sameTIn⟩,
    fun s p tag on ignored after limit h o hi hf hl hm hon a x ha hx => ?tIn⟩
  case record =>
    subst ha hy
    have hcarries := recordRequest_carries p tag l hrel hhigh
    rw [laneSet_record h o hrel hlow hhigh]
    refine ⟨fun hp hm => ?lockout, fun hok => ⟨fun he hm => ?same, fun hchange => ?restart⟩⟩
    case lockout => rw [if_pos ⟨hp, hm⟩]
    case same =>
      have ha : actsAsRestart s.ports[l.port].profile x = false :=
        Bool.eq_false_iff.mpr fun e => (actsAsRestart_iff _ _).mp e ⟨he, hm⟩
      rw [if_neg hok]
      refine ⟨fun hq => ?inUse, fun hq => ?replaced⟩
      case inUse => rw [if_pos ⟨ha, hq⟩]
      case replaced =>
        rw [if_neg fun e => absurd e.2 (Nat.not_lt.mpr hq),
          laneSetCarried_record_judges hcarries (s := answered p 0x11 tag .ok [] (leaseRenewed p s)) ha]
        rfl
    case restart =>
      have ha := (actsAsRestart_iff _ _).mpr hchange
      rw [if_neg hok, if_neg fun e => Bool.false_ne_true (e.1.symm.trans ha)]
      refine ⟨fun hup => ?searches, fun hup => ?leaves⟩
      case searches =>
        rw [laneSetCarried_record_searches hcarries (s := answered p 0x11 tag .ok [] (leaseRenewed p s)) ha hup]
        rfl
      case leaves =>
        rw [laneSetCarried_record_leaves hcarries (s := answered p 0x11 tag .ok [] (leaseRenewed p s)) ha hup]
        refine ⟨_, rfl, leaveUp_leftUp .., fun hd ho => ?_⟩
        have hnotices := leaveUp_notices_owner (c := if x.enabled then .restart else .disabled) (q := l.port) (code := 0x11)
          (tag := tag) (ports := upd s.ports l.port fun z => { z with profile := x }) rfl
          (upd_get_map _ _ _ _ PortState.rx fun _ => rfl) o hd ho
        refine hnotices.trans ?_
        cases x.enabled <;> rfl
  case outside =>
    rw [exec_laneSet tag h o ha]
    exact congrArg Host.Outcome.next (doLaneSet_outside (r := ⟨p, 0x11, tag, a⟩) _ hno)
  case sameTIn =>
    have hlen : (tInArguments s.ports[tIn].profile.enabled ignored limit after).length = 13 := by
      simp [tInArguments, hi, hf]
    refine (exec_laneSet tag h o hlen).trans (congrArg Host.Outcome.next ?_)
    refine (doLaneSet_tIn p tag s.ports[tIn].profile.enabled hi hl (s := leaseRenewed p s) hm).trans ?_
    rw [laneSetCarried_tIn p tag _ hi]
    refine (if_pos rfl).trans ?_
    refine congrArg (fun v => answered p 0x11 tag .ok [] { leaseRenewed p s with ports := v }) ?_
    exact upd_congr s.ports tIn
      (fun z => { z with profile := tInProfile s.ports[tIn].profile.enabled limit s.ports[tIn].profile })
      (fun z => { z with profile := { z.profile with limit := limit.toNat } }) rfl
  case tIn =>
    have hlen : a.length = 13 := by simp [ha, hi, hf]
    have hexec : exec (.laneSet p tag a) s = .next (if s.ports[tIn].rx.st = .up then
        leaveUp tIn (if on then .restart else .disabled) (withTIn on limit (answered p 0x11 tag .ok [] (leaseRenewed p s)))
        else modRx tIn (restartSearch on) (withTIn on limit (answered p 0x11 tag .ok [] (leaseRenewed p s)))) := by
      refine (exec_laneSet tag h o hlen).trans (congrArg Host.Outcome.next ?_)
      subst ha
      refine (doLaneSet_tIn p tag on hi hl (s := leaseRenewed p s) hm).trans ?_
      rw [laneSetCarried_tIn p tag on hi]
      exact if_neg hon
    subst hx
    rw [hexec]
    refine ⟨fun hup => ?searches, fun hup => ?leaves⟩
    case searches =>
      rw [if_neg hup]
      have hports : upd (upd s.ports tIn fun z => { z with profile := tInProfile on limit s.ports[tIn].profile }) tIn
          (fun z => { z with rx := restartSearch on z.rx }) =
          upd s.ports tIn fun z =>
            { profile := tInProfile on limit s.ports[tIn].profile
              rx := if on then Receiver.fresh .hunt else if z.rx.st = .off then z.rx else Receiver.fresh .off } := by
        simp only [upd_upd, restartSearch_eq]
      exact congrArg (fun v => Host.Outcome.next (answered p 0x11 tag .ok [] { leaseRenewed p s with ports := v })) hports
    case leaves =>
      rw [if_pos hup]
      refine ⟨_, rfl, leaveUp_leftUp .., fun hd ho => ?_⟩
      have hnotices := leaveUp_notices_owner (c := if on then .restart else .disabled) (q := tIn) (code := 0x11)
        (tag := tag) (ports := upd s.ports tIn fun z => { z with profile := tInProfile on limit s.ports[tIn].profile }) rfl
        (upd_get_map _ _ _ _ PortState.rx fun _ => rfl) o hd ho
      refine hnotices.trans ?_
      by_cases hp : p = tIn
      · subst hp
        cases on <;> rfl
      · rw [if_neg hp, if_neg hp]
        cases on <;> rfl

end Sys2Proof.Machine
end

section
/-! PROOF. FLOW_MODIFY and FLOW_REMOVE (R99, R100), CYCLE_SET and CYCLE_ARM (R138, R139), COUNT_CLEAR (R168). -/

-- Checked one after another, as the tests are: the theorems of a section all at once take a thread each.
set_option Elab.async false

namespace Sys2Proof.Machine

/-! ### FLOW_MODIFY (R99) -/

section
variable {s : State} {p : Port} (tag : Byte) {e : FlowEntry}

theorem exec_flowModify (h : takesAtOnce s p) (o : ownedBy s p) {a : Octets} (hl : a.length = 11) :
    exec (.flowModify p tag a) s =
      .next (doFlowModify { port := p, code := 0x21, tag := tag, args := a } (leaseRenewed p s)) :=
  congrArg Host.Outcome.next (submit_carriesOut .flowModify tag h (beq_iff_eq.mpr hl) fun _ => o)

theorem doFlowModify_outside {a : Octets} (h : outsideFlowValues a) :
    doFlowModify { port := p, code := 0x21, tag := tag, args := a } s = answered p 0x21 tag .badArgument [] s := by
  rw [doFlowModify, flowArgs_outside p 0x21 tag h]
  rfl

theorem doFlowModify_notHeld (hb : budgetLegal e) (hn : ∀ i : FlowIdx, ¬holdsKeyOf s i e) :
    doFlowModify { port := p, code := 0x21, tag := tag, args := flowArguments e } s =
      answered p 0x21 tag .noEntry [] s := by
  have hfind : findKey s e.fresh.lane.val e.fresh.inflow.toNat = none := findKey_of_notHeld hn
  simp only [doFlowModify, flowArgs_flowArguments p 0x21 tag hb, hfind, refuse_eq, reply_eq_answered]

theorem doFlowModify_held (hb : budgetLegal e) (hd : keysDistinct s) {i : FlowIdx} {x : FlowEntry}
    (hi : s.flows[i] = some x) (hl : x.lane = e.lane) (hf : x.inflow = e.inflow) :
    doFlowModify { port := p, code := 0x21, tag := tag, args := flowArguments e } s =
      if x.draining then answered p 0x21 tag .keyBusy [] s
      else answered p 0x21 tag .ok [] { s with flows := upd s.flows i fun _ => some (e.fresh.modified x) } := by
  have hfind : findKey s e.fresh.lane.val e.fresh.inflow.toNat = some i := by
    have hheld := findKey_of_held hd hi
    rwa [hl, hf] at hheld
  have hmod : modFlow i (FlowEntry.modified e.fresh) s =
      { s with flows := upd s.flows i fun _ => some (e.fresh.modified x) } := by
    refine congrArg (fun v => { s with flows := v }) (upd_congr _ _ _ _ ?_)
    exact congrArg (Option.map (FlowEntry.modified e.fresh)) hi
  simp only [doFlowModify, flowArgs_flowArguments p 0x21 tag hb, hfind, isDraining_of_held hi, hmod, refuse_eq,
    reply_eq_answered]

/-! ### FLOW_REMOVE (R100) -/

theorem exec_flowRemove (h : takesAtOnce s p) (o : ownedBy s p) {a : Octets} (hl : a.length = 3) :
    exec (.flowRemove p tag a) s =
      .next (doFlowRemove { port := p, code := 0x22, tag := tag, args := a } (leaseRenewed p s)) :=
  congrArg Host.Outcome.next (submit_carriesOut .flowRemove tag h (beq_iff_eq.mpr hl) fun _ => o)

theorem doFlowRemove_noKey {a : Octets}
    (h : findKey s (Request.arg { port := p, code := 0x22, tag := tag, args := a } 0)
      (Request.arg16 { port := p, code := 0x22, tag := tag, args := a } 1) = none) :
    doFlowRemove { port := p, code := 0x22, tag := tag, args := a } s = answered p 0x22 tag .noEntry [] s := by
  rw [doFlowRemove, h]
  rfl

/-- No entry holds a key outside the ranges of R84. -/
theorem findKey_outside {lane inflow : Nat} (h : 5 < lane ∨ 1023 < inflow) : findKey s lane inflow = none := by
  cases hk : findKey s lane inflow with
  | none => rfl
  | some i =>
    obtain ⟨x, -, hl, hf⟩ := findKey_some hk
    have := x.lane.isLt
    have := x.inflow.isLt
    omega

/-- The key octets of FLOW_REMOVE are the first three of a flow entry's. -/
theorem removeKey (p : Port) (tag : Byte) (e : FlowEntry) :
    Request.arg { port := p, code := 0x22, tag := tag, args := (flowArguments e).take 3 } 0 = e.lane.val ∧
    Request.arg16 { port := p, code := 0x22, tag := tag, args := (flowArguments e).take 3 } 1 = e.inflow.toNat :=
  ⟨flowArguments_lane p 0x22 tag e, flowArguments_inflow p 0x22 tag e⟩

/-- The long-operation checks of a drain (R100, R150). -/
theorem beginDrain_eq [Decidable (tagRuns s p tag)] (a : Octets) {i : FlowIdx} {x : FlowEntry} (hi : s.flows[i] = some x) :
    beginDrain { port := p, code := 0x22, tag := tag, args := a } i s =
      if tagRuns s p tag then answered p 0x22 tag .tagInUse [] s
      else if 4 ≤ (tableEntries s).length then answered p 0x22 tag .busy [] s
      else answered p 0x22 tag .started [o8 i.val]
        (begun p 0x22 tag (.flow i) { s with flows := upd s.flows i fun _ => some { x with draining := true } }) := by
  have hmod : modFlow i (fun x => { x with draining := true }) s =
      { s with flows := upd s.flows i fun _ => some { x with draining := true } } := by
    refine congrArg (fun v => { s with flows := v }) (upd_congr _ _ _ _ ?_)
    exact congrArg (Option.map fun x : FlowEntry => { x with draining := true }) hi
  simp only [beginDrain, ← tagInUse_iff, tableSize_eq, Config.inFlightPlaces, hmod, refuse_eq, reply_eq_answered]
  rfl

theorem doFlowRemove_held (hd : keysDistinct s) {i : FlowIdx} {x : FlowEntry} (hi : s.flows[i] = some x) :
    doFlowRemove { port := p, code := 0x22, tag := tag, args := (flowArguments x).take 3 } s =
      if x.draining then answered p 0x22 tag .keyBusy [] s
      else if x.inQueue = 0 then answered p 0x22 tag .ok [] { s with flows := upd s.flows i fun _ => none }
      else beginDrain { port := p, code := 0x22, tag := tag, args := (flowArguments x).take 3 } i s := by
  have hcount : (s.flows[i].map FlowEntry.inQueue).getD 0 = x.inQueue := by rw [hi]; rfl
  simp only [doFlowRemove, (removeKey p tag x).1, (removeKey p tag x).2, findKey_of_held hd hi, isDraining_of_held hi,
    hcount, refuse_eq, reply_eq_answered]

end

/-- Settles O38: a modification by its values, its key and the entry's state; a removal by its key, the entry's state,
its queued cells and the in-flight table. -/
theorem flowModifyAndRemove : Obligations.FlowModifyAndRemove := by
  classical
  refine ⟨fun s p tag a h o hout => ?outside,
    fun s p tag e h o hd hb => ⟨fun hn => ?notHeld, fun i x hi hl hf => ⟨fun hdr => ?busy, fun hdr => ?modified⟩⟩,
    fun s p tag h o hd => ⟨fun a ha hout => ?impossible, fun e hn => ?missing,
      fun i x hi => ⟨fun hdr => ?draining, fun hdr hq => ?removed, fun hdr hq => ?drains⟩⟩⟩
  case outside => rw [exec_flowModify tag h o hout.1, doFlowModify_outside tag hout]
  case notHeld => rw [exec_flowModify tag h o rfl, doFlowModify_notHeld (s := leaseRenewed p s) tag hb hn]
  case busy =>
    rw [exec_flowModify tag h o rfl, doFlowModify_held (s := leaseRenewed p s) tag hb hd hi hl hf, if_pos hdr]
  case modified =>
    rw [exec_flowModify tag h o rfl, doFlowModify_held (s := leaseRenewed p s) tag hb hd hi hl hf,
      if_neg (ne_true_of_eq_false hdr)]
    rfl
  case impossible =>
    rw [exec_flowRemove tag h o ha, doFlowRemove_noKey tag (findKey_outside ?_)]
    simp only [Request.arg, Request.arg16, pair]
    omega
  case missing =>
    have hkey : findKey (leaseRenewed p s) e.lane.val e.inflow.toNat = none := findKey_of_notHeld hn
    rw [exec_flowRemove tag h o rfl, doFlowRemove_noKey tag]
    rw [(removeKey p tag e).1, (removeKey p tag e).2, hkey]
  all_goals rw [exec_flowRemove tag h o rfl, doFlowRemove_held (s := leaseRenewed p s) tag hd hi]
  case draining => rw [if_pos hdr]
  case removed => rw [if_neg (ne_true_of_eq_false hdr), if_pos hq]; rfl
  case drains =>
    have htag : tagRuns (leaseRenewed p s) p tag ↔ tagRuns s p tag := Iff.rfl
    have htable : tableEntries (leaseRenewed p s) = tableEntries s := rfl
    rw [if_neg (ne_true_of_eq_false hdr), if_neg (by omega), beginDrain_eq (s := leaseRenewed p s) tag _ hi]
    simp only [htag, htable]
    refine ⟨fun hr => ?_, fun hr hfull => ?_, fun hr hroom => ?_⟩
    · rw [if_pos hr]
    · rw [if_neg hr, if_pos hfull]
    · rw [if_neg hr, if_neg (Nat.not_le.mpr hroom)]
      rfl

/-! ### CYCLE_SET and CYCLE_ARM (R138, R139) -/

section
variable {s : State} {p : Port} (tag : Byte)

theorem exec_cycleSet (h : takesAtOnce s p) (o : ownedBy s p) (m w : Byte) :
    exec (.cycleSet p tag [m, w]) s =
      .next (doCycleSet { port := p, code := 0x40, tag := tag, args := [m, w] } (leaseRenewed p s)) :=
  congrArg Host.Outcome.next (submit_carriesOut .cycleSet tag h rfl fun _ => o)

theorem followModeOf_eq_none {n : Nat} (h : 3 < n) : followModeOf n = none := by
  match n, h with
  | _ + 4, _ => rfl

theorem followModeOf_code {m : Byte} {mode : FollowMode}
    (h : (mode = .free ∧ m = 0) ∨ (mode = .watch ∧ m = 1) ∨ (mode = .once ∧ m = 2) ∨ (mode = .always ∧ m = 3)) :
    followModeOf m.toNat = some mode := by
  rcases h with ⟨rfl, rfl⟩ | ⟨rfl, rfl⟩ | ⟨rfl, rfl⟩ | ⟨rfl, rfl⟩ <;> rfl

theorem doCycleSet_refuses {m w : Byte} (h : 3 < m.toNat ∨ 31 < w.toNat) :
    doCycleSet { port := p, code := 0x40, tag := tag, args := [m, w] } s = answered p 0x40 tag .badArgument [] s := by
  simp only [doCycleSet, Request.arg_zero, Request.arg_one]
  cases hmode : followModeOf m.toNat with
  | none => rfl
  | some mode =>
    rcases h with h | h
    · rw [followModeOf_eq_none h] at hmode
      cases hmode
    · exact if_pos h

theorem doCycleSet_sets {m w : Byte} {mode : FollowMode} (hm : followModeOf m.toNat = some mode) (hw : w.toNat ≤ 31) :
    doCycleSet { port := p, code := 0x40, tag := tag, args := [m, w] } s =
      if s.follower.armed then
        complete .follower .aborted []
          (answered p 0x40 tag .ok []
            { s with follower := { s.follower with mode := mode, window := w.toNat, armed := false } })
      else
        answered p 0x40 tag .ok []
          { s with follower := { s.follower with mode := mode, window := w.toNat, armed := false } } := by
  simp only [doCycleSet, Request.arg_zero, Request.arg_one, hm]
  exact if_neg (Nat.not_lt.mpr hw)

theorem exec_cycleArm (h : takesAtOnce s p) (o : ownedBy s p) :
    exec (.cycleArm p tag []) s =
      .next (doCycleArm { port := p, code := 0x41, tag := tag, args := [] } (leaseRenewed p s)) :=
  congrArg Host.Outcome.next (submit_carriesOut .cycleArm tag h rfl fun _ => o)

theorem doCycleArm_eq [Decidable (tagRuns s p tag)] :
    doCycleArm { port := p, code := 0x41, tag := tag, args := [] } s =
      if s.follower.mode ≠ .once then answered p 0x41 tag .badArgument [] s
      else if s.follower.armed then answered p 0x41 tag .busy [] s
      else if tagRuns s p tag then answered p 0x41 tag .tagInUse [] s
      else if 4 ≤ (tableEntries s).length then answered p 0x41 tag .busy [] s
      else answered p 0x41 tag .started []
        (begun p 0x41 tag .follower { s with follower := { s.follower with armed := true } }) := by
  simp only [doCycleArm, ← tagInUse_iff, tableSize_eq, Config.inFlightPlaces, refuse_eq, reply_eq_answered]
  rfl

end

/-- Settles O44: CYCLE_SET by its values and the arm, CYCLE_ARM by its refusals in order. -/
theorem cycleSetAndArm : Obligations.CycleSetAndArm := by
  classical
  refine ⟨fun s p tag m w h o => ⟨fun hout => ?outside, fun mode hm hw => ⟨fun ha => ?sets, fun ha x hx => ?aborts⟩⟩,
    fun s p tag h o => ?arm⟩
  case outside => rw [exec_cycleSet tag h o, doCycleSet_refuses tag hout]
  case sets =>
    have ha' : ¬(leaseRenewed p s).follower.armed = true := ne_true_of_eq_false ha
    rw [exec_cycleSet tag h o, doCycleSet_sets (s := leaseRenewed p s) tag (followModeOf_code hm) hw, if_neg ha']
    dsimp only
    rw [ha]
    rfl
  case aborts =>
    have ha' : (leaseRenewed p s).follower.armed = true := ha
    rw [exec_cycleSet tag h o, doCycleSet_sets (s := leaseRenewed p s) tag (followModeOf_code hm) hw, if_pos ha']
    exact congrArg Host.Outcome.next (complete_eq_reported (s := answered p 0x40 tag .ok []
      { leaseRenewed p s with follower := { s.follower with mode := mode, window := w.toNat, armed := false } }) hx _ _)
  case arm =>
    have htag : tagRuns (leaseRenewed p s) p tag ↔ tagRuns s p tag := Iff.rfl
    have htable : tableEntries (leaseRenewed p s) = tableEntries s := rfl
    rw [exec_cycleArm tag h o, doCycleArm_eq]
    simp only [htag, htable, leaseRenewed_follower]
    refine ⟨fun hm => ?_, fun hm => ⟨fun ha => ?_, fun ha => ⟨fun hr => ?_, fun hr hfull => ?_, fun hr hroom => ?_⟩⟩⟩
    · rw [if_pos hm]
    · rw [if_neg (not_not_intro hm), if_pos ha]
    · rw [if_neg (not_not_intro hm), if_neg (ne_true_of_eq_false ha), if_pos hr]
    · rw [if_neg (not_not_intro hm), if_neg (ne_true_of_eq_false ha), if_neg hr, if_pos hfull]
    · rw [if_neg (not_not_intro hm), if_neg (ne_true_of_eq_false ha), if_neg hr, if_neg (Nat.not_le.mpr hroom)]

/-! ### COUNT_CLEAR (R168) -/

theorem exec_countClear {s : State} {p : Port} (tag c h l : Byte) (ht : takesAtOnce s p) (o : ownedBy s p) :
    exec (.countClear p tag [c, h, l]) s =
      .next (if clearOk c.toNat (h.toNat * 256 + l.toNat) then
          answered p 0x53 tag .ok []
            { leaseRenewed p s with counters := clearCounters c.toNat (h.toNat * 256 + l.toNat) s.counters }
        else answered p 0x53 tag .badArgument [] (leaseRenewed p s)) :=
  congrArg Host.Outcome.next (submit_carriesOut .countClear tag ht rfl fun _ => o)

/-- The sections and subjects that COUNT_CLEAR accepts. -/
theorem clearOk_iff (c : Byte) (n : Nat) :
    clearOk c.toNat n = true ↔
      (c = 1 ∧ n ≤ 6) ∨ (c = 2 ∧ n ≤ 5) ∨ (c = 3 ∧ n ≤ 255) ∨ (c = 4 ∧ n ≤ 15) ∨ (c = 5 ∧ n = 0) ∨
        (1 ≤ c.toNat ∧ c.toNat ≤ 5 ∧ n = 65535) ∨ (c = 255 ∧ n = 65535) := by
  have hc (k : Byte) : c = k ↔ c.toNat = k.toNat := BitVec.toNat_inj.symm
  simp only [hc]
  generalize c.toNat = m
  unfold clearOk
  split <;> simp_all <;> omega

/-- A block that a subject names is cleared alone. -/
theorem clearBlocks_one {α : Type} {k : Nat} (zero : α) (v : Vector α k) (i : Fin k) (hk : k ≤ 65535) :
    clearBlocks zero i.val v = upd v i fun _ => zero := by
  have hne : i.val ≠ 65535 := by omega
  rw [clearBlocks, if_neg hne, fin?_val]

theorem clearBlocks_all {α : Type} {k : Nat} (zero : α) (v : Vector α k) :
    clearBlocks zero 65535 v = Vector.replicate k zero := if_pos rfl

/-- Settles O48: refused outside what it accepts, and section by section otherwise. -/
theorem countClearZeroesWhatItNames : Obligations.CountClearZeroesWhatItNames := by
  intro s p tag c h l ht o n hn
  rw [exec_countClear tag c h l ht o, ← hn]
  refine ⟨fun hno => ?refused, fun k hk => ?cleared⟩
  case refused => rw [if_neg (mt (clearOk_iff c n).mp hno)]
  case cleared =>
    suffices hall : clearOk c.toNat n = true ∧ clearCounters c.toNat n s.counters = k by rw [if_pos hall.1, hall.2]
    rw [clearOk_iff]
    rcases hk with ⟨q, rfl, rfl, rfl⟩ | ⟨q, rfl, rfl, rfl⟩ | ⟨q, rfl, rfl, rfl⟩ | ⟨q, rfl, rfl, rfl⟩ |
      ⟨rfl, hsub, rfl⟩ | ⟨rfl, rfl, rfl⟩ | ⟨rfl, rfl, rfl⟩ | ⟨rfl, rfl, rfl⟩ | ⟨rfl, rfl, rfl⟩ | ⟨rfl, rfl, rfl⟩
    · exact ⟨.inl ⟨rfl, by omega⟩, congrArg (fun v => { s.counters with ports := v }) (clearBlocks_one _ _ q (by decide))⟩
    · exact ⟨.inr (.inl ⟨rfl, by omega⟩),
        congrArg (fun v => { s.counters with lanes := v }) (clearBlocks_one _ _ q (by decide))⟩
    · exact ⟨.inr (.inr (.inl ⟨rfl, by omega⟩)),
        congrArg (fun v => { s.counters with flows := v }) (clearBlocks_one _ _ q (by decide))⟩
    · exact ⟨.inr (.inr (.inr (.inl ⟨rfl, by omega⟩))),
        congrArg (fun v => { s.counters with groups := v }) (clearBlocks_one _ _ q (by decide))⟩
    · refine ⟨?_, rfl⟩
      rcases hsub with rfl | rfl <;> decide
    · exact ⟨by decide, congrArg (fun v => { s.counters with ports := v }) (clearBlocks_all _ _)⟩
    · exact ⟨by decide, congrArg (fun v => { s.counters with lanes := v }) (clearBlocks_all _ _)⟩
    · exact ⟨by decide, congrArg (fun v => { s.counters with flows := v }) (clearBlocks_all _ _)⟩
    · exact ⟨by decide, congrArg (fun v => { s.counters with groups := v }) (clearBlocks_all _ _)⟩
    · exact ⟨by decide, rfl⟩

end Sys2Proof.Machine
end

section
/-! PROOF. A request that is refused changes nothing but the queues of the engine and the lease (R11). -/

-- Checked one after another, as the tests are: the theorems of a section all at once take a thread each.
set_option Elab.async false

namespace Sys2Proof.Machine

/-- The command has been refused: its refusal has joined the reply queue, and nothing else has changed. -/
def refused (r : Request) (s t : State) : Prop :=
  ∃ st o, st.refusal = true ∧ (st ≠ .owned → o = []) ∧ t = reply r st o s

/-- The first reply that the command has given is no refusal; UNIT_RESET alone has emptied the reply queue before. -/
def accepted (s t : State) : Prop :=
  ∃ x : Reply, x.status.refusal = false ∧ (s.engine.replies ++ [x] <+: t.engine.replies ∨ t.engine.replies = [x])

theorem refuse_refused (r : Request) {st : Status} (s : State) (h : st.refusal = true) :
    refused r s (refuse r st s) ∨ accepted s (refuse r st s) := .inl ⟨st, [], h, fun _ => rfl, rfl⟩

theorem accepted_of_replies {s t : State} (x : Reply) (hx : x.status.refusal = false)
    (h : s.engine.replies ++ [x] <+: t.engine.replies) : accepted s t := ⟨x, hx, .inl h⟩

/-- A reply that is no refusal, whatever the command has changed besides the reply queue. -/
theorem reply_accepted (r : Request) {st : Status} (o : Octets) {s u : State} (h : st.refusal = false)
    (hu : u.engine.replies = s.engine.replies) : refused r s (reply r st o u) ∨ accepted s (reply r st o u) :=
  .inr ⟨⟨r.port, r.code, r.tag, st, o⟩, h, .inl (by simp [reply, hu])⟩

/-! ### What follows the first reply -/

theorem complete_appends (x : Target) (st : Status) (o : Octets) (s : State) :
    s.engine.replies <+: (complete x st o s).engine.replies := by
  rcases complete_cases x st o s with ⟨-, heq⟩ | ⟨y, -, -, ⟨-, heq⟩ | ⟨-, heq⟩⟩
  · rw [heq]
  · rw [heq]
    exact List.prefix_append ..
  · rw [heq]

theorem endDrain_appends (i : FlowIdx) (s : State) : s.engine.replies <+: (endDrain i s).engine.replies := by
  rcases endDrain_cases i s with ⟨-, heq⟩ | ⟨e, -, -, -, heq⟩
  · rw [heq]
  · rw [heq]
    exact complete_appends (.flow i) .done [] { s with flows := upd s.flows i fun _ => none }

theorem flushRecords_append (l : List GroupRec) (s : State) :
    s.engine.replies <+: (l.foldl (fun s x => flushRecord x s) s).engine.replies := by
  induction l generalizing s with
  | nil => exact List.prefix_rfl
  | cons x l ih =>
    have hone : s.engine.replies <+: (flushRecord x s).engine.replies :=
      endDrain_appends x.entry (modFlow x.entry (fun e => { e with inQueue := e.inQueue - 1 }) (freeBuffers 1 s))
    exact hone.trans (ih (flushRecord x s))

/-- What follows an OK does not take it back. -/
theorem accepted_after (r : Request) (o : Octets) {s u t : State} (hu : u.engine.replies = s.engine.replies)
    (h : (reply r .ok o u).engine.replies <+: t.engine.replies) : accepted s t := by
  refine accepted_of_replies ⟨r.port, r.code, r.tag, .ok, o⟩ rfl (List.IsPrefix.trans ?_ h)
  simp [reply, hu]

theorem complete_accepted (r : Request) (o : Octets) (x : Target) (st : Status) (result : Octets) {s u : State}
    (hu : u.engine.replies = s.engine.replies) : accepted s (complete x st result (reply r .ok o u)) :=
  accepted_after r o hu (complete_appends x st result (reply r .ok o u))

theorem flushRecords_accepted (r : Request) (o : Octets) (l : List GroupRec) {s u : State}
    (hu : u.engine.replies = s.engine.replies) :
    accepted s (l.foldl (fun s x => flushRecord x s) (reply r .ok o u)) :=
  accepted_after r o hu (flushRecords_append l (reply r .ok o u))

/-! ### Every command is refused or accepted -/

section
variable (r : Request) (s : State)

theorem doClaim_judged : refused r s (doClaim r s) ∨ accepted s (doClaim r s) := by
  unfold doClaim
  split
  · exact refuse_refused r s rfl
  · split
    · exact reply_accepted r _ rfl rfl
    · split
      · exact reply_accepted r _ rfl rfl
      · exact .inl ⟨.owned, _, rfl, fun h => absurd rfl h, rfl⟩

theorem doSetUnit_judged : refused r s (doSetUnit r s) ∨ accepted s (doSetUnit r s) := by
  unfold doSetUnit
  split
  · exact refuse_refused r s rfl
  · exact reply_accepted r _ rfl rfl

theorem doUnitReset_accepted : accepted s (doUnitReset r s) :=
  ⟨⟨r.port, r.code, r.tag, .ok, []⟩, rfl, .inr (by rw [doUnitReset_eq])⟩

theorem doLaneGet_judged : refused r s (doLaneGet r s) ∨ accepted s (doLaneGet r s) := by
  unfold doLaneGet
  split
  · exact refuse_refused r s rfl
  · exact reply_accepted r _ rfl rfl

theorem doLaneSet_judged : refused r s (doLaneSet r s) ∨ accepted s (doLaneSet r s) := by
  cases hq : fin? (r.arg 0) 7 with
  | none =>
    rw [doLaneSet, hq]
    exact refuse_refused r s rfl
  | some q =>
    have harg : r.arg 0 = q.val := by
      unfold fin? at hq
      split at hq
      · cases hq
        rfl
      · cases hq
    rw [doLaneSet_port q harg]
    split
    · exact refuse_refused r s rfl
    · split
      · exact refuse_refused r s rfl
      · split
        · exact refuse_refused r s rfl
        · exact .inr (accepted_after r [] (u := s) rfl (by rw [(laneSetCarried_frame r q _).2.2.2.2.2.2.2.2.2.1]))

theorem doLaneRestart_judged : refused r s (doLaneRestart r s) ∨ accepted s (doLaneRestart r s) := by
  unfold doLaneRestart
  split
  · exact refuse_refused r s rfl
  · split
    · exact refuse_refused r s rfl
    · exact .inr (accepted_after r [] (u := s) rfl (by simp))
    · exact .inr (accepted_after r [] (u := s) rfl (by simp))
    · exact .inr (accepted_after r [] (u := s) rfl (by simp))

theorem doAlignGet_judged : refused r s (doAlignGet r s) ∨ accepted s (doAlignGet r s) := by
  unfold doAlignGet
  split
  · exact reply_accepted r _ rfl rfl
  · split
    · exact reply_accepted r _ rfl rfl
    · exact refuse_refused r s rfl

theorem doAlignSet_judged : refused r s (doAlignSet r s) ∨ accepted s (doAlignSet r s) := by
  unfold doAlignSet
  split
  · exact refuse_refused r s rfl
  · split
    · exact refuse_refused r s rfl
    · exact reply_accepted r _ rfl rfl

theorem doAlignRejoin_judged : refused r s (doAlignRejoin r s) ∨ accepted s (doAlignRejoin r s) := by
  unfold doAlignRejoin
  split
  · exact refuse_refused r s rfl
  · split
    · exact .inr (accepted_after r [] (u := s) rfl (by simp))
    · exact refuse_refused r s rfl

theorem doFlowAdd_judged : refused r s (doFlowAdd r s) ∨ accepted s (doFlowAdd r s) := by
  unfold doFlowAdd
  split
  · exact refuse_refused r s rfl
  · split
    · exact refuse_refused r s (by split <;> rfl)
    · split
      · exact refuse_refused r s rfl
      · exact reply_accepted r _ rfl rfl

theorem doFlowModify_judged : refused r s (doFlowModify r s) ∨ accepted s (doFlowModify r s) := by
  unfold doFlowModify
  split
  · exact refuse_refused r s rfl
  · split
    · exact refuse_refused r s rfl
    · split
      · exact refuse_refused r s rfl
      · exact reply_accepted r _ rfl rfl

theorem beginDrain_judged (i : FlowIdx) : refused r s (beginDrain r i s) ∨ accepted s (beginDrain r i s) := by
  unfold beginDrain
  split
  · exact refuse_refused r s rfl
  · split
    · exact refuse_refused r s rfl
    · exact reply_accepted r _ rfl rfl

theorem doFlowRemove_judged : refused r s (doFlowRemove r s) ∨ accepted s (doFlowRemove r s) := by
  unfold doFlowRemove
  split
  · exact refuse_refused r s rfl
  · split
    · exact refuse_refused r s rfl
    · split
      · exact reply_accepted r _ rfl rfl
      · exact beginDrain_judged r s _

theorem doFlowGet_judged : refused r s (doFlowGet r s) ∨ accepted s (doFlowGet r s) := by
  unfold doFlowGet
  split
  · exact refuse_refused r s rfl
  · exact refuse_refused r s rfl
  · split
    · exact refuse_refused r s rfl
    · exact reply_accepted r _ rfl rfl

theorem doSchedWrite_judged : refused r s (doSchedWrite r s) ∨ accepted s (doSchedWrite r s) := by
  unfold doSchedWrite
  split
  · exact refuse_refused r s rfl
  · split
    · exact refuse_refused r s rfl
    · split
      · exact refuse_refused r s rfl
      · exact reply_accepted r _ rfl rfl

theorem doSchedRead_judged : refused r s (doSchedRead r s) ∨ accepted s (doSchedRead r s) := by
  unfold doSchedRead
  split
  · exact refuse_refused r s rfl
  · split
    · exact reply_accepted r _ rfl rfl
    · exact refuse_refused r s rfl

theorem doSchedSwap_judged : refused r s (doSchedSwap r s) ∨ accepted s (doSchedSwap r s) := by
  unfold doSchedSwap
  split
  · exact refuse_refused r s rfl
  · split
    · exact refuse_refused r s rfl
    · split
      · exact refuse_refused r s rfl
      · split
        · exact refuse_refused r s rfl
        · exact reply_accepted r _ rfl rfl

theorem doSchedCancel_judged : refused r s (doSchedCancel r s) ∨ accepted s (doSchedCancel r s) := by
  unfold doSchedCancel
  split
  · exact .inr (complete_accepted r _ _ _ _ rfl)
  · exact refuse_refused r s rfl

theorem doGroupSet_judged : refused r s (doGroupSet r s) ∨ accepted s (doGroupSet r s) := by
  unfold doGroupSet
  split
  · exact refuse_refused r s rfl
  · split
    · exact refuse_refused r s rfl
    · split
      · exact refuse_refused r s rfl
      · exact reply_accepted r _ rfl rfl

theorem doGroupGet_judged : refused r s (doGroupGet r s) ∨ accepted s (doGroupGet r s) := by
  unfold doGroupGet
  split
  · exact refuse_refused r s rfl
  · exact reply_accepted r _ rfl rfl

theorem doGroupFlush_judged : refused r s (doGroupFlush r s) ∨ accepted s (doGroupFlush r s) := by
  unfold doGroupFlush
  split
  · exact refuse_refused r s rfl
  · exact .inr (flushRecords_accepted r _ _ rfl)

theorem doCycleSet_judged : refused r s (doCycleSet r s) ∨ accepted s (doCycleSet r s) := by
  unfold doCycleSet
  split
  · exact refuse_refused r s rfl
  · split
    · exact refuse_refused r s rfl
    · dsimp only
      split
      · exact .inr (complete_accepted r _ _ _ _ rfl)
      · exact reply_accepted r _ rfl rfl

theorem doCycleArm_judged : refused r s (doCycleArm r s) ∨ accepted s (doCycleArm r s) := by
  unfold doCycleArm
  split
  · exact refuse_refused r s rfl
  · split
    · exact refuse_refused r s rfl
    · split
      · exact refuse_refused r s rfl
      · split
        · exact refuse_refused r s rfl
        · exact reply_accepted r _ rfl rfl

theorem doSnapTake_judged : refused r s (doSnapTake r s) ∨ accepted s (doSnapTake r s) := by
  unfold doSnapTake
  split
  · exact refuse_refused r s rfl
  · split
    · exact refuse_refused r s rfl
    · split
      · exact refuse_refused r s rfl
      · exact reply_accepted r _ rfl rfl

theorem doSnapRead_judged : refused r s (doSnapRead r s) ∨ accepted s (doSnapRead r s) := by
  unfold doSnapRead
  split
  · exact refuse_refused r s rfl
  · split
    · exact refuse_refused r s rfl
    · split
      · exact reply_accepted r _ rfl rfl
      · exact refuse_refused r s rfl

theorem doSnapDrop_judged : refused r s (doSnapDrop r s) ∨ accepted s (doSnapDrop r s) := by
  unfold doSnapDrop
  split
  · exact reply_accepted r _ rfl rfl
  · exact refuse_refused r s rfl

theorem doCountClear_judged : refused r s (doCountClear r s) ∨ accepted s (doCountClear r s) := by
  unfold doCountClear
  split
  · exact reply_accepted r _ rfl rfl
  · exact refuse_refused r s rfl

theorem doNoticeEnable_judged : refused r s (doNoticeEnable r s) ∨ accepted s (doNoticeEnable r s) := by
  unfold doNoticeEnable
  split
  · exact reply_accepted r _ rfl rfl
  · exact refuse_refused r s rfl

theorem carryOut_judged (c : Command) : refused r s (carryOut c r s) ∨ accepted s (carryOut c r s) := by
  cases c with
  | identify => exact reply_accepted r _ rfl rfl
  | claim => exact doClaim_judged r s
  | release => exact reply_accepted r _ rfl rfl
  | setUnit => exact doSetUnit_judged r s
  | unitReset => exact .inr (doUnitReset_accepted r s)
  | laneGet => exact doLaneGet_judged r s
  | laneSet => exact doLaneSet_judged r s
  | laneRestart => exact doLaneRestart_judged r s
  | alignGet => exact doAlignGet_judged r s
  | alignSet => exact doAlignSet_judged r s
  | alignRejoin => exact doAlignRejoin_judged r s
  | flowAdd => exact doFlowAdd_judged r s
  | flowModify => exact doFlowModify_judged r s
  | flowRemove => exact doFlowRemove_judged r s
  | flowGet => exact doFlowGet_judged r s
  | flowList => exact reply_accepted r _ rfl rfl
  | schedWrite => exact doSchedWrite_judged r s
  | schedRead => exact doSchedRead_judged r s
  | schedSwap => exact doSchedSwap_judged r s
  | schedCancel => exact doSchedCancel_judged r s
  | groupSet => exact doGroupSet_judged r s
  | groupGet => exact doGroupGet_judged r s
  | groupFlush => exact doGroupFlush_judged r s
  | cycleSet => exact doCycleSet_judged r s
  | cycleArm => exact doCycleArm_judged r s
  | cycleGet => exact reply_accepted r _ rfl rfl
  | snapTake => exact doSnapTake_judged r s
  | snapRead => exact doSnapRead_judged r s
  | snapDrop => exact doSnapDrop_judged r s
  | countClear => exact doCountClear_judged r s
  | noticeEnable => exact doNoticeEnable_judged r s
  | noticeGet => exact reply_accepted r _ rfl rfl

theorem checkRequest_judged : refused r s (checkRequest r s) ∨ accepted s (checkRequest r s) := by
  unfold checkRequest
  split
  · exact refuse_refused r s rfl
  · split
    · exact refuse_refused r s rfl
    · split
      · exact refuse_refused r s rfl
      · exact carryOut_judged r s _

end

/-- A first reply that is a refusal shows that nothing was accepted. -/
theorem not_accepted {s t : State} {x : Reply} {more : List Reply} (h : t.engine.replies = s.engine.replies ++ x :: more)
    (hx : x.status.refusal = true) : ¬accepted s t := by
  rintro ⟨y, hy, ⟨rest, hrest⟩ | honly⟩
  · rw [h, List.append_assoc] at hrest
    obtain ⟨rfl, -⟩ := List.cons.inj (List.append_cancel_left hrest)
    exact Bool.false_ne_true (hy.symm.trans hx)
  · rw [h] at honly
    have hmem : x ∈ [y] := honly ▸ List.mem_append_cons_self
    obtain rfl := List.mem_singleton.mp hmem
    exact Bool.false_ne_true (hy.symm.trans hx)

/-- Settles O50: what is not accepted has joined the reply queue alone. -/
theorem refusedRequestChangesOnlyTheLease : Obligations.RefusedRequestChangesOnlyTheLease := by
  intro s t r rest x more hreq hrep hheld ht hreplies hx
  have htake : t = checkRequest r (leaseRenewed r.port (requesting rest s)) := by
    rw [exec, execRequestTake, takeRequest_ready hreq hrep hheld] at ht
    cases ht
    rw [handle, renewLease_eq_leaseRenewed]
  have hjudged := checkRequest_judged r (leaseRenewed r.port (requesting rest s))
  rw [← htake] at hjudged
  obtain ⟨st, o, -, ho, heq⟩ :=
    hjudged.resolve_right (not_accepted (s := leaseRenewed r.port (requesting rest s)) hreplies hx)
  rw [heq] at hreplies
  obtain ⟨hhead, htail⟩ := List.cons.inj (List.append_cancel_left hreplies)
  subst hhead htail heq
  exact ⟨rfl, rfl, rfl, rfl, ho, rfl⟩

end Sys2Proof.Machine
end

section
/-! PROOF. GROUP_FLUSH (R101, R119): the records leave head first, and each ended drain is reported in its turn. -/

-- Checked one after another, as the tests are: the theorems of a section all at once take a thread each.
set_option Elab.async false

namespace Sys2Proof.Machine

/-- The queue holds all that an entry in DRAINING still has queued. -/
def drainsWith (q : List GroupRec) (v : Vector (Option FlowEntry) 256) (i : FlowIdx) : Bool :=
  match v[i] with
  | some f => f.draining && f.inQueue == naming i q
  | none => false

/-- The entries whose drain ends with the queue, in the order in which it ends. -/
def endedBy (q : List GroupRec) (v : Vector (Option FlowEntry) 256) : List FlowIdx :=
  (byLastRecord q).filter (drainsWith q v)

/-- The Flow Table once the records of the queue have left it. -/
def flowsWithout (q : List GroupRec) (v : Vector (Option FlowEntry) 256) : Vector (Option FlowEntry) 256 :=
  Vector.ofFn fun i : FlowIdx =>
    if i ∈ endedBy q v then none else (v[i]).map fun f => { f with inQueue := f.inQueue - naming i q }

theorem naming_cons (x : GroupRec) (q : List GroupRec) (i : FlowIdx) :
    naming i (x :: q) = naming i q + if x.entry = i then 1 else 0 := by
  simp [naming, List.countP_cons]

theorem naming_pos {q : List GroupRec} {i : FlowIdx} : 0 < naming i q ↔ ∃ r ∈ q, r.entry = i := by
  simp [naming, List.countP_pos_iff]

theorem drainsWith_iff {q : List GroupRec} {v : Vector (Option FlowEntry) 256} {i : FlowIdx} :
    drainsWith q v i = true ↔ ∃ f, v[i] = some f ∧ f.draining = true ∧ f.inQueue = naming i q := by
  unfold drainsWith
  cases v[i] <;> simp

theorem mem_byLastRecord {q : List GroupRec} {i : FlowIdx} : i ∈ byLastRecord q ↔ ∃ r ∈ q, r.entry = i := by
  induction q with
  | nil => simp [byLastRecord]
  | cons x q ih =>
    unfold byLastRecord
    split
    · next h =>
      obtain ⟨y, hy, he⟩ := List.any_eq_true.mp h
      rw [ih]
      refine ⟨fun ⟨r, hr, hi⟩ => ⟨r, List.mem_cons_of_mem x hr, hi⟩, fun ⟨r, hr, hi⟩ => ?_⟩
      rcases List.mem_cons.mp hr with rfl | hr
      · exact ⟨y, hy, (beq_iff_eq.mp he).trans hi⟩
      · exact ⟨r, hr, hi⟩
    · simp [ih, eq_comm]

theorem mem_endedBy {q : List GroupRec} {v : Vector (Option FlowEntry) 256} {i : FlowIdx} :
    i ∈ endedBy q v ↔ (∃ r ∈ q, r.entry = i) ∧ drainsWith q v i = true := by
  rw [endedBy, List.mem_filter, mem_byLastRecord]

/-- The entry's queued cells cover the queue's records of it. -/
def covers (q : List GroupRec) (v : Vector (Option FlowEntry) 256) : Prop :=
  ∀ (i : FlowIdx) (f : FlowEntry), v[i] = some f → f.draining = true → naming i q ≤ f.inQueue

/-! ### One record -/

/-- One record counted out of its entry. -/
def FlowEntry.less (f : FlowEntry) : FlowEntry := { f with inQueue := f.inQueue - 1 }

theorem flushRecord_ends {x : GroupRec} {s : State} {f : FlowEntry} {o : Operation} (hf : s.flows[x.entry] = some f)
    (hd : f.draining = true) (hq : f.inQueue = 1) (ho : onlyOperation s (.flow x.entry) o) :
    flushRecord x s =
      reported o .done [] { s with free := s.free + 1, flows := upd s.flows x.entry fun _ => none } := by
  have hless : (modFlow x.entry FlowEntry.less (freeBuffers 1 s)).flows[x.entry] = some f.less := by
    simp only [modFlow_frame, freeBuffers_frame]
    rw [upd_at, hf]
    rfl
  have hend := endDrain_ends (s := modFlow x.entry FlowEntry.less (freeBuffers 1 s)) (o := o) hless hd
    (by rw [FlowEntry.less, hq]) ho
  have hflows : upd (upd s.flows x.entry (Option.map FlowEntry.less)) x.entry (fun _ => none) =
      upd s.flows x.entry fun _ => none := upd_upd ..
  refine hend.trans ?_
  rw [← hflows]
  rfl

theorem flushRecord_leaves {x : GroupRec} {s : State}
    (h : ∀ f, s.flows[x.entry] = some f → f.draining = true → 2 ≤ f.inQueue) :
    flushRecord x s =
      { s with free := s.free + 1, flows := upd s.flows x.entry (Option.map FlowEntry.less) } := by
  refine endDrain_goes_on (s := modFlow x.entry FlowEntry.less (freeBuffers 1 s)) fun e he hd => ?_
  simp only [modFlow_frame, freeBuffers_frame] at he
  rw [upd_at] at he
  obtain ⟨f, hf, rfl⟩ := Option.map_eq_some_iff.mp he
  have h2 := h f hf hd
  show f.inQueue - 1 ≠ 0
  omega

/-! ### What the rest of the queue finds -/

section
variable {x : GroupRec} {q : List GroupRec} {v : Vector (Option FlowEntry) 256}

theorem naming_other {i : FlowIdx} (h : i ≠ x.entry) : naming i (x :: q) = naming i q := by
  rw [naming_cons, if_neg h.symm]
  rfl

theorem naming_self : naming x.entry (x :: q) = naming x.entry q + 1 := by rw [naming_cons, if_pos rfl]

/-- A place other than the record's is seen by the rest of the queue as by the whole. -/
theorem drainsWith_other {i : FlowIdx} (f : Option FlowEntry → Option FlowEntry) (h : i ≠ x.entry) :
    drainsWith q (upd v x.entry f) i = drainsWith (x :: q) v i := by
  unfold drainsWith
  rw [upd_get, if_neg h, naming_other h]

theorem covers_less (h : covers (x :: q) v) : covers q (upd v x.entry (Option.map FlowEntry.less)) := by
  intro i f hf hd
  by_cases e : i = x.entry
  · subst e
    rw [upd_at] at hf
    obtain ⟨y, hy, rfl⟩ := Option.map_eq_some_iff.mp hf
    have hy' := h x.entry y hy hd
    rw [naming_self] at hy'
    show _ ≤ y.inQueue - 1
    omega
  · rw [upd_get, if_neg e] at hf
    rw [← naming_other e]
    exact h i f hf hd

theorem covers_none (h : covers (x :: q) v) : covers q (upd v x.entry fun _ => none) := by
  intro i f hf hd
  by_cases e : i = x.entry
  · subst e
    rw [upd_at] at hf
    cases hf
  · rw [upd_get, if_neg e] at hf
    rw [← naming_other e]
    exact h i f hf hd

/-- Where the record's entry goes on, the rest of the queue decides what ends. -/
theorem endedBy_goes_on (h : ∀ f, v[x.entry] = some f → f.draining = true → 2 ≤ f.inQueue) :
    endedBy (x :: q) v = endedBy q (upd v x.entry (Option.map FlowEntry.less)) := by
  have hself : (∃ r ∈ q, r.entry = x.entry) →
      drainsWith q (upd v x.entry (Option.map FlowEntry.less)) x.entry = drainsWith (x :: q) v x.entry := fun _ => by
    unfold drainsWith
    rw [upd_at, naming_self]
    cases hf : v[x.entry] with
    | none => rfl
    | some f =>
      show (f.draining && f.inQueue - 1 == naming x.entry q) = (f.draining && f.inQueue == naming x.entry q + 1)
      by_cases hd : f.draining = true
      · have h2 := h f hf hd
        rw [hd, Bool.true_and, Bool.true_and, Bool.eq_iff_iff, beq_iff_eq, beq_iff_eq]
        omega
      · rw [Bool.eq_false_iff.mpr hd]
        rfl
  have hrest : (byLastRecord q).filter (drainsWith (x :: q) v) =
      (byLastRecord q).filter (drainsWith q (upd v x.entry (Option.map FlowEntry.less))) := by
    refine List.filter_congr fun i hi => ?_
    by_cases e : i = x.entry
    · subst e
      exact (hself (mem_byLastRecord.mp hi)).symm
    · exact (drainsWith_other _ e).symm
  unfold endedBy
  conv_lhs => unfold byLastRecord
  split
  · exact hrest
  · next hlast =>
    have hnot : ¬drainsWith (x :: q) v x.entry = true := fun hd => by
      obtain ⟨f, hf, hdr, hq⟩ := drainsWith_iff.mp hd
      have h2 := h f hf hdr
      rw [naming_self] at hq
      have hpos : 0 < naming x.entry q := by omega
      obtain ⟨r, hr, he⟩ := naming_pos.mp hpos
      exact hlast (List.any_eq_true.mpr ⟨r, hr, beq_iff_eq.mpr he⟩)
    rw [List.filter_cons_of_neg hnot, hrest]

/-- Where the record is the last of its entry's drain, that drain ends first. -/
theorem endedBy_ends {f : FlowEntry} (hc : covers (x :: q) v) (hf : v[x.entry] = some f) (hd : f.draining = true)
    (hq : f.inQueue = 1) :
    endedBy (x :: q) v = x.entry :: endedBy q (upd v x.entry fun _ => none) ∧ naming x.entry q = 0 := by
  have hzero : naming x.entry q = 0 := by
    have hle := hc x.entry f hf hd
    rw [naming_self] at hle
    omega
  have hno : ∀ r ∈ q, r.entry ≠ x.entry := fun r hr e =>
    absurd (naming_pos.mpr ⟨r, hr, e⟩) (by omega)
  refine ⟨?_, hzero⟩
  unfold endedBy
  conv_lhs => unfold byLastRecord
  rw [if_neg fun h => by
    obtain ⟨r, hr, e⟩ := List.any_eq_true.mp h
    exact hno r hr (beq_iff_eq.mp e)]
  have hends : drainsWith (x :: q) v x.entry = true :=
    drainsWith_iff.mpr ⟨f, hf, hd, by rw [naming_self, hzero, hq]⟩
  rw [List.filter_cons_of_pos hends]
  refine congrArg (x.entry :: ·) (List.filter_congr fun i hi => ?_)
  obtain ⟨r, hr, e⟩ := mem_byLastRecord.mp hi
  exact (drainsWith_other _ fun h => hno r hr (e.trans h)).symm

theorem flowsWithout_goes_on
    (h : ∀ f, v[x.entry] = some f → f.draining = true → 2 ≤ f.inQueue) :
    flowsWithout q (upd v x.entry (Option.map FlowEntry.less)) = flowsWithout (x :: q) v := by
  unfold flowsWithout
  rw [← endedBy_goes_on h]
  refine congrArg Vector.ofFn (funext fun i => ?_)
  split
  · rfl
  · by_cases e : i = x.entry
    · subst e
      rw [upd_at, naming_self, Option.map_map]
      refine congrArg (Option.map · v[x.entry]) (funext fun y => ?_)
      simp only [Function.comp, FlowEntry.less, Nat.sub_sub, Nat.add_comm 1]
    · rw [upd_get, if_neg e, naming_other e]

theorem flowsWithout_ends {f : FlowEntry} (hc : covers (x :: q) v) (hf : v[x.entry] = some f) (hd : f.draining = true)
    (hq : f.inQueue = 1) : flowsWithout q (upd v x.entry fun _ => none) = flowsWithout (x :: q) v := by
  unfold flowsWithout
  rw [(endedBy_ends hc hf hd hq).1]
  refine congrArg Vector.ofFn (funext fun i => ?_)
  by_cases e : i = x.entry
  · subst e
    rw [upd_at, if_pos (List.mem_cons_self)]
    split <;> rfl
  · rw [upd_get, if_neg e, naming_other e]
    simp only [List.mem_cons, e, false_or]

end

/-! ### The whole queue -/

/-- The state once the records of a queue have left it, but for the ends of drains. -/
def recordsLeft (q : List GroupRec) (s : State) : State :=
  { s with free := s.free + q.length, flows := flowsWithout q s.flows }

/-- The end of an operation is reported in the engine alone. -/
theorem reported_moves (o : Operation) (st : Status) (result : Octets) (s : State) (n : Nat)
    (v : Vector (Option FlowEntry) 256) :
    { reported o st result s with free := n, flows := v } = reported o st result { s with free := n, flows := v } := by
  unfold reported
  split <;> rfl

/-- A report leaves the other operations in the in-flight table. -/
theorem onlyOperation_reported {s : State} {t : Target} {o x : Operation} (st : Status) (result : Octets)
    (h : onlyOperation s t o) (hne : o ≠ x) : onlyOperation (reported x st result s) t o := by
  obtain ⟨hmem, htarget, honly⟩ := h
  have herase : (reported x st result s).engine.inFlight = s.engine.inFlight.erase x := by
    unfold reported
    split <;> rfl
  unfold onlyOperation
  rw [herase]
  exact ⟨(List.mem_erase_of_ne hne).mpr hmem, htarget, fun y hy => honly y (List.mem_of_mem_erase hy)⟩

/-- The records of a queue leave head first: their buffers, their counts, and the ended drains in their order. -/
theorem flushRecords_eq (q : List GroupRec) (operation : FlowIdx → Operation) (s : State) (hc : covers q s.flows)
    (ho : ∀ i ∈ endedBy q s.flows, onlyOperation s (.flow i) (operation i)) :
    q.foldl (fun s x => flushRecord x s) s =
      (endedBy q s.flows).foldl (fun t i => reported (operation i) .done [] t) (recordsLeft q s) := by
  induction q generalizing s with
  | nil =>
    have hflows : flowsWithout [] s.flows = s.flows := by
      refine Vector.ext fun i hi => ?_
      have hnil : endedBy [] s.flows = [] := rfl
      simp [flowsWithout, hnil, naming]
    show s = recordsLeft [] s
    rw [recordsLeft, hflows]
    rfl
  | cons x q ih =>
    rw [List.foldl_cons]
    by_cases hlast : ∃ f, s.flows[x.entry] = some f ∧ f.draining = true ∧ f.inQueue = 1
    · obtain ⟨f, hf, hd, hq⟩ := hlast
      obtain ⟨hended, -⟩ := endedBy_ends hc hf hd hq
      have hop := ho x.entry (hended ▸ List.mem_cons_self)
      have hflows : (reported (operation x.entry) .done []
          { s with free := s.free + 1, flows := upd s.flows x.entry fun _ => none }).flows =
          upd s.flows x.entry fun _ => none := by
        unfold reported
        split <;> rfl
      rw [flushRecord_ends hf hd hq hop, ih _ (by rw [hflows]; exact covers_none hc) (fun i hi => ?later), hflows, hended,
        List.foldl_cons]
      case later =>
        rw [hflows] at hi
        have hother := ho i (hended ▸ List.mem_cons_of_mem _ hi)
        refine onlyOperation_reported .done [] (s := { s with free := s.free + 1, flows := upd s.flows x.entry fun _ => none })
          hother fun e => ?_
        have htarget : Target.flow i = Target.flow x.entry := by rw [← hother.2.1, e, hop.2.1]
        cases htarget
        have hnone := (mem_endedBy.mp hi).2
        obtain ⟨y, hy, -⟩ := drainsWith_iff.mp hnone
        rw [upd_at] at hy
        cases hy
      refine congrArg (List.foldl _ · _) ?_
      have hfree : (reported (operation x.entry) .done []
          { s with free := s.free + 1, flows := upd s.flows x.entry fun _ => none }).free = s.free + 1 := by
        unfold reported
        split <;> rfl
      rw [recordsLeft, hflows, hfree, reported_moves, flowsWithout_ends hc hf hd hq, Nat.add_assoc, Nat.add_comm 1]
      rfl
    · have hgoes : ∀ f, s.flows[x.entry] = some f → f.draining = true → 2 ≤ f.inQueue := fun f hf hd => by
        have hle := hc x.entry f hf hd
        rw [naming_self] at hle
        have hne : f.inQueue ≠ 1 := fun e => hlast ⟨f, hf, hd, e⟩
        omega
      have hended := endedBy_goes_on (q := q) hgoes
      rw [flushRecord_leaves hgoes,
        ih { s with free := s.free + 1, flows := upd s.flows x.entry (Option.map FlowEntry.less) } (covers_less hc)
           (fun i hi => ho i (hended ▸ hi)), hended]
      refine congrArg (List.foldl _ · _) ?_
      unfold recordsLeft
      dsimp only
      rw [flowsWithout_goes_on hgoes, List.length_cons, Nat.add_assoc, Nat.add_comm 1]

/-! ### GROUP_FLUSH (R119) -/

section
variable {s : State} {p : Port} (tag : Byte)

theorem exec_groupFlush (h : takesAtOnce s p) (o : ownedBy s p) (g : Byte) :
    exec (.groupFlush p tag [g]) s =
      .next (doGroupFlush { port := p, code := 0x36, tag := tag, args := [g] } (leaseRenewed p s)) :=
  congrArg Host.Outcome.next (submit_carriesOut .groupFlush tag h rfl fun _ => o)

theorem doGroupFlush_noGroup {g : Byte} (h : 15 < g.toNat) :
    doGroupFlush { port := p, code := 0x36, tag := tag, args := [g] } s = answered p 0x36 tag .badArgument [] s := by
  rw [doGroupFlush, Request.arg_zero, fin?_eq_none (by omega)]
  rfl

/-- The part once the records of a group have left it, with the OK that says how many. -/
def groupEmptied (p : Port) (tag : Byte) (g : Group) (v : Vector (Option FlowEntry) 256) (s : State) : State :=
  answered p 0x36 tag .ok (o16 s.groups[g].queue.length)
    { s with
      free := s.free + s.groups[g].queue.length
      groups := upd s.groups g fun q => { q with queue := [] }
      flows := v
      counters := { s.counters with
        groups := upd s.counters.groups g fun k =>
          { k with flushed := plus k.flushed s.groups[g].queue.length } } }

/-- A flush is the leaving of every record, then the ends of the drains that it ends. -/
theorem doGroupFlush_eq (g : Group) (operation : FlowIdx → Operation) (hc : covers s.groups[g].queue s.flows)
    (ho : ∀ i ∈ endedBy s.groups[g].queue s.flows, onlyOperation s (.flow i) (operation i)) :
    doGroupFlush { port := p, code := 0x36, tag := tag, args := [BitVec.ofNat 8 g.val] } s =
      (endedBy s.groups[g].queue s.flows).foldl (fun t i => reported (operation i) .done [] t)
        (groupEmptied p tag g (flowsWithout s.groups[g].queue s.flows) s) := by
  have hg : (BitVec.ofNat 8 g.val).toNat = g.val := toNat_ofNat_octet (by omega)
  rw [doGroupFlush, Request.arg_zero, hg, fin?_val]
  exact flushRecords_eq s.groups[g].queue operation
    (answered p 0x36 tag .ok (o16 s.groups[g].queue.length)
      (countGroup g (fun k => { k with flushed := plus k.flushed s.groups[g].queue.length })
        (modGroup g (fun x => { x with queue := [] }) s))) hc ho

end

theorem recordsIn_eq (s : State) (g : Group) (i : FlowIdx) : recordsIn s g i = naming i s.groups[g].queue := rfl

theorem flushEndsDrain_eq (s : State) (g : Group) : flushEndsDrain s g = drainsWith s.groups[g].queue s.flows := rfl

/-- A queue of ACTIVE entries' records ends no drain. -/
theorem endedBy_active {q : List GroupRec} {v : Vector (Option FlowEntry) 256}
    (h : ∀ r ∈ q, ∃ e, v[r.entry] = some e ∧ e.draining = false) : endedBy q v = [] := by
  refine List.filter_eq_nil_iff.mpr fun i hi hd => ?_
  obtain ⟨r, hr, rfl⟩ := mem_byLastRecord.mp hi
  obtain ⟨e, he, hactive⟩ := h r hr
  obtain ⟨f, hf, hdr, -⟩ := drainsWith_iff.mp hd
  cases he.symm.trans hf
  exact Bool.false_ne_true (hactive.symm.trans hdr)

/-- An ACTIVE entry's records, however many, are covered. -/
theorem covers_active {q : List GroupRec} {v : Vector (Option FlowEntry) 256}
    (h : ∀ r ∈ q, ∃ e, v[r.entry] = some e ∧ e.draining = false) : covers q v := by
  intro i f hf hd
  refine Nat.le_of_not_lt fun hlt => ?_
  obtain ⟨r, hr, rfl⟩ := naming_pos.mp (Nat.lt_of_le_of_lt (Nat.zero_le _) hlt)
  obtain ⟨e, he, hactive⟩ := h r hr
  cases he.symm.trans hf
  exact Bool.false_ne_true (hactive.symm.trans hd)

/-- The records of one entry alone. -/
theorem naming_all {q : List GroupRec} {i : FlowIdx} (h : ∀ r ∈ q, r.entry = i) : naming i q = q.length :=
  List.countP_eq_length.mpr fun r hr => beq_iff_eq.mpr (h r hr)

theorem naming_none {q : List GroupRec} {i j : FlowIdx} (h : ∀ r ∈ q, r.entry = i) (hj : j ≠ i) : naming j q = 0 :=
  List.countP_eq_zero.mpr fun r hr e => hj ((beq_iff_eq.mp e).symm.trans (h r hr))

theorem byLastRecord_one {q : List GroupRec} {i : FlowIdx} (hne : q ≠ []) (h : ∀ r ∈ q, r.entry = i) :
    byLastRecord q = [i] := by
  induction q with
  | nil => exact absurd rfl hne
  | cons x q ih =>
    have hx : x.entry = i := h x List.mem_cons_self
    have hq : ∀ r ∈ q, r.entry = i := fun r hr => h r (List.mem_cons_of_mem _ hr)
    unfold byLastRecord
    cases q with
    | nil => simp [byLastRecord, hx]
    | cons y q =>
      have hany : (y :: q).any (fun r => r.entry == x.entry) = true :=
        List.any_eq_true.mpr ⟨y, List.mem_cons_self, beq_iff_eq.mpr ((hq y List.mem_cons_self).trans hx.symm)⟩
      rw [if_pos hany, ih (List.cons_ne_nil _ _) hq]

/-- Settles O43: the three forms are the leaving of the records, with no drain ended, one, or those of any mix. -/
theorem groupFlushEmptiesTheQueue : Obligations.GroupFlushEmptiesTheQueue := by
  refine ⟨fun s p tag h o => ⟨fun g hg => ?noGroup, fun g hactive => ?active⟩,
    fun s p tag g i e x h o hne hall hi hd hq hx => ?one, fun s p tag g operation h o hc ended hended hop => ?mix⟩
  case noGroup => rw [exec_groupFlush tag h o, doGroupFlush_noGroup tag hg]
  case active =>
    have hnone := endedBy_active hactive
    have heq := doGroupFlush_eq (s := leaseRenewed p s) (p := p) tag g (fun _ => ⟨0, 0, 0, .follower⟩)
      (covers_active hactive)
      (by rw [leaseRenewed_groups, leaseRenewed_flows, hnone]; exact fun i hi => absurd hi List.not_mem_nil)
    rw [exec_groupFlush tag h o, heq, leaseRenewed_groups, leaseRenewed_flows, hnone]
    refine congrArg (fun v => Host.Outcome.next (groupEmptied p tag g v (leaseRenewed p s)))
      (congrArg Vector.ofFn (funext fun j => ?_))
    rw [hnone, if_neg List.not_mem_nil]
    rfl
  case one =>
    have hcovers : covers s.groups[g].queue s.flows := fun j f hf hdr => by
      by_cases hj : j = i
      · subst hj
        cases hi.symm.trans hf
        rw [naming_all hall, hq]
      · rw [naming_none hall hj]
        exact Nat.zero_le _
    have hends : drainsWith s.groups[g].queue s.flows i = true :=
      drainsWith_iff.mpr ⟨e, hi, hd, by rw [hq, naming_all hall]⟩
    have hended : endedBy s.groups[g].queue s.flows = [i] := by
      rw [endedBy, byLastRecord_one hne hall, List.filter_cons_of_pos hends, List.filter_nil]
    have heq := doGroupFlush_eq (s := leaseRenewed p s) (p := p) tag g (fun _ => x) hcovers
      (by rw [leaseRenewed_groups, leaseRenewed_flows, hended]; exact fun j hj => List.mem_singleton.mp hj ▸ hx)
    rw [exec_groupFlush tag h o, heq, leaseRenewed_groups, leaseRenewed_flows, hended]
    refine congrArg (fun v => Host.Outcome.next (reported x .done [] (groupEmptied p tag g v (leaseRenewed p s))))
      (Vector.ext fun j hj => ?_)
    have hplace := upd_get s.flows i ⟨j, hj⟩ fun _ => none
    rw [flowsWithout, Vector.getElem_ofFn, hended]
    refine Eq.trans ?_ hplace.symm
    by_cases e : (⟨j, hj⟩ : FlowIdx) = i
    · rw [if_pos (List.mem_singleton.mpr e), if_pos e]
    · rw [if_neg (mt List.mem_singleton.mp e), if_neg e, naming_none hall e]
      exact Option.map_id'
  case mix =>
    subst hended
    have heq := doGroupFlush_eq (s := leaseRenewed p s) (p := p) tag g operation hc hop
    rw [exec_groupFlush tag h o, heq]
    rfl

end Sys2Proof.Machine
end

section
/-! PROOF. The forms of received cells (R3, R4), and the layouts of the cells that the part builds (R5 to R7, R10, R12). -/

-- Checked one after another, as the tests are: the theorems of a section all at once take a thread each.
set_option Elab.async false

namespace Sys2Proof.Machine

/-! ### The conditions on a received cell, octet by octet (R3, R4) -/

/-- An octet is a constant when its number is. -/
theorem octet_eq_iff {a b : Byte} : a = b ↔ a.toNat = b.toNat := BitVec.toNat_inj.symm

/-- X is bit 3 of octet 0. -/
theorem cellX_iff (c : Octets) : cellX c = true ↔ (octet c 0).toNat / 8 % 2 = 1 := by
  simp [cellX, BitVec.getLsbD, Nat.testBit_eq_decide_div_mod_eq]

theorem lane?_isSome (p : Port) : p.lane?.isSome = true ↔ p.val ≤ 5 := by
  unfold Port.lane?
  split
  · simp
    omega
  · simp
    omega

/-- The octets of the header after the first are zero but for its check. -/
theorem octets_zero_iff (c : Octets) :
    (∀ i, 1 ≤ i → i ≤ 6 → octet c i = 0) ↔
      octet c 1 = 0 ∧ octet c 2 = 0 ∧ octet c 3 = 0 ∧ octet c 4 = 0 ∧ octet c 5 = 0 ∧ octet c 6 = 0 := by
  refine ⟨fun h => ⟨h 1 (by decide) (by decide), h 2 (by decide) (by decide), h 3 (by decide) (by decide),
    h 4 (by decide) (by decide), h 5 (by decide) (by decide), h 6 (by decide) (by decide)⟩,
    fun ⟨h1, h2, h3, h4, h5, h6⟩ i hlow hhigh => ?_⟩
  interval_cases i <;> assumption

theorem octets_zero_to_4_iff (c : Octets) :
    (∀ i, 1 ≤ i → i ≤ 4 → octet c i = 0) ↔ octet c 1 = 0 ∧ octet c 2 = 0 ∧ octet c 3 = 0 ∧ octet c 4 = 0 := by
  refine ⟨fun h => ⟨h 1 (by decide) (by decide), h 2 (by decide) (by decide), h 3 (by decide) (by decide),
    h 4 (by decide) (by decide)⟩, fun ⟨h1, h2, h3, h4⟩ i hlow hhigh => ?_⟩
  interval_cases i <;> assumption

theorem pair_lt_iff (c : Octets) (i k : Nat) : pair c i < k * 256 ↔ (octet c i).toNat < k := by
  have := (octet c (i + 1)).isLt
  unfold pair
  omega

theorem pair_zero_iff (c : Octets) (i : Nat) : pair c i = 0 ↔ octet c i = 0 ∧ octet c (i + 1) = 0 := by
  rw [octet_eq_iff, octet_eq_iff]
  simp [pair]

theorem reservedZero_iff (c : Octets) :
    reservedZero c = true ↔ (octet c 0).toNat % 8 = 0 ∧ (octet c 1).toNat ≤ 3 ∧ (octet c 3).toNat ≤ 15 := by
  simp only [reservedZero, Bool.and_eq_true, beq_iff_eq, decide_eq_true_eq]
  rw [pair_lt_iff c 1 4, pair_lt_iff c 3 16]
  omega

theorem plainHeader_iff (c : Octets) :
    plainHeader c = true ↔
      ¬cellX c = true ∧ octet c 1 = 0 ∧ octet c 2 = 0 ∧ octet c 3 = 0 ∧ octet c 4 = 0 ∧ octet c 5 = 0 ∧ octet c 6 = 0 := by
  have hlen : (octet c 5).toNat = 0 ↔ octet c 5 = 0 := (octet_eq_iff (b := 0)).symm
  simp only [plainHeader, cellLength, cellUnit, Bool.and_eq_true, beq_iff_eq, Bool.not_eq_true', Bool.not_eq_true,
    pair_zero_iff, hlen, and_assoc]

/-- The conditions of each kind (R3, R4). -/
theorem formatValid_iff (p : Port) (c : Octets) :
    formatValid p c = true ↔
      reservedZero c = true ∧
      ((cellKind c = 0 ∧ plainHeader c = true) ∨ (cellKind c = 1 ∧ p.val ≤ 5 ∧ plainHeader c = true) ∨
       (cellKind c = 2 ∧ p.val ≤ 5 ∧ octet c 6 = 0 ∧ (octet c 5).toNat ≤ (if cellX c then 48 else 56)) ∨
       (cellKind c = 3 ∧ ¬cellX c = true ∧ pair c 1 = 0 ∧ pair c 3 = 0 ∧ (octet c 10).toNat ≤ 52 ∧ octet c 11 = 0 ∧
        (octet c 5).toNat = 4 + (octet c 10).toNat)) := by
  unfold formatValid
  rw [Bool.and_eq_true]
  refine and_congr_right fun _ => ?_
  simp only [kindFill, kindMark, kindData, kindMreq, cellLength, cellUnit, mreqArgLength]
  generalize cellKind c = k
  by_cases h0 : k = 0
  · simp [h0]
  · by_cases h1 : k = 1
    · simp [h1, lane?_isSome]
    · by_cases h2 : k = 2
      · simp only [h2, OfNat.ofNat_ne_zero, OfNat.ofNat_ne_one, if_false, if_true, Bool.and_eq_true, lane?_isSome,
          beq_iff_eq, and_assoc]
        simp only [false_and, true_and, false_or, Nat.reduceEqDiff, or_false]
        exact and_congr_right fun _ => and_congr_right fun _ => decide_eq_true_iff
      · by_cases h3 : k = 3
        · have hlength (h10 : (octet c 10).toNat ≤ 52) (h5 : (octet c 5).toNat = 4 + (octet c 10).toNat) :
              4 ≤ (octet c 5).toNat ∧ (octet c 5).toNat ≤ 56 := by omega
          simp only [h3, Nat.reduceEqDiff, OfNat.ofNat_ne_zero, OfNat.ofNat_ne_one, if_false, if_true, Bool.and_eq_true,
            beq_iff_eq, Bool.not_eq_true', Bool.not_eq_true, false_and, true_and, false_or]
          constructor
          · rintro ⟨⟨⟨⟨⟨⟨⟨hx, h1⟩, h3⟩, -⟩, -⟩, h10⟩, h11⟩, h5⟩
            exact ⟨hx, h1, h3, of_decide_eq_true h10, h11, h5⟩
          · rintro ⟨hx, h1, h3, h10, h11, h5⟩
            obtain ⟨hlow, hhigh⟩ := hlength h10 h5
            exact ⟨⟨⟨⟨⟨⟨⟨hx, h1⟩, h3⟩, decide_eq_true hlow⟩, decide_eq_true hhigh⟩, decide_eq_true h10⟩, h11⟩, h5⟩
        · simp [h0, h1, h2, h3]

/-- Octet 0 of a cell whose three reserved bits are zero is its kind and X. -/
theorem octet_zero_iff {c : Octets} {k : Nat} (hk : k ≤ 3) (v : Bool) :
    octet c 0 = BitVec.ofNat 8 (16 * k + 8 * v.toNat) ↔
      (octet c 0).toNat % 8 = 0 ∧ cellKind c = k ∧ (cellX c = true ↔ v = true) := by
  have hx := cellX_iff c
  have h0 := (octet c 0).isLt
  have hv := Bool.toNat_le v
  rw [octet_eq_iff, BitVec.toNat_ofNat, Nat.mod_eq_of_lt (by omega), hx]
  unfold cellKind
  have hbit : (v = true) = (v.toNat = 1) := by cases v <;> simp
  rw [hbit]
  omega

/-- Settles O8: each row of R3 by its kind. -/
theorem formatConditionsByKind : Obligations.FormatConditionsByKind := by
  intro p c _
  rw [formatValid_iff, reservedZero_iff, octets_zero_iff, octets_zero_to_4_iff, plainHeader_iff]
  have hfill : octet c 0 = 0x00 ↔ _ := octet_zero_iff (k := 0) (by decide) false
  have hmark : octet c 0 = 0x10 ↔ _ := octet_zero_iff (k := 1) (by decide) false
  have hdata : octet c 0 = 0x20 ↔ _ := octet_zero_iff (k := 2) (by decide) false
  have hlong : octet c 0 = 0x28 ↔ _ := octet_zero_iff (k := 2) (by decide) true
  have hmreq : octet c 0 = 0x30 ↔ _ := octet_zero_iff (k := 3) (by decide) false
  have hzero (i : Nat) : octet c i = 0 → (octet c i).toNat ≤ 3 := fun h => by rw [h]; decide
  rw [hfill, hmark, hdata, hlong, hmreq]
  constructor
  · rintro ⟨⟨h8, h1, h3⟩, ⟨hk, hx, h⟩ | ⟨hk, hp, hx, h⟩ | ⟨hk, hp, h6, h5⟩ | ⟨hk, hx, h12, h34, h10, h11, h5⟩⟩
    · exact .inl ⟨⟨h8, hk, by simpa using hx⟩, h⟩
    · exact .inr (.inl ⟨hp, ⟨h8, hk, by simpa using hx⟩, h⟩)
    · refine .inr (.inr (.inl ⟨hp, h1, h3, h6, ?_⟩))
      by_cases hx : cellX c = true
      · exact .inr ⟨⟨h8, hk, by simpa using hx⟩, by rwa [if_pos hx] at h5⟩
      · exact .inl ⟨⟨h8, hk, by simpa using hx⟩, by rwa [if_neg hx] at h5⟩
    · rw [pair_zero_iff] at h12 h34
      exact .inr (.inr (.inr ⟨⟨h8, hk, by simpa using hx⟩, ⟨h12.1, h12.2, h34⟩, h10, h11, h5⟩))
  · rintro (⟨⟨h8, hk, hx⟩, h⟩ | ⟨hp, ⟨h8, hk, hx⟩, h⟩ | ⟨hp, h1, h3, h6, h⟩ | ⟨⟨h8, hk, hx⟩, ⟨h1, h2, h34⟩, h10, h11, h5⟩)
    · exact ⟨⟨h8, hzero 1 h.1, (hzero 3 h.2.2.1).trans (by decide)⟩, .inl ⟨hk, by simpa using hx, h⟩⟩
    · exact ⟨⟨h8, hzero 1 h.1, (hzero 3 h.2.2.1).trans (by decide)⟩, .inr (.inl ⟨hk, hp, by simpa using hx, h⟩)⟩
    · rcases h with ⟨⟨h8, hk, hx⟩, h5⟩ | ⟨⟨h8, hk, hx⟩, h5⟩
      · exact ⟨⟨h8, h1, h3⟩, .inr (.inr (.inl ⟨hk, hp, h6, by rwa [if_neg (by simpa using hx)]⟩))⟩
      · exact ⟨⟨h8, h1, h3⟩, .inr (.inr (.inl ⟨hk, hp, h6, by rwa [if_pos (by simpa using hx)]⟩))⟩
    · exact ⟨⟨h8, hzero 1 h1, (hzero 3 h34.1).trans (by decide)⟩,
        .inr (.inr (.inr ⟨hk, by simpa using hx, (pair_zero_iff c 1).mpr ⟨h1, h2⟩, (pair_zero_iff c 3).mpr h34, h10, h11, h5⟩))⟩

/-! ### The cells that the part builds -/

section
variable (kind : Nat) (x : Bool) (flow : FlowNum) (seq : Seq) (length : Nat) (unit : Byte) (body : Octets)

/-- The header of a built cell but for its check. -/
def builtHeader : Octets := [o8 (kind * 16 + (if x then 8 else 0))] ++ o16 flow.toNat ++ o16 seq.toNat ++ [o8 length, unit]

theorem buildCell_take : (buildCell kind x flow seq length unit body).take 7 = builtHeader kind x flow seq length unit := rfl

theorem buildCell_drop :
    (buildCell kind x flow seq length unit body).drop 8 = body ++ List.replicate (56 - body.length) 0 := rfl

theorem buildCell_length (h : body.length ≤ 56) : (buildCell kind x flow seq length unit body).length = 64 := by
  have hlen : (buildCell kind x flow seq length unit body).length = 8 + (body.length + (56 - body.length)) := by
    simp [buildCell, o16]
    omega
  omega

end

theorem replyOctets_layout (u : Byte) (r : Reply) (h : r.result.length ≤ 52) :
    (replyOctets u r).length = 64 ∧ headerValid (replyOctets u r) = true ∧
    (replyOctets u r).take 7 = [0x40, 0, 0, 0, 0, BitVec.ofNat 8 (4 + r.result.length), u] ∧
    (replyOctets u r).drop 8 =
      [r.code, r.tag, r.status.code, BitVec.ofNat 8 r.port.val] ++ r.result ++ List.replicate (52 - r.result.length) 0 := by
  refine ⟨buildCell_length _ _ _ _ _ _ _ ?_, replyOctets_valid u r, rfl, ?_⟩
  · simp
    omega
  · unfold replyOctets
    rw [buildCell_drop]
    congr 2
    simp

theorem noticeOctets_layout (u : Byte) (n : NoticeRec) (h : n.detail.length ≤ 6) :
    (noticeOctets u n).length = 64 ∧ headerValid (noticeOctets u n) = true ∧
    (noticeOctets u n).take 7 = [0x50, 0, 0, 0, 0, BitVec.ofNat 8 (8 + n.detail.length), u] ∧
    (noticeOctets u n).drop 8 =
      [n.kind.code, n.subject] ++ o16 n.occurrences ++ o32 n.firstCycle.toNat ++ n.detail ++
        List.replicate (48 - n.detail.length) 0 := by
  refine ⟨buildCell_length _ _ _ _ _ _ _ ?_, noticeOctets_valid u n, rfl, ?_⟩
  · simp [o16, o32]
    omega
  · unfold noticeOctets
    rw [buildCell_drop]
    congr 2
    simp [o16, o32]

/-! ### DATA cells (R6, R95, R96) -/

section
variable (f : FlowEntry) (y : CycleNum) (n : Slot) (r : GroupRec)

/-- A DATA cell without extension. -/
theorem dataOctets_plain (h : egressExt f.stamp y n r.origin r.cell = none) :
    (dataOctets f y n r).take 7 =
      [0x20] ++ o16 f.outflow.toNat ++ o16 (if f.renumber then f.egressSeq else r.cell.seq).toNat ++
        [BitVec.ofNat 8 r.cell.payload.length, 0] ∧
    (dataOctets f y n r).drop 8 = r.cell.payload ++ List.replicate (56 - r.cell.payload.length) 0 := by
  unfold dataOctets
  rw [h]
  exact ⟨rfl, rfl⟩

/-- A DATA cell with an extension of eight octets. -/
theorem dataOctets_extended {x : Octets} (h : egressExt f.stamp y n r.origin r.cell = some x) (hx : x.length = 8) :
    (dataOctets f y n r).take 7 =
      [0x28] ++ o16 f.outflow.toNat ++ o16 (if f.renumber then f.egressSeq else r.cell.seq).toNat ++
        [BitVec.ofNat 8 r.cell.payload.length, 0] ∧
    (dataOctets f y n r).drop 8 = x ++ r.cell.payload ++ List.replicate (48 - r.cell.payload.length) 0 := by
  unfold dataOctets
  rw [h]
  refine ⟨rfl, ?_⟩
  dsimp only
  rw [buildCell_drop]
  congr 2
  simp only [Option.getD_some, List.length_append, hx]
  omega

theorem writtenExt_length (o : Origin) : (writtenExt y n o).length = 8 := by
  cases o <;> simp [writtenExt, o16, o32]

/-- What the cell carries fits: an egress extension has eight octets and leaves room for the payload. -/
theorem egressExt_fits (hp : r.cell.payload.length ≤ (if r.cell.ext = none then 56 else 48))
    (hx : ∀ x, r.cell.ext = some x → x.length = 8) :
    ((egressExt f.stamp y n r.origin r.cell).getD [] ++ r.cell.payload).length ≤ 56 := by
  have hwhole : r.cell.payload.length ≤ 56 := by
    split at hp <;> omega
  unfold egressExt
  cases f.stamp with
  | keep =>
    cases hext : r.cell.ext with
    | none => simpa [hext] using hp
    | some x =>
      have h8 := hx x hext
      have hp' : r.cell.payload.length ≤ 48 := by simpa [hext] using hp
      simp [h8]
      omega
  | strip => simpa using hwhole
  | add =>
    dsimp only
    split
    · next hcan =>
      have hp' : r.cell.payload.length ≤ 48 := by
        rw [Bool.or_eq_true, decide_eq_true_eq] at hcan
        rcases hcan with hsome | hshort
        · have hne : r.cell.ext ≠ none := fun e => by simp [e] at hsome
          rwa [if_neg hne] at hp
        · exact hshort
      simp [writtenExt_length]
      omega
    · simpa using hwhole

end

/-- Settles O19: the layouts of the three kinds. -/
theorem egressCellLayouts : Obligations.EgressCellLayouts := by
  refine ⟨replyOctets_layout, noticeOctets_layout, fun f y n r seq hseq hp hx =>
    ⟨buildCell_length _ _ _ _ _ _ _ (egressExt_fits f y n r hp hx), dataOctets_valid f y n r, fun h => ?plain,
      fun x hk he => ?kept, fun ha hs => ?stamped⟩⟩
  all_goals subst hseq
  case plain =>
    refine dataOctets_plain f y n r ?_
    rcases h with h | ⟨hnone, h | h⟩
    · rw [h]
      rfl
    · rw [h]
      exact hnone
    · cases hst : f.stamp with
      | keep => exact hnone
      | strip => rfl
      | add => exact if_neg (by simp [hnone, h])
  case kept => exact dataOctets_extended f y n r (by rw [hk]; exact he) (hx x he)
  case stamped =>
    have hext : egressExt f.stamp y n r.origin r.cell = some (writtenExt y n r.origin) := by
      rw [ha]
      exact if_pos (by simp [hs])
    obtain ⟨htake, hdrop⟩ := dataOctets_extended f y n r hext (writtenExt_length y n r.origin)
    refine ⟨htake, hdrop.trans ?_⟩
    cases r.origin <;> rfl

end Sys2Proof.Machine
end

section
/-! PROOF. Loss of signal and the error budget (R25 to R27, R33). -/

-- Checked one after another, as the tests are: the theorems of a section all at once take a thread each.
set_option Elab.async false

namespace Sys2Proof.Machine

/-- What a receiver held when its port left UP does not matter: it begins anew (R33). -/
theorem leftUp_modRx {p : Port} {c : DownCause} {f : Receiver → Receiver} {s t : State} (h : leftUp p c (modRx p f s) t) :
    leftUp p c s t := by
  obtain ⟨hports, hcounted, hclanes, hcflows, hcgroups, hlane, hrest⟩ := h
  have hprofile : (modRx p f s).ports[p].profile = s.ports[p].profile := by simp
  refine ⟨hports.trans (upd_upd s.ports p (fun x => { x with rx := f x.rx }) _), hcounted, hclanes, hcflows, hcgroups, ?_, hrest⟩
  rw [hprofile] at hlane
  exact hlane

/-- A port leaves UP with the level that its receiver is given last (R27, R33). -/
theorem leaveUp_modRx {p : Port} (c : DownCause) (f : Receiver → Receiver) (s : State) :
    leftUp p c s (leaveUp p c (modRx p f s)) ∧
    (opensRecord s .laneDown (BitVec.ofNat 8 p.val) → opensRecord s .ownerLost 0xFF →
      (leaveUp p c (modRx p f s)).counters.unit = s.counters.unit ∧
      (leaveUp p c (modRx p f s)).notices.waiting =
        s.notices.waiting ++
        [openedRecord .laneDown (BitVec.ofNat 8 p.val) [c.code, o8 (f s.ports[p].rx).level] s.timer.cycle] ++
        (if s.engine.owner.map Ownership.port = some p then
          [openedRecord .ownerLost 0xFF [BitVec.ofNat 8 p.val, 0x02] s.timer.cycle]
         else [])) := by
  refine ⟨leftUp_modRx (leaveUp_leftUp p c _), fun hd ho => ?_⟩
  have hd' : opensRecord (modRx p f s) .laneDown (BitVec.ofNat 8 p.val) := hd
  have ho' : opensRecord (modRx p f s) .ownerLost 0xFF := ho
  have hlevel : (modRx p f s).ports[p].rx = f s.ports[p].rx := modRx_rx p f s
  have h := leaveUp_notices (c := c) hd' ho'
  rw [hlevel] at h
  exact h

/-- Settles O7: by the receiver's state. -/
theorem lossOfSignalByState : Obligations.LossOfSignalByState := by
  intro s p
  have reaches : exec (.lossOfSignal p) s = .next (signalLost p s) := rfl
  rw [reaches]
  refine ⟨fun h => ?idle, fun h => ?check, fun h hlevel hlimit => ?up⟩
  case idle => rcases h with h | h <;> simp only [signalLost, h]
  case check =>
    simp only [signalLost, h]
    rfl
  case up =>
    have hdown : signalLost p s = leaveUp p .budgetLimit
        (modRx p (fun x => { x with level := max x.level s.ports[p].profile.limit }) s) := by simp only [signalLost, h]
    obtain ⟨hleft, hnotices⟩ := leaveUp_modRx (p := p) .budgetLimit
      (fun x => { x with level := max x.level s.ports[p].profile.limit }) s
    rw [Nat.max_eq_right hlevel] at hnotices
    exact ⟨_, rfl, hdown ▸ hleft, fun hd ho => hdown ▸ hnotices hd ho⟩

/-! ### The error budget -/

theorem charge_below {p : Port} {n : Nat} {s : State} (h : s.ports[p].rx.level + n < s.ports[p].profile.limit)
    (hlimit : s.ports[p].profile.limit ≤ 255) :
    charge p n s = modRx p (fun x => { x with level := x.level + n }) s := by
  have hmin : min (s.ports[p].rx.level + n) 255 = s.ports[p].rx.level + n := by omega
  have hcharged : modRx p (fun x => { x with level := min (x.level + n) 255 }) s =
      modRx p (fun x => { x with level := x.level + n }) s := modRx_congr p _ _ s (by rw [hmin])
  have hlevel : (modRx p (fun x => { x with level := x.level + n }) s).ports[p].rx.level = s.ports[p].rx.level + n :=
    congrArg Receiver.level (modRx_rx p _ s)
  have hprofile : (modRx p (fun x => { x with level := x.level + n }) s).ports[p].profile = s.ports[p].profile := by simp
  unfold charge
  dsimp only
  rw [hcharged, hlevel, hprofile, if_neg (by omega)]

theorem charge_reaches {p : Port} {n : Nat} {s : State} (h : s.ports[p].profile.limit ≤ s.ports[p].rx.level + n)
    (hlimit : s.ports[p].profile.limit ≤ 255) :
    charge p n s = leaveUp p .budgetLimit (modRx p (fun x => { x with level := min (x.level + n) 255 }) s) := by
  have hlevel : (modRx p (fun x => { x with level := min (x.level + n) 255 }) s).ports[p].rx.level =
      min (s.ports[p].rx.level + n) 255 := congrArg Receiver.level (modRx_rx p _ s)
  have hprofile : (modRx p (fun x => { x with level := min (x.level + n) 255 }) s).ports[p].profile =
      s.ports[p].profile := by simp
  unfold charge
  dsimp only
  rw [hlevel, hprofile, if_pos (by omega)]

/-- A whole group of octets at a port that is UP is a cell that it judges (R26). -/
theorem exec_cellArrival {s : State} {p : Port} {c : Octets} (hup : s.ports[p].rx.st = .up)
    (hnone : s.ports[p].rx.octets = []) (hc : c.length = 64) : exec (.cellArrival p c) s = .next (judgeCell p c s) :=
  congrArg Host.Outcome.next (rxOctets_up p c s hup hnone hc)

theorem cellKind_mark {c : Octets} (h : octet c 0 = 0x10) : cellKind c = kindMark := by
  unfold cellKind
  rw [h]
  rfl

theorem lane?_some_of_le {p : Port} (h : p.val ≤ 5) : p.lane?.isSome = true := (lane?_isSome p).mpr h

theorem tagFails_of_differs {s : State} {p : Port} {c : Octets} {tag : Byte} (hp : p.val ≤ 5) (hmark : octet c 0 = 0x10)
    (htag : s.ports[p].profile.tag = some tag) (hne : octet c 12 ≠ tag) : tagFails s p c = true := by
  unfold tagFails
  rw [lane?_some_of_le hp, cellKind_mark hmark, htag]
  exact bne_iff_ne.mpr hne

/-- Settles O9: the three tests in their order, and the charge. -/
theorem failedCellsAreCharged : Obligations.FailedCellsAreCharged := by
  intro s p c n f hup hnone hc hlimit htest
  have hjudged : judgeCell p c s = charge p n (countPort p f s) := by
    unfold judgeCell
    rcases htest with ⟨hhead, rfl, rfl⟩ | ⟨hhead, hform, rfl, rfl⟩ | ⟨hhead, hform, hp, hmark, ⟨tag, htag, hne⟩, rfl, rfl⟩
    · simp [hhead]
    · simp [hhead, hform]
    · simp [hhead, hform, tagFails_of_differs hp hmark htag hne]
  rw [exec_cellArrival hup hnone hc, hjudged]
  refine ⟨fun h => ?below, fun h => ?reached⟩
  case below =>
    rw [charge_below (s := countPort p f s) h hlimit]
    rfl
  case reached =>
    rw [charge_reaches (s := countPort p f s) h hlimit]
    exact ⟨_, rfl, leaveUp_modRx .budgetLimit _ (countPort p f s)⟩

end Sys2Proof.Machine
end

section
/-! PROOF. The search for a cell's boundary and the six valid headers (R22, R23). -/

-- Checked one after another, as the tests are: the theorems of a section all at once take a thread each.
set_option Elab.async false

namespace Sys2Proof.Machine

/-! ### The search (R22) -/

/-- Eight octets that are not all there yet, or are no header, are searched on. -/
theorem huntOctet_goes_on {x : Receiver} {b : Byte} (h7 : x.octets.length ≤ 7)
    (h : x.octets.length = 7 → headerValid (x.octets ++ [b]) = false) :
    huntOctet x b = { x with octets := (x.octets ++ [b]).drop ((x.octets ++ [b]).length - 7) } := by
  have hlen : (x.octets ++ [b]).length = x.octets.length + 1 := by simp
  unfold huntOctet
  dsimp only
  by_cases hshort : x.octets.length < 7
  · rw [if_pos (by omega), hlen, show x.octets.length + 1 - 7 = 0 by omega, List.drop_zero]
  · have hfull : x.octets.length = 7 := by omega
    rw [if_neg (by omega), h hfull, hlen, hfull]
    rfl

theorem huntOctet_finds {x : Receiver} {b : Byte} (h7 : x.octets.length = 7)
    (h : headerValid (x.octets ++ [b]) = true) :
    huntOctet x b = { x with st := .check, count := 1, octets := [], skip := 56 } := by
  unfold huntOctet
  dsimp only
  rw [if_neg (by simp [h7]), h]
  rfl

/-- The last seven of the octets that came. -/
def lastSeven (o : Octets) : Octets := o.drop (o.length - 7)

theorem lastSeven_short {o : Octets} (h : o.length ≤ 7) : lastSeven o = o := by
  unfold lastSeven
  rw [show o.length - 7 = 0 by omega, List.drop_zero]

theorem lastSeven_append (a b : Octets) : lastSeven (lastSeven a ++ b) = lastSeven (a ++ b) := by
  unfold lastSeven
  rw [← List.drop_append_of_le_length (by omega), List.drop_drop]
  congr 1
  simp
  omega

theorem lastSeven_length (o : Octets) : (lastSeven o).length = min o.length 7 := by
  unfold lastSeven
  rw [List.length_drop]
  omega

theorem lastSeven_append_of_append (a o : Octets) : lastSeven a ++ o = (a ++ o).drop (a.length - 7) :=
  (List.drop_append_of_le_length (by omega)).symm

/-- With no header among the octets in hand and the new ones, the last seven stay in hand. -/
theorem rxOctets_hunt_goes_on {p : Port} (o : Octets) {s : State} (hst : s.ports[p].rx.st = .hunt)
    (h7 : s.ports[p].rx.octets.length ≤ 7)
    (hnone : ∀ j : Nat, j + 8 ≤ s.ports[p].rx.octets.length + o.length →
      headerValid (((s.ports[p].rx.octets ++ o).drop j).take 8) = false) :
    rxOctets p o s = modRx p (fun x => { x with octets := lastSeven (x.octets ++ o) }) s := by
  induction o generalizing s with
  | nil =>
    refine (modRx_same p _ s ?_).symm
    rw [List.append_nil, lastSeven_short h7]
  | cons b o ih =>
    have hsplit : s.ports[p].rx.octets ++ b :: o = s.ports[p].rx.octets ++ [b] ++ o := by simp
    have hfirst : huntOctet s.ports[p].rx b =
        { s.ports[p].rx with octets := lastSeven (s.ports[p].rx.octets ++ [b]) } := by
      refine huntOctet_goes_on h7 fun hfull => ?_
      have h0 := hnone 0 (by simp only [List.length_cons]; omega)
      have hlen : (s.ports[p].rx.octets ++ [b]).length = 8 := by rw [List.length_append, hfull]; rfl
      rwa [List.drop_zero, hsplit, List.take_left' hlen] at h0
    rw [rxOctets_cons, rxOctet_hunt p b s hst,
      modRx_congr p (fun x => huntOctet x b) (fun x => { x with octets := lastSeven (x.octets ++ [b]) }) s hfirst]
    have hrx : (modRx p (fun x => { x with octets := lastSeven (x.octets ++ [b]) }) s).ports[p].rx =
        { s.ports[p].rx with octets := lastSeven (s.ports[p].rx.octets ++ [b]) } := modRx_rx p _ s
    rw [ih (by rw [hrx]; exact hst) (by rw [hrx]; exact (lastSeven_length _).trans_le (Nat.min_le_right _ _)) ?later,
      modRx_modRx]
    · refine modRx_congr p _ _ s ?_
      dsimp only
      rw [lastSeven_append, hsplit]
    case later =>
      intro j hj
      rw [hrx] at hj ⊢
      dsimp only at hj ⊢
      rw [lastSeven_length, List.length_append, List.length_singleton] at hj
      have hall := hnone (s.ports[p].rx.octets.length + 1 - 7 + j) (by rw [List.length_cons]; omega)
      rwa [← List.drop_drop, hsplit, ← List.length_singleton (a := b), ← List.length_append,
        ← lastSeven_append_of_append] at hall

/-- The first header among the octets in hand and the new ones, found with the last of these. -/
theorem rxOctets_hunt_finds {p : Port} {o : Octets} {s : State} (hst : s.ports[p].rx.st = .hunt)
    (h7 : s.ports[p].rx.octets.length ≤ 7) {k : Nat} (hk : k + 8 = s.ports[p].rx.octets.length + o.length)
    (hfound : headerValid ((s.ports[p].rx.octets ++ o).drop k) = true)
    (hnone : ∀ j < k, headerValid (((s.ports[p].rx.octets ++ o).drop j).take 8) = false) :
    rxOctets p o s = modRx p (fun x => { x with st := .check, count := 1, octets := [], skip := 56 }) s := by
  obtain ⟨a, b, rfl⟩ : ∃ a b, o = a ++ [b] :=
    ⟨o.dropLast, o.getLast (by rintro rfl; rw [List.length_nil] at hk; omega), (List.dropLast_append_getLast _).symm⟩
  rw [List.length_append, List.length_singleton] at hk
  have hsplit : s.ports[p].rx.octets ++ (a ++ [b]) = s.ports[p].rx.octets ++ a ++ [b] := (List.append_assoc _ _ _).symm
  rw [hsplit] at hfound
  have hbefore : ∀ j : Nat, j + 8 ≤ s.ports[p].rx.octets.length + a.length →
      headerValid (((s.ports[p].rx.octets ++ a).drop j).take 8) = false := by
    intro j hj
    have h := hnone j (by omega)
    rwa [hsplit, List.drop_append_of_le_length (by rw [List.length_append]; omega),
      List.take_append_of_le_length (by rw [List.length_drop, List.length_append]; omega)] at h
  rw [rxOctets_append, rxOctets_hunt_goes_on a hst h7 hbefore, rxOctets_cons, rxOctets_nil]
  have hrx : (modRx p (fun x => { x with octets := lastSeven (x.octets ++ a) }) s).ports[p].rx =
      { s.ports[p].rx with octets := lastSeven (s.ports[p].rx.octets ++ a) } := modRx_rx p _ s
  rw [rxOctet_hunt p b _ (by rw [hrx]; exact hst), modRx_modRx]
  refine modRx_congr p _ _ s (huntOctet_finds ?_ ?_)
  · dsimp only
    rw [lastSeven_length, List.length_append]
    omega
  · dsimp only
    rwa [lastSeven_append_of_append, List.length_append, show s.ports[p].rx.octets.length + a.length - 7 = k by omega]

/-- Settles O5: with no header, with one, and at a receiver that is OFF. -/
theorem headerSearchFindsFirstValidGroup : Obligations.HeaderSearchFindsFirstValidGroup := by
  intro s p o h7
  have reaches : exec (.headerSearch p o) s = .next (rxOctets p o s) := rfl
  rw [reaches]
  refine ⟨fun hst => ⟨fun k hk hfound hnone => ?_, fun hnone => ?_⟩, fun h => by rw [rxOctets_off p o s h]⟩
  · rw [rxOctets_hunt_finds hst h7 hk hfound hnone]
    rfl
  · rw [rxOctets_hunt_goes_on o hst h7 hnone]
    rfl

/-! ### The candidate cell and the groups behind it (R23, R24) -/

theorem rxOctets_passes {p : Port} (o : Octets) {s : State} (hst : s.ports[p].rx.st = .check)
    (h : o.length ≤ s.ports[p].rx.skip) :
    rxOctets p o s = modRx p (fun x => { x with skip := x.skip - o.length }) s := by
  induction o generalizing s with
  | nil => exact (modRx_same p _ s rfl).symm
  | cons b o ih =>
    rw [List.length_cons] at h
    have hfirst : rxOctet p b s = modRx p (fun x => { x with skip := x.skip - 1 }) s := by
      have hskip : s.ports[p].rx.skip ≠ 0 := by omega
      simp only [rxOctet, hst]
      rw [if_pos hskip]
    have hrx : (modRx p (fun x => { x with skip := x.skip - 1 }) s).ports[p].rx =
        { s.ports[p].rx with skip := s.ports[p].rx.skip - 1 } := modRx_rx p _ s
    rw [rxOctets_cons, hfirst, ih (by rw [hrx]; exact hst) (by rw [hrx]; dsimp only; omega), modRx_modRx]
    refine modRx_congr p _ _ s ?_
    dsimp only
    rw [List.length_cons, Nat.sub_sub, Nat.add_comm 1]

/-- The receiver searches, or has too few octets in hand for `n` more to end a group. -/
def Receiver.withinGroup (x : Receiver) (n : Nat) : Prop :=
  n < 64 ∧ (x.st = .hunt ∨ (x.st = .check ∧ x.octets.length + n < 64))

theorem searchOctet_withinGroup {x : Receiver} {n : Nat} (b : Byte) (h : x.withinGroup (n + 1)) :
    (searchOctet x b).withinGroup n := by
  obtain ⟨hn, hst | ⟨hst, hlen⟩⟩ := h
  · refine ⟨by omega, ?_⟩
    simp only [searchOctet, hst, huntOctet]
    split
    · exact .inl rfl
    · split
      · exact .inr ⟨rfl, by simp only [List.length_nil]; omega⟩
      · exact .inl rfl
  · refine ⟨by omega, .inr ?_⟩
    simp only [searchOctet, hst]
    split
    · exact ⟨rfl, by rw [List.length_append, List.length_singleton]; omega⟩
    · exact ⟨rfl, by dsimp only; omega⟩

/-- Octets that cannot end a group are searched one by one. -/
theorem rxOctets_searches {p : Port} (o : Octets) {s : State} (h : s.ports[p].rx.withinGroup o.length) :
    rxOctets p o s = modRx p (fun x => o.foldl searchOctet x) s := by
  induction o generalizing s with
  | nil => exact (modRx_same p _ s rfl).symm
  | cons b o ih =>
    have hfirst : rxOctet p b s = modRx p (fun x => searchOctet x b) s := by
      obtain ⟨-, hst | ⟨hst, hlen⟩⟩ := h
      · rw [rxOctet_hunt p b s hst]
        exact modRx_congr p _ _ s (by simp only [searchOctet, hst])
      · rw [List.length_cons] at hlen
        by_cases hskip : s.ports[p].rx.skip = 0
        · simp only [rxOctet, hst]
          rw [if_neg (not_not_intro hskip), if_pos (by omega)]
          exact modRx_congr p _ _ s (by simp only [searchOctet, hst]; rw [if_pos hskip])
        · simp only [rxOctet, hst]
          rw [if_pos hskip]
          exact modRx_congr p _ _ s (by simp only [searchOctet, hst]; rw [if_neg hskip])
    have hrx : (modRx p (fun x => searchOctet x b) s).ports[p].rx = searchOctet s.ports[p].rx b := modRx_rx p _ s
    rw [rxOctets_cons, hfirst, ih (by rw [hrx]; exact searchOctet_withinGroup b h), modRx_modRx]
    rfl

theorem raise_lanes (k : NoticeKind) (x : Byte) (d : Octets) (v : Vector LaneState 6) (s : State) :
    raise k x d { s with lanes := v } = { raise k x d s with lanes := v } := by
  unfold raise
  split <;> rfl

theorem alignEnterUp_eq (l : Lane) (s : State) :
    alignEnterUp l s =
      { s with lanes := upd s.lanes l fun x =>
          if s.ports[l.port].profile.mode = .aligned ∧ x.member = .waiting then { x with member := .joining } else x } := by
  have haligned : laneAligned s l = true ↔ s.ports[l.port].profile.mode = .aligned := beq_iff_eq
  unfold alignEnterUp
  simp only [Bool.and_eq_true, haligned, beq_iff_eq]
  split
  · next h =>
    have hupd : upd s.lanes l (fun x => { x with member := .joining }) = upd s.lanes l fun x =>
        if s.ports[l.port].profile.mode = .aligned ∧ x.member = .waiting then { x with member := .joining } else x :=
      upd_congr _ _ _ _ (if_pos h).symm
    unfold modLane
    rw [hupd]
  · next h =>
    have hupd : (upd s.lanes l fun x =>
        if s.ports[l.port].profile.mode = .aligned ∧ x.member = .waiting then { x with member := .joining } else x) =
        s.lanes := upd_same _ _ _ (if_neg h)
    rw [hupd]

theorem alignEnterUp_raise (k : NoticeKind) (x : Byte) (d : Octets) (l : Lane) (s : State) :
    alignEnterUp l (raise k x d s) = raise k x d (alignEnterUp l s) := by
  have hprofile : (raise k x d s).ports[l.port].profile = s.ports[l.port].profile := by simp
  have hlanes : (raise k x d s).lanes = s.lanes := by simp
  rw [alignEnterUp_eq, alignEnterUp_eq l s, hprofile, hlanes]
  exact (raise_lanes k x d _ s).symm

/-- A port that enters UP, by the lane that it is (R24, R60). -/
theorem enterUp_eq (p : Port) (s : State) :
    enterUp p s =
      raise .laneUp (o8 p.val) []
        { s with
          ports := upd s.ports p fun x => { x with rx := { Receiver.fresh .up with count := 6 } }
          lanes :=
            match p.lane? with
            | some l =>
              upd s.lanes l fun x =>
                if s.ports[p].profile.mode = .aligned ∧ x.member = .waiting then { x with member := .joining } else x
            | none => s.lanes } := by
  unfold enterUp
  cases hl : p.lane? with
  | none => rfl
  | some l =>
    obtain rfl := port_of_lane? hl
    dsimp only
    rw [alignEnterUp_raise, alignEnterUp_eq]
    have hprofile : (modRx l.port (fun _ => { Receiver.fresh .up with count := Config.headersToUp }) s).ports[l.port].profile =
        s.ports[l.port].profile := by simp
    rw [hprofile]
    rfl

/-- Settles O6: the candidate cell, the groups behind it, and the sixth header. -/
theorem sixValidHeadersEnterUp : Obligations.SixValidHeadersEnterUp := by
  refine ⟨fun s p g hst => ⟨fun hskip => ?passes, fun hskip hnone hlen => ⟨fun hhead hcount => ?counts, fun hhead => ?fails⟩⟩,
    fun s p g hst hskip hnone hlen hhead hcount => ?sixth⟩
  case passes => exact congrArg Host.Outcome.next (rxOctets_passes g hst hskip)
  all_goals have hgroup := rxOctets_check p g s hst hskip hnone hlen
  case counts =>
    refine congrArg Host.Outcome.next (hgroup.trans ?_)
    have hunchanged : (modRx p (fun x => { x with octets := g.dropLast }) s).ports[p].rx.count = s.ports[p].rx.count :=
      congrArg (fun x => x.rx.count) (upd_at s.ports p fun x => { x with rx := { x.rx with octets := g.dropLast } })
    rw [checkGroup, if_pos hhead, hunchanged, if_pos (show s.ports[p].rx.count + 1 < Config.headersToUp from Nat.succ_lt_succ hcount), modRx_modRx]
    refine modRx_congr p _ (fun x => { x with count := x.count + 1 }) s ?_
    dsimp only
    rw [← hnone]
  case fails =>
    have hsearch : rxOctets p (g.drop 1) (modRx p (fun _ => Receiver.fresh .hunt) s) =
        modRx p (fun _ => (g.drop 1).foldl searchOctet (Receiver.fresh .hunt)) s := by
      have hrx : (modRx p (fun _ => Receiver.fresh .hunt) s).ports[p].rx = Receiver.fresh .hunt := modRx_rx p _ s
      rw [rxOctets_searches _ (by rw [hrx]; exact ⟨by rw [List.length_drop]; omega, .inl rfl⟩), modRx_modRx]
    have hfailed : checkGroup p g (modRx p (fun x => { x with octets := g.dropLast }) s) =
        modRx p (fun _ => (g.drop 1).foldl searchOctet (Receiver.fresh .hunt)) s := by
      rw [checkGroup, if_neg (ne_true_of_eq_false hhead), modRx_modRx]
    exact congrArg Host.Outcome.next (hgroup.trans (hfailed.trans hsearch.symm))
  case sixth =>
    refine congrArg Host.Outcome.next (hgroup.trans ?_)
    have hunchanged : (modRx p (fun x => { x with octets := g.dropLast }) s).ports[p].rx.count = s.ports[p].rx.count :=
      congrArg (fun x => x.rx.count) (upd_at s.ports p fun x => { x with rx := { x.rx with octets := g.dropLast } })
    have hprofile : (modRx p (fun x => { x with octets := g.dropLast }) s).ports[p].profile = s.ports[p].profile := by simp
    rw [checkGroup, if_pos hhead, hunchanged, hcount, if_neg (show ¬5 + 1 < Config.headersToUp from by decide), enterUp_eq, hprofile]
    have hports : upd (modRx p (fun x => { x with octets := g.dropLast }) s).ports p
          (fun x => { x with rx := { Receiver.fresh .up with count := 6 } }) =
        upd s.ports p fun x => { x with rx := { Receiver.fresh .up with count := 6 } } :=
      upd_upd s.ports p (fun x => { x with rx := { x.rx with octets := g.dropLast } }) _
    rw [hports]
    rfl

end Sys2Proof.Machine
end

section
/-! PROOF. Valid cells by kind: FILL, MARK on a pass lane, and MREQ (R28, R29, R31). -/

-- Checked one after another, as the tests are: the theorems of a section all at once take a thread each.
set_option Elab.async false

namespace Sys2Proof.Machine

/-! ### The kind of a cell, from its first octet -/

theorem cellKind_fill {c : Octets} (h : octet c 0 = 0x00) : cellKind c = kindFill := by
  unfold cellKind
  rw [h]
  rfl

theorem cellKind_mreq {c : Octets} (h : octet c 0 = 0x30) : cellKind c = kindMreq := by
  unfold cellKind
  rw [h]
  rfl

theorem cellKind_data {c : Octets} (h : octet c 0 = 0x20 ∨ octet c 0 = 0x28) : cellKind c = kindData := by
  unfold cellKind
  rcases h with h | h <;> rw [h] <;> rfl

theorem tagFails_otherKind {s : State} {p : Port} {c : Octets} (h : cellKind c ≠ kindMark) : ¬tagFails s p c = true := by
  unfold tagFails
  rw [beq_false_of_ne h]
  simp

theorem tagFails_agrees {s : State} {p : Port} {c : Octets}
    (h : s.ports[p].profile.tag = none ∨ s.ports[p].profile.tag = some (octet c 12)) : ¬tagFails s p c = true := by
  unfold tagFails
  rcases h with h | h <;> rw [h]
  · simp
  · simp [markTag]

/-- A cell that passes the three tests is credited, counted and dispatched (R26 step 4). -/
theorem exec_validCell {s : State} {p : Port} {c : Octets} (hup : s.ports[p].rx.st = .up)
    (hnone : s.ports[p].rx.octets = []) (hc : c.length = 64) (hhead : headerValid c = true)
    (hform : formatValid p c = true) (htag : ¬tagFails s p c = true) :
    exec (.cellArrival p c) s =
      .next (dispatchCell p c (credited p (fun k => { k with valid := bump k.valid }) s)) := by
  rw [exec_cellArrival hup hnone hc]
  unfold judgeCell
  rw [hhead, hform, if_neg (by decide), if_neg (by decide), if_neg htag]
  rfl

/-- A further count on the port of a valid cell. -/
theorem countPort_credited (p : Port) (f g : PortCounters → PortCounters) (s : State) :
    countPort p g (credited p f s) = credited p (fun k => g (f k)) s := by
  unfold countPort credited
  dsimp only
  rw [upd_upd]

theorem credited_profile (p q : Port) (f : PortCounters → PortCounters) (s : State) :
    (credited p f s).ports[q].profile = s.ports[q].profile := by
  unfold credited
  rw [upd_get]
  split <;> rfl

theorem laneAligned_credited (p : Port) (l : Lane) (f : PortCounters → PortCounters) (s : State) :
    laneAligned (credited p f s) l = laneAligned s l := by
  unfold laneAligned
  rw [credited_profile]

theorem laneAligned_iff (s : State) (l : Lane) : laneAligned s l = true ↔ s.ports[l.port].profile.mode = .aligned :=
  beq_iff_eq

/-! ### FILL and MARK -/

theorem dispatchCell_fill {c : Octets} (h : octet c 0 = 0x00) (p : Port) (s : State) :
    dispatchCell p c s = countPort p (fun k => { k with fillArrivals := bump k.fillArrivals }) s :=
  if_pos (cellKind_fill h)

theorem dispatchCell_mark {c : Octets} (h : octet c 0 = 0x10) (p : Port) (s : State) :
    dispatchCell p c s = markArrives p c s := by
  unfold dispatchCell
  rw [cellKind_mark h]
  rfl

theorem dispatchCell_data {c : Octets} (h : octet c 0 = 0x20 ∨ octet c 0 = 0x28) (p : Port) (s : State) :
    dispatchCell p c s = dataArrives p c s := by
  unfold dispatchCell
  rw [cellKind_data h]
  rfl

theorem dispatchCell_mreq {c : Octets} (h : octet c 0 = 0x30) (p : Port) (s : State) :
    dispatchCell p c s = mreqArrives p c s := by
  unfold dispatchCell
  rw [cellKind_mreq h]
  rfl

theorem markArrives_pass {p : Port} {c : Octets} {s : State} (h : s.ports[p].profile.mode = .pass) :
    markArrives p c s = countPort p (fun k => { k with markArrivals := bump k.markArrivals }) s := by
  unfold markArrives
  cases hl : p.lane? with
  | none => rfl
  | some l =>
    obtain rfl := port_of_lane? hl
    have hpass : ¬laneAligned (countPort l.port (fun k => { k with markArrivals := bump k.markArrivals }) s) l = true := by
      rw [laneAligned_iff]
      exact fun e => nomatch h.symm.trans e
    exact if_neg hpass

/-! ### MREQ (R31) -/

theorem mreqArrives_notPermitted {p : Port} {c : Octets} {s : State} (h : s.ports[p].profile.mgmt = false) :
    mreqArrives p c s =
      countPort p (fun k => { k with mreqNotPermitted := bump k.mreqNotPermitted })
        (countPort p (fun k => { k with mreqArrivals := bump k.mreqArrivals }) s) := by
  unfold mreqArrives
  exact if_pos (congrArg (!·) h)

theorem mreqArrives_foreign {p : Port} {c : Octets} {s : State} (h : s.ports[p].profile.mgmt = true)
    (hall : octet c 6 ≠ 255) (hown : octet c 6 ≠ s.engine.unitAddr) :
    mreqArrives p c s =
      countPort p (fun k => { k with mreqForeign := bump k.mreqForeign })
        (countPort p (fun k => { k with mreqArrivals := bump k.mreqArrivals }) s) := by
  unfold mreqArrives
  exact (if_neg (ne_true_of_eq_false (congrArg (!·) h))).trans (if_pos ⟨hall, hown⟩)

theorem mreqArrives_reaches {p : Port} {c : Octets} {s : State} (h : s.ports[p].profile.mgmt = true)
    (haddr : octet c 6 = 255 ∨ octet c 6 = s.engine.unitAddr) :
    mreqArrives p c s =
      requestReaches (requestOf p c) (countPort p (fun k => { k with mreqArrivals := bump k.mreqArrivals }) s) := by
  unfold mreqArrives
  exact (if_neg (ne_true_of_eq_false (congrArg (!·) h))).trans (if_neg fun hne => haddr.elim hne.1 hne.2)

/-- Settles O10: FILL, MARK on a pass lane, and an MREQ by the three filters. -/
theorem fillMarkAndRequestCellsAreHandled : Obligations.FillMarkAndRequestCellsAreHandled := by
  refine ⟨fun s p c hup hnone hc hhead hform => ⟨fun hfill => ?fill, fun hmark hpass htag => ?mark⟩,
    fun s p c hup hnone hc hhead hform hmreq => ?mreq⟩
  case fill =>
    rw [exec_validCell hup hnone hc hhead hform (tagFails_otherKind (by rw [cellKind_fill hfill]; decide)),
      dispatchCell_fill hfill, countPort_credited]
  case mark =>
    rw [exec_validCell hup hnone hc hhead hform (tagFails_agrees htag), dispatchCell_mark hmark,
      markArrives_pass (by rw [credited_profile]; exact hpass), countPort_credited]
  case mreq =>
    rw [exec_validCell hup hnone hc hhead hform (tagFails_otherKind (by rw [cellKind_mreq hmreq]; decide)),
      dispatchCell_mreq hmreq]
    have hmgmt {b : Bool} (h : s.ports[p].profile.mgmt = b) :
        (credited p (fun k => { k with valid := bump k.valid }) s).ports[p].profile.mgmt = b := by
      rw [credited_profile]
      exact h
    refine ⟨fun h => ?_, fun h hall hown => ?_, fun h haddr r hr => ?_⟩
    · rw [mreqArrives_notPermitted (hmgmt h), countPort_credited, countPort_credited]
    · rw [mreqArrives_foreign (hmgmt h) hall hown, countPort_credited, countPort_credited]
    · obtain rfl : r = requestOf p c := hr
      rw [mreqArrives_reaches (hmgmt h) haddr, countPort_credited]
      refine ⟨fun hfree => ?_, fun hfull => ?_, fun hbusy hroom => ?_⟩
      · exact congrArg Host.Outcome.next (requestReaches_free _ hfree)
      · exact congrArg Host.Outcome.next ((requestReaches_overruns (requestOf p c) (by exact hfull)).trans (countPort_credited p _ _ s))
      · exact congrArg Host.Outcome.next (requestReaches_waits _ hbusy hroom)

end Sys2Proof.Machine
end

section
/-! PROOF. The classifier, step by step (R86 to R91), and DATA cells on a pass lane (R30). -/

-- Checked one after another, as the tests are: the theorems of a section all at once take a thread each.
set_option Elab.async false

namespace Sys2Proof.Machine

/-! ### The sequence check and the budget (R88, R90) -/

theorem seqVerdict_passes {e : FlowEntry} {n : Seq} (h : passesSequence e n) :
    seqVerdict e n = .passes (expectedAfter e n) (gapShown e n) := by
  unfold seqVerdict expectedAfter gapShown
  cases hc : e.seqCheck with
  | false => rfl
  | true =>
    cases hx : e.expected with
    | none => rfl
    | some x =>
      by_cases he : n = x
      · subst he
        simp
      · have hafter : seqAfter n x = true := by
          rcases h with h | h | ⟨y, hy, hle⟩
          · exact nomatch hc.symm.trans h
          · exact nomatch hx.symm.trans h
          · obtain rfl : x = y := Option.some_injective _ (hx.symm.trans hy)
            have hne : (n - x).toNat ≠ 0 := fun h0 => sub_ne_zero.mpr he (BitVec.eq_of_toNat_eq h0)
            exact Bool.and_eq_true_iff.mpr ⟨decide_eq_true (by omega), decide_eq_true hle⟩
        simp [he, hafter]

theorem seqVerdict_stale {e : FlowEntry} {n : Seq} (h : ¬passesSequence e n) : seqVerdict e n = .stale := by
  unfold passesSequence at h
  rw [not_or, not_or] at h
  obtain ⟨hcheck, hpresent, hfar⟩ := h
  obtain ⟨x, hx⟩ := Option.ne_none_iff_exists'.mp hpresent
  have hfar : 2047 < (n - x).toNat := by
    by_contra hle
    exact hfar ⟨x, hx, by omega⟩
  have hne : n ≠ x := by
    rintro rfl
    simp at hfar
  unfold seqVerdict
  rw [if_pos (by simpa using hcheck), hx]
  dsimp only
  have hbefore : ¬seqAfter n x = true := fun h => by
    have := of_decide_eq_true (Bool.and_eq_true_iff.mp h).2
    omega
  rw [if_neg hne, if_neg hbefore]

theorem overBudget_iff (e : FlowEntry) : overBudget e = true ↔ ¬withinBudget e := by
  unfold overBudget withinBudget
  cases e.budget with
  | none => simp
  | some b => simp

/-! ### The classifier (R86 to R91) -/

section
variable {s : State} {o : Origin} {c : DataCell}

theorem classify_unknown (h : ∀ (i : FlowIdx) (e : FlowEntry), s.flows[i] = some e → ¬(e.lane = c.lane ∧ e.inflow = c.flow)) :
    classify o c s =
      giveBack o
        (raise .unknownFlow (o8 c.lane.val) (o16 c.flow.toNat)
          (countPort c.lane.port (fun k => { k with unknownFlows := bump k.unknownFlows }) s)) := by
  have hnone : findKey s c.lane.val c.flow.toNat = none := by
    cases hk : findKey s c.lane.val c.flow.toNat with
    | none => rfl
    | some i =>
      obtain ⟨e, he, hl, hf⟩ := findKey_some hk
      exact absurd ⟨Fin.ext hl, BitVec.eq_of_toNat_eq hf⟩ (h i e he)
  simp only [classify, hnone]

variable {i : FlowIdx} {e : FlowEntry}

theorem classify_hit (hd : keysDistinct s) (hi : s.flows[i] = some e) (hl : e.lane = c.lane) (hf : e.inflow = c.flow) :
    classify o c s = classifyHit i e o c s := by
  have hkey : findKey s c.lane.val c.flow.toNat = some i := hl ▸ hf ▸ findKey_of_held hd hi
  simp only [classify, hkey, hi]

theorem classifyHit_draining (h : e.draining = true) :
    classifyHit i e o c s = giveBack o (flowCounted i (fun k => { k with drainDiscards := bump k.drainDiscards }) s) :=
  if_pos h

theorem classifyHit_stale (h : e.draining = false) (hs : ¬passesSequence e c.seq) :
    classifyHit i e o c s = giveBack o (flowCounted i (fun k => { k with stale := bump k.stale }) s) := by
  unfold classifyHit
  rw [if_neg (ne_true_of_eq_false h), seqVerdict_stale hs]
  rfl

theorem giveBack_pass (s : State) : giveBack .pass s = s := rfl

theorem giveBack_aligned (x : Epoch) (s : State) : giveBack (.aligned x) s = { s with free := s.free + 1 } := rfl

/-- The sequence check passed: the expected seq and the gap (R88). -/
def sequenceChecked (i : FlowIdx) (e : FlowEntry) (n : Seq) (s : State) : State :=
  { flowCounted i (fun k => { k with seqGap := plus k.seqGap (gapShown e n) }) s with
    flows := upd s.flows i fun _ => some { e with expected := expectedAfter e n } }

theorem classifyHit_passes (hi : s.flows[i] = some e) (h : e.draining = false) (hs : passesSequence e c.seq) :
    classifyHit i e o c s =
      if overBudget e then
        giveBack o (flowCounted i (fun k => { k with overBudget := bump k.overBudget }) (sequenceChecked i e c.seq s))
      else groupAdmission i e.group o c (sequenceChecked i e c.seq s) := by
  have hflows : upd s.flows i (Option.map fun y => { y with expected := expectedAfter e c.seq }) =
      upd s.flows i fun _ => some { e with expected := expectedAfter e c.seq } :=
    upd_congr _ _ _ _ (by
      have hi : s.flows[i.val] = some e := hi
      rw [hi]
      rfl)
  unfold classifyHit
  rw [if_neg (ne_true_of_eq_false h), seqVerdict_passes hs]
  dsimp only [modFlow, countFlow]
  rw [hflows]
  rfl

theorem groupAdmission_full {g : Group} (h : s.groups[g].limit ≤ s.groups[g].queue.length) :
    groupAdmission i g o c s =
      giveBack o
        (raise .groupOverflow (o8 g.val) (o8 i.val :: o16 s.groups[g].limit)
          (countGroup g (fun k => { k with overflows := bump k.overflows })
            (flowCounted i (fun k => { k with overflow := bump k.overflow }) s))) :=
  if_pos h

theorem groupAdmission_pass {g : Group} (h : s.groups[g].queue.length < s.groups[g].limit) :
    groupAdmission i g .pass c s =
      if s.free = 0 then
        raise .poolExhausted (o8 c.lane.val) (o16 c.flow.toNat)
          (countPort c.lane.port (fun k => { k with poolDrops := bump k.poolDrops }) s)
      else enqueue i g .pass c { s with free := s.free - 1 } :=
  if_neg (Nat.not_le.mpr h)

theorem groupAdmission_aligned {g : Group} {x : Epoch} (h : s.groups[g].queue.length < s.groups[g].limit) :
    groupAdmission i g (.aligned x) c s = enqueue i g (.aligned x) c s :=
  if_neg (Nat.not_le.mpr h)

/-- A cell that is admitted (R91 step 3). -/
theorem enqueue_sequenceChecked (n : Seq) (g : Group) (s : State) :
    enqueue i g o c (sequenceChecked i e n s) =
      { s with
        flows := upd s.flows i fun _ => some
          { e with expected := expectedAfter e n, inQueue := e.inQueue + 1, admitted := min (e.admitted + 1) 65535 }
        groups := upd s.groups g fun q => { q with queue := q.queue ++ [{ cell := c, entry := i, origin := o }] }
        counters := { s.counters with
          flows := upd s.counters.flows i fun k =>
            { k with admitted := bump k.admitted, seqGap := plus k.seqGap (gapShown e n) }
          groups := upd s.counters.groups g fun k => { k with enqueued := bump k.enqueued } } } := by
  simp only [enqueue, sequenceChecked, flowCounted, countFlow, countGroup, modFlow, modGroup, upd_upd]
  rfl

end

/-! ### DATA cells on a pass lane (R30) -/

theorem cellX_false {c : Octets} (h : octet c 0 = 0x20) : cellX c = false := by
  unfold cellX
  rw [h]
  rfl

theorem cellX_true {c : Octets} (h : octet c 0 = 0x28) : cellX c = true := by
  unfold cellX
  rw [h]
  rfl

/-- What the part keeps of a DATA cell, by its first octet. -/
theorem dataCell_eq {c : Octets} (l : Lane) (h : octet c 0 = 0x20 ∨ octet c 0 = 0x28) : dataCell l c = keptCell l c := by
  rcases h with h | h
  · have hne : ¬octet c 0 = 0x28 := by
      rw [h]
      decide
    simp only [dataCell, keptCell, cellX_false h, if_neg hne, cellFlow, cellSeq, cellLength, pair, Bool.false_eq_true, if_false]
  · simp only [dataCell, keptCell, cellX_true h, if_pos h, cellFlow, cellSeq, cellLength, pair, if_true]

/-- The flow of a format-valid DATA cell stands in its octets 1 and 2. -/
theorem keptCell_flow_octets {l : Lane} {c : Octets} (hform : formatValid l.port c = true) :
    o16 (keptCell l c).flow.toNat = [octet c 1, octet c 2] := by
  have hreserved := (reservedZero_iff c).mp ((formatValid_iff l.port c).mp hform).1
  have h2 := (octet c 2).isLt
  have hn : (keptCell l c).flow.toNat = (octet c 1).toNat * 256 + (octet c 2).toNat := by
    refine (BitVec.toNat_ofNat _ _).trans (Nat.mod_eq_of_lt ?_)
    omega
  have hhigh : ((octet c 1).toNat * 256 + (octet c 2).toNat) / 256 = (octet c 1).toNat := by omega
  have hlow : o8 ((octet c 1).toNat * 256 + (octet c 2).toNat) = octet c 2 :=
    BitVec.eq_of_toNat_eq ((BitVec.toNat_ofNat _ _).trans (by omega))
  rw [hn, o16, hhigh, hlow, o8, BitVec.ofNat_toNat, BitVec.setWidth_eq]

/-- A valid DATA cell on a lane, credited and counted (R26, R30). -/
def dataTaken (l : Lane) (s : State) : State :=
  credited l.port (fun k => { k with valid := bump k.valid, dataArrivals := bump k.dataArrivals }) s

/-- A valid DATA cell on a pass lane reaches the classifier (R30). -/
theorem exec_passLaneData {s : State} {l : Lane} {c : Octets} (h : passLaneData s l c) :
    exec (.cellArrival l.port c) s =
      .next (classify .pass (keptCell l c) (dataTaken l s)) := by
  obtain ⟨hup, hnone, hc, hhead, hform, hdata, hpass⟩ := h
  rw [exec_validCell hup hnone hc hhead hform (tagFails_otherKind (by rw [cellKind_data hdata]; decide)),
    dispatchCell_data hdata]
  have hst : ∀ f, (credited l.port f s).ports[l.port].rx.st = .up := fun f => by
    unfold credited
    rw [upd_at]
    exact hup
  have halign : ∀ f, laneAligned (credited l.port f s) l = false := fun f => by
    rw [laneAligned_credited]
    exact Bool.eq_false_iff.mpr fun ha => nomatch hpass.symm.trans ((laneAligned_iff s l).mp ha)
  unfold dataArrives
  rw [countPort_credited, lane?_port]
  dsimp only
  have hquiet : ∀ f, countUnderPause l (credited l.port f s) = credited l.port f s := fun f => by
    unfold countUnderPause pauseCondition portUp
    rw [hst, halign]
    rfl
  rw [hquiet, halign, dataCell_eq l hdata]
  rfl

section
variable {s : State} {l : Lane} {c : Octets} {i : FlowIdx} {e : FlowEntry}

/-- A cell on a pass lane that hits its entry and passes the sequence check (R88). -/
theorem exec_passLaneData_passes (hcell : passLaneData s l c) (hd : keysDistinct s) (hi : s.flows[i] = some e)
    (hl : e.lane = l) (hf : e.inflow = (keptCell l c).flow) (hactive : e.draining = false)
    (hseq : passesSequence e (keptCell l c).seq) :
    exec (.cellArrival l.port c) s =
      .next (if overBudget e then
          flowCounted i (fun k => { k with overBudget := bump k.overBudget })
            (sequenceChecked i e (keptCell l c).seq (dataTaken l s))
        else groupAdmission i e.group .pass (keptCell l c) (sequenceChecked i e (keptCell l c).seq (dataTaken l s))) := by
  rw [exec_passLaneData hcell, classify_hit (s := dataTaken l s) hd hi hl hf,
    classifyHit_passes (s := dataTaken l s) hi hactive hseq]
  rfl

end

/-- Settles O11: the admitted cell, then a cell discarded by each step of the classification. -/
theorem passLaneCellIsAdmittedOrDiscarded : Obligations.PassLaneCellIsAdmittedOrDiscarded := by
  refine ⟨fun s l c i e hcell hd hi hl hf hactive hseq hbudget hroom hfree => ?admitted, fun s l c hcell hd => ⟨fun hno => ?unknown,
    fun i e hi hl hf => ⟨fun hdrain => ?draining, fun hactive hseq => ?stale, fun hactive hseq =>
      ⟨fun hbudget => ?overBudget, fun hbudget hfull => ?full, fun hbudget hroom hfree => ?exhausted⟩⟩⟩⟩
  all_goals have hform := hcell.2.2.2.2.1
  case admitted =>
    rw [exec_passLaneData_passes hcell hd hi hl hf hactive hseq, if_neg ((overBudget_iff e).not_left.mpr hbudget),
      groupAdmission_pass (by exact hroom), if_neg (by exact Nat.pos_iff_ne_zero.mp hfree)]
    exact congrArg Host.Outcome.next (enqueue_sequenceChecked _ _ { dataTaken l s with free := s.free - 1 })
  case unknown =>
    rw [exec_passLaneData hcell, classify_unknown (c := keptCell l c) (s := dataTaken l s) hno, keptCell_flow_octets hform]
    exact congrArg (fun t => Host.Outcome.next (raise _ _ _ t)) (countPort_credited l.port _ _ s)
  case draining =>
    rw [exec_passLaneData hcell, classify_hit (s := dataTaken l s) hd hi hl hf, classifyHit_draining hdrain]
    rfl
  case stale =>
    rw [exec_passLaneData hcell, classify_hit (s := dataTaken l s) hd hi hl hf, classifyHit_stale hactive hseq]
    rfl
  all_goals rw [exec_passLaneData_passes hcell hd hi hl hf hactive hseq]
  case overBudget =>
    rw [if_pos ((overBudget_iff e).mpr hbudget)]
    simp only [flowCounted, sequenceChecked, upd_upd]
    rfl
  all_goals rw [if_neg ((overBudget_iff e).not_left.mpr hbudget)]
  case full =>
    rw [groupAdmission_full (by exact hfull), giveBack_pass]
    refine ⟨_, rfl, ?_, ?_, ?_, ?_, ?_, fun hopens => ?_⟩
    case refine_6 => rw [raise_opens _ (by exact hopens)]; rfl
    all_goals simp [countGroup, flowCounted, sequenceChecked, dataTaken, credited]
  case exhausted =>
    have hlane : (keptCell l c).lane = l := rfl
    rw [groupAdmission_pass (by exact hroom), if_pos (by exact hfree), hlane]
    refine ⟨_, rfl, ?_, ?_, ?_, ?_, ?_, fun hopens => ?_⟩
    case refine_6 => rw [keptCell_flow_octets hform, raise_opens _ (by exact hopens)]; rfl
    all_goals simp [countPort, flowCounted, sequenceChecked, dataTaken, credited, hfree]

end Sys2Proof.Machine
end

section
/-! PROOF. DATA cells on an aligned lane (R30, R46, R63, R67, R68). -/

-- Checked one after another, as the tests are: the theorems of a section all at once take a thread each.
set_option Elab.async false

namespace Sys2Proof.Machine

/-- The count of a DATA cell under PAUSE, at a port that is UP and aligned (R52, R53). -/
theorem countUnderPause_aligned {s : State} {l : Lane} (hup : s.ports[l.port].rx.st = .up)
    (ha : s.ports[l.port].profile.mode = .aligned) :
    countUnderPause l (dataTaken l s) = credited l.port (dataUnder s.lanes[l].high) s := by
  have hst : (dataTaken l s).ports[l.port].rx.st = .up := by
    unfold dataTaken credited
    rw [upd_at]
    exact hup
  have halign : laneAligned (dataTaken l s) l = true :=
    (laneAligned_credited _ _ _ _).trans ((laneAligned_iff s l).mpr ha)
  have hpause : pauseCondition (dataTaken l s) l = s.lanes[l].high := by
    unfold pauseCondition portUp
    rw [hst, halign]
    rfl
  unfold countUnderPause
  rw [hpause]
  cases s.lanes[l].high with
  | true => exact countPort_credited _ _ _ _
  | false => rfl

/-- A valid DATA cell on an aligned lane reaches the aligner (R30). -/
theorem exec_alignedData {s : State} {l : Lane} {c : Octets} (h : alignedLaneCell s l c)
    (hdata : octet c 0 = 0x20 ∨ octet c 0 = 0x28) :
    exec (.cellArrival l.port c) s =
      .next (alignData l (keptCell l c) (credited l.port (dataUnder s.lanes[l].high) s)) := by
  obtain ⟨hup, hnone, hc, hhead, hform, ha⟩ := h
  rw [exec_validCell hup hnone hc hhead hform (tagFails_otherKind (by rw [cellKind_data hdata]; decide)),
    dispatchCell_data hdata]
  unfold dataArrives
  rw [countPort_credited, lane?_port]
  dsimp only
  have hpaused := countUnderPause_aligned hup ha
  unfold dataTaken at hpaused
  rw [hpaused, laneAligned_credited, (laneAligned_iff s l).mpr ha, dataCell_eq l hdata]
  rfl

theorem countArrival_eq (l : Lane) (e : Epoch) (s : State) : countArrival l e s = arrivalCounted l e s := by
  have hrec (r : EpochRec) : r.setArrivals l (min (r.arrivals[l] + 1) 65536) =
      { r with arrivals := upd r.arrivals l fun n => min (n + 1) 65536 } :=
    congrArg (fun v => { r with arrivals := v }) (upd_congr r.arrivals l _ _ rfl)
  unfold countArrival modRecord modWindow arrivalCounted
  simp only [hrec, beq_iff_eq]

/-- A cell appended to a lane queue takes a buffer and has the hysteresis judged (R46, R50). -/
theorem laneAppend_appends {l : Lane} {e : Epoch} {c : DataCell} {s : State}
    (hq : s.lanes[l].queue.length < s.ports[l.port].profile.quota) (hfree : 0 < s.free) :
    laneAppend l e c s =
      { s with
        free := s.free - 1
        lanes := upd s.lanes l fun x =>
          { x with
            queue := x.queue ++ [{ cell := c, epoch := e }]
            high := judgedHigh s.ports[l.port].profile (x.queue.length + 1) x.high } } := by
  unfold laneAppend
  rw [if_neg (Nat.not_le.mpr hq), if_neg (Nat.pos_iff_ne_zero.mp hfree)]
  simp only [judgeLane, modLane, upd_upd, List.length_append, List.length_singleton]

section
variable {s : State} {l : Lane} (c : DataCell)

theorem alignData_joining (h : s.lanes[l].member = .joining) :
    alignData l c s = laneCounted l (fun k => { k with joiningDiscards := bump k.joiningDiscards }) s := by
  simp only [alignData, h]
  rfl

theorem alignData_late (h : s.lanes[l].member = .lagging ∨ ∃ e, s.lanes[l].member = .isIn e true) :
    alignData l c s = laneCounted l (fun k => { k with lateDiscards := bump k.lateDiscards }) s := by
  rcases h with h | ⟨e, h⟩ <;> simp only [alignData, h] <;> rfl

theorem alignData_timely {e : Epoch} (h : s.lanes[l].member = .isIn e false) :
    alignData l c s = laneAppend l e c (arrivalCounted l e s) := by
  simp only [alignData, h, countArrival_eq, Bool.false_eq_true, if_false]

end

/-- Settles O12: by membership, then by quota and pool. -/
theorem alignedLaneCellByMembership : Obligations.AlignedLaneCellByMembership := by
  intro s l c hcell hdata
  have hflow := keptCell_flow_octets hcell.2.2.2.2.1
  rw [exec_alignedData hcell hdata]
  refine ⟨fun h => ?joining, fun h => ?late, fun e h => ?timely⟩
  case joining => exact congrArg Host.Outcome.next (alignData_joining (s := credited l.port (dataUnder s.lanes[l].high) s) _ h)
  case late => exact congrArg Host.Outcome.next (alignData_late (s := credited l.port (dataUnder s.lanes[l].high) s) _ h)
  case timely =>
    rw [alignData_timely (s := credited l.port (dataUnder s.lanes[l].high) s) _ h]
    have hprofile : (arrivalCounted l e (credited l.port (dataUnder s.lanes[l].high) s)).ports[l.port].profile =
        s.ports[l.port].profile := credited_profile _ _ (dataUnder s.lanes[l].high) _
    refine ⟨fun hquota => ?_, fun hquota hfree => ?_, fun hquota hfree => ?_⟩
    · unfold laneAppend
      rw [hprofile, if_pos (by exact hquota)]
      exact congrArg (fun u => Host.Outcome.next (arrivalCounted l e u)) (countPort_credited _ _ _ _)
    · unfold laneAppend
      rw [hprofile, if_neg (by exact Nat.not_le.mpr hquota), if_pos (by exact hfree), hflow]
      exact congrArg (fun u => Host.Outcome.next (raise _ _ _ (arrivalCounted l e u))) (countPort_credited _ _ _ _)
    · rw [laneAppend_appends (by rw [hprofile]; exact hquota) (by exact hfree), hprofile]
      rfl

end Sys2Proof.Machine
end

section
/-! PROOF. Epoch numbers and the order of the window's records (R57). -/

-- Checked one after another, as the tests are: the theorems of a section all at once take a thread each.
set_option Elab.async false

namespace Sys2Proof.Machine

/-! ### Epoch numbers -/

/-- The epoch a number of epochs after another. -/
def epochFrom (b : Epoch) (j : Nat) : Epoch := b + BitVec.ofNat 16 j

theorem epochFrom_zero (b : Epoch) : epochFrom b 0 = b := BitVec.add_zero b

theorem epochFrom_one (b : Epoch) : epochFrom b 1 = b + 1 := rfl

theorem epochFrom_succ (b : Epoch) (j : Nat) : epochFrom b (j + 1) = epochFrom b j + 1 := by
  unfold epochFrom
  rw [BitVec.ofNat_add, BitVec.add_assoc]
  rfl

theorem epochFrom_epochFrom (b : Epoch) (j k : Nat) : epochFrom (epochFrom b j) k = epochFrom b (j + k) := by
  unfold epochFrom
  rw [BitVec.ofNat_add, BitVec.add_assoc]

theorem epochFrom_distance (e b : Epoch) : epochFrom b (e - b).toNat = e := by
  unfold epochFrom
  rw [BitVec.ofNat_toNat, BitVec.setWidth_eq]
  bv_omega

section
variable {b : Epoch} {j k : Nat} (hj : j < 32768) (hk : k < 32768)
include hj hk

theorem epochFrom_inj : epochFrom b j = epochFrom b k ↔ j = k := by
  unfold epochFrom
  constructor
  · intro h
    have h' := congrArg BitVec.toNat ((BitVec.add_right_inj _).mp h)
    simp only [BitVec.toNat_ofNat] at h'
    omega
  · rintro rfl
    rfl

theorem epochAfter_epochFrom : epochAfter (epochFrom b j) (epochFrom b k) = true ↔ k < j := by
  have hdiff : epochFrom b j - epochFrom b k = BitVec.ofNat 16 j - BitVec.ofNat 16 k := by
    unfold epochFrom
    bv_omega
  unfold epochAfter
  rw [hdiff, Bool.and_eq_true, decide_eq_true_eq, decide_eq_true_eq, BitVec.toNat_sub, BitVec.toNat_ofNat, BitVec.toNat_ofNat]
  omega

theorem epochFrom_sub (h : k ≤ j) : (epochFrom b j - epochFrom b k).toNat = j - k := by
  have hdiff : epochFrom b j - epochFrom b k = BitVec.ofNat 16 j - BitVec.ofNat 16 k := by
    unfold epochFrom
    bv_omega
  rw [hdiff, BitVec.toNat_sub, BitVec.toNat_ofNat, BitVec.toNat_ofNat]
  omega

end

theorem epochAfter_irrefl (e : Epoch) : ¬epochAfter e e = true := by
  have h := (epochAfter_epochFrom (b := e) (j := 0) (k := 0) (by decide) (by decide)).not.mpr (lt_irrefl 0)
  rwa [epochFrom_zero] at h

/-! ### Records in order -/

/-- The records carry the epochs from `b` on, one after another. -/
def recordsFrom (b : Epoch) (w : List EpochRec) : Prop := w.map EpochRec.epoch = (List.range w.length).map (epochFrom b)

theorem recordsFrom_iff {b : Epoch} {w : List EpochRec} :
    recordsFrom b w ↔ ∀ (j : Nat) (h : j < w.length), w[j].epoch = epochFrom b j := by
  constructor
  · intro h j hj
    have hj' := congrArg (fun l => l[j]?) h
    simpa [hj] using hj'
  · intro h
    refine List.ext_getElem (by simp) fun j hj _ => ?_
    simpa using h j (by simpa using hj)

theorem recordsFrom_cons {b : Epoch} {r : EpochRec} {w : List EpochRec} :
    recordsFrom b (r :: w) ↔ r.epoch = b ∧ recordsFrom (b + 1) w := by
  have hsucc (j : Nat) : epochFrom (b + 1) j = epochFrom b (j + 1) := by
    rw [← epochFrom_one, epochFrom_epochFrom, Nat.add_comm]
  rw [recordsFrom_iff, recordsFrom_iff]
  constructor
  · intro h
    refine ⟨(h 0 (by simp)).trans (epochFrom_zero b), fun j hj => ?_⟩
    rw [hsucc]
    exact h (j + 1) (by simpa using hj)
  · rintro ⟨h0, h⟩ j hj
    cases j with
    | zero => exact h0.trans (epochFrom_zero b).symm
    | succ j => exact (h j (by simpa using hj)).trans (hsucc j)

theorem consecutive_cons_iff {r : EpochRec} {w : List EpochRec} :
    consecutive (r :: w) ↔ recordsFrom (r.epoch + 1) w := by
  induction w generalizing r with
  | nil => exact ⟨fun _ => rfl, fun _ => trivial⟩
  | cons q w ih =>
    rw [recordsFrom_cons]
    exact and_congr_right fun hq => hq ▸ ih

/-- A window's records are consecutive when they carry the epochs from some epoch on. -/
theorem consecutive_iff {w : List EpochRec} : consecutive w ↔ ∃ b, recordsFrom b w := by
  cases w with
  | nil => exact ⟨fun _ => ⟨0, rfl⟩, fun _ => trivial⟩
  | cons r w =>
    rw [consecutive_cons_iff]
    refine ⟨fun h => ⟨r.epoch, recordsFrom_cons.mpr ⟨rfl, h⟩⟩, fun ⟨b, h⟩ => ?_⟩
    obtain ⟨rfl, h⟩ := recordsFrom_cons.mp h
    exact h

theorem recordsFrom_of_consecutive {r : EpochRec} {w : List EpochRec} (h : consecutive (r :: w)) :
    recordsFrom r.epoch (r :: w) := recordsFrom_cons.mpr ⟨rfl, consecutive_cons_iff.mp h⟩

/-- Each record of an ordered window stands a number of places after the oldest. -/
theorem recordsFrom_mem {b : Epoch} {w : List EpochRec} (h : recordsFrom b w) {q : EpochRec} (hq : q ∈ w) :
    ∃ j, j < w.length ∧ q.epoch = epochFrom b j := by
  obtain ⟨j, hj, rfl⟩ := List.mem_iff_getElem.mp hq
  exact ⟨j, hj, recordsFrom_iff.mp h j hj⟩

theorem recordsFrom_append {b : Epoch} {v w : List EpochRec} :
    recordsFrom b (v ++ w) ↔ recordsFrom b v ∧ recordsFrom (epochFrom b v.length) w := by
  induction v generalizing b with
  | nil => simp [recordsFrom, epochFrom_zero]
  | cons r v ih =>
    rw [List.cons_append, recordsFrom_cons, recordsFrom_cons, ih, and_assoc, ← epochFrom_one, epochFrom_epochFrom,
      List.length_cons, Nat.add_comm]

theorem recordsFrom_map {b : Epoch} {w : List EpochRec} {f : EpochRec → EpochRec} (hf : ∀ r, (f r).epoch = r.epoch) :
    recordsFrom b (w.map f) ↔ recordsFrom b w := by
  unfold recordsFrom
  rw [List.map_map, List.length_map]
  exact Eq.congr_left (List.map_congr_left fun r _ => hf r)

/-- Records of an ordered window stand apart: a later one has a later epoch. -/
theorem recordsFrom_pairwise {b : Epoch} {w : List EpochRec} (h : recordsFrom b w) (hlen : w.length ≤ 32768) :
    w.Pairwise fun x y => epochAfter y.epoch x.epoch = true := by
  rw [List.pairwise_iff_getElem]
  intro i j hi hj hij
  rw [recordsFrom_iff.mp h i hi, recordsFrom_iff.mp h j hj]
  exact (epochAfter_epochFrom (by omega) (by omega)).mpr hij

end Sys2Proof.Machine
end

section
/-! PROOF. Joining the set (R61, R62), and a MARK on a lane outside it. -/

-- Checked one after another, as the tests are: the theorems of a section all at once take a thread each.
set_option Elab.async false

namespace Sys2Proof.Machine

/-! ### MARK cells on an aligned lane (R29, R81) -/

theorem exec_markCell {s : State} {l : Lane} {c : Octets} (h : alignedLaneCell s l c) (hmark : octet c 0 = 0x10)
    (htag : s.ports[l.port].profile.tag = none ∨ s.ports[l.port].profile.tag = some (octet c 12)) :
    exec (.cellArrival l.port c) s =
      .next (alignMark l (markedEpoch c) (declaredCount c)
        (credited l.port (fun k => { k with valid := bump k.valid, markArrivals := bump k.markArrivals }) s)) := by
  obtain ⟨hup, hnone, hc, hhead, hform, ha⟩ := h
  rw [exec_validCell hup hnone hc hhead hform (tagFails_agrees htag), dispatchCell_mark hmark]
  unfold markArrives
  rw [countPort_credited, lane?_port]
  dsimp only
  rw [laneAligned_credited, (laneAligned_iff s l).mpr ha]
  rfl

section
variable {s : State} {l : Lane} (f : Epoch) (d : Nat)

/-- A MARK that the lane's membership counts alone. -/
theorem alignMark_counts (h : s.lanes[l].member = .waiting ∨ s.lanes[l].member = .lagging) :
    alignMark l f d s = laneCounted l (fun k => { k with marks := bump k.marks }) s := by
  have h' : (countLane l (fun k => { k with marks := bump k.marks }) s).lanes[l].member = .waiting ∨
      (countLane l (fun k => { k with marks := bump k.marks }) s).lanes[l].member = .lagging := h
  rcases h' with h' | h' <;> simp only [alignMark, h'] <;> rfl

theorem alignMark_joining (h : s.lanes[l].member = .joining) :
    alignMark l f d s = tryJoin l f (laneCounted l (fun k => { k with marks := bump k.marks }) s) := by
  have h' : (countLane l (fun k => { k with marks := bump k.marks }) s).lanes[l].member = .joining := h
  simp only [alignMark, h']
  rfl

theorem alignMark_closes {e : Epoch} {late : Bool} (h : s.lanes[l].member = .isIn e late) :
    alignMark l (e + 1) d s = close l e late d (laneCounted l (fun k => { k with marks := bump k.marks }) s) := by
  have h' : (countLane l (fun k => { k with marks := bump k.marks }) s).lanes[l].member = .isIn e late := h
  simp only [alignMark, h', if_true]
  rfl

theorem alignMark_slips {e : Epoch} {late : Bool} (h : s.lanes[l].member = .isIn e late) (hf : f ≠ e + 1) :
    alignMark l f d s = slip l e f (laneCounted l (fun k => { k with marks := bump k.marks }) s) := by
  have h' : (countLane l (fun k => { k with marks := bump k.marks }) s).lanes[l].member = .isIn e late := h
  simp only [alignMark, h', if_neg hf]
  rfl

end

/-! ### Whether a MARK is joinable (R61) -/

/-- The records in which a lane is CLOSED all precede an epoch within the window's reach when the newest of them does. -/
theorem newestClosed_before {s : State} {l : Lane} {b : Epoch} {k : Nat} (h : recordsFrom b s.aligner.window)
    (hlen : s.aligner.window.length ≤ 4) (hk : k ≤ 3) :
    (newestClosed s l).all (fun r => epochAfter (epochFrom b k) r.epoch) = true ↔
    ∀ q ∈ s.aligner.window, q.status[l] = .closed → epochAfter (epochFrom b k) q.epoch = true := by
  have hmem (q : EpochRec) : q ∈ s.aligner.window.filter (fun r => r.status[l] == .closed) ↔
      q ∈ s.aligner.window ∧ q.status[l] = .closed := by
    rw [List.mem_filter, beq_iff_eq]
  cases hn : newestClosed s l with
  | none =>
    have hnone := List.getLast?_eq_none_iff.mp hn
    refine ⟨fun _ q hq hc => ?_, fun _ => rfl⟩
    have hq' := (hmem q).mpr ⟨hq, hc⟩
    rw [hnone] at hq'
    exact nomatch hq'
  | some x =>
    obtain ⟨older, hsplit⟩ := List.getLast?_eq_some_iff.mp hn
    obtain ⟨hx, hxc⟩ := (hmem x).mp (hsplit ▸ List.mem_append_right _ (List.mem_singleton_self x))
    refine ⟨fun (hafter : epochAfter (epochFrom b k) x.epoch = true) q hq hc => ?_, fun hall => hall x hx hxc⟩
    have hpair := (recordsFrom_pairwise h (by omega)).filter (fun r => r.status[l] == .closed)
    have hq' := (hmem q).mpr ⟨hq, hc⟩
    rw [hsplit] at hpair hq'
    rcases List.mem_append.mp hq' with hold | hlast
    · have hbefore := (List.pairwise_append.mp hpair).2.2 q hold x (List.mem_singleton_self x)
      obtain ⟨i, hi, hqe⟩ := recordsFrom_mem h hq
      obtain ⟨j, hj, hxe⟩ := recordsFrom_mem h hx
      rw [hxe] at hafter hbefore
      rw [hqe] at hbefore ⊢
      have hjk := (epochAfter_epochFrom (by omega) (by omega)).mp hafter
      have hij := (epochAfter_epochFrom (by omega) (by omega)).mp hbefore
      exact (epochAfter_epochFrom (by omega) (by omega)).mpr (by omega)
    · rw [List.mem_singleton.mp hlast]
      exact hafter

section
variable {s : State} {l : Lane} {e : Epoch} {r : EpochRec} {rest : List EpochRec}

theorem joinable_running (hrun : s.aligner.running = true) (hw : s.aligner.window = r :: rest) :
    joinable s l e =
      (decide ((e - r.epoch).toNat ≤ 3) && s.aligner.lastReleased.all (epochAfter e) &&
        (newestClosed s l).all fun q => epochAfter e q.epoch) := by
  unfold joinable
  rw [hrun, hw]
  cases s.aligner.lastReleased <;> cases newestClosed s l <;> rfl

theorem joinable_far (hrun : s.aligner.running = true) (hw : s.aligner.window = r :: rest)
    (hfar : 3 < (e - r.epoch).toNat) : ¬joinable s l e = true := by
  have hnear : decide ((e - r.epoch).toNat ≤ 3) = false := decide_eq_false (by omega)
  rw [joinable_running hrun hw, hnear]
  exact Bool.false_ne_true

theorem joinable_iff (hrun : s.aligner.running = true) (hw : s.aligner.window = r :: rest) (ho : windowOrdered s) :
    joinable s l e = true ↔ joinableAt s l r e := by
  by_cases hfar : 3 < (e - r.epoch).toNat
  · exact ⟨fun h => absurd h (joinable_far hrun hw hfar), fun h => absurd h.1 (by omega)⟩
  · obtain ⟨hlen, hcons⟩ := ho
    have hrec : recordsFrom r.epoch s.aligner.window := by
      rw [hw] at hcons ⊢
      exact recordsFrom_of_consecutive hcons
    have hclosed := newestClosed_before (l := l) hrec hlen (Nat.not_lt.mp hfar)
    rw [epochFrom_distance] at hclosed
    have hreleased : s.aligner.lastReleased.all (epochAfter e) = true ↔
        ∀ x, s.aligner.lastReleased = some x → epochAfter e x = true := by
      cases s.aligner.lastReleased <;> simp
    unfold joinableAt
    rw [joinable_running hrun hw, Bool.and_eq_true, Bool.and_eq_true, hclosed, hreleased, decide_eq_true_eq, and_assoc]

theorem joinable_next (hrun : s.aligner.running = true) (hw : s.aligner.window = []) :
    joinable s l e = true ↔ s.aligner.lastReleased = some (e - 1) := by
  simp only [joinable, hrun, hw, if_true, beq_iff_eq]

end

/-! ### What a join leaves (R62) -/

/-- A record in which a lane is not NA keeps its due count (R58). -/
theorem dueWhenEmpty_of_ne {d : Nat} {r : EpochRec} {l : Lane} (h : r.status[l] ≠ .na) : dueWhenEmpty d r = r :=
  if_neg fun hall => h (hall l)

theorem dueWhenEmpty_epoch (d : Nat) (r : EpochRec) : (dueWhenEmpty d r).epoch = r.epoch := by
  unfold dueWhenEmpty
  split <;> rfl

theorem createdRecord_eq (s : State) (e : Epoch) : createdRecord s e = dueWhenEmpty s.aligner.skew (newRecord s e) := rfl

theorem createdRecord_epoch (s : State) (e : Epoch) : (createdRecord s e).epoch = e := dueWhenEmpty_epoch _ _

theorem createdRecord_arrivals (s : State) (e : Epoch) : (createdRecord s e).arrivals = Vector.replicate 6 0 := by
  unfold createdRecord dueWhenEmpty
  split <;> rfl

theorem setStatus_at (l : Lane) (x : LaneStatus) (r : EpochRec) : (r.setStatus l x).status[l] = x := upd_at _ _ _

/-- The joining lane's record is the one of the joining epoch, no other (R62 step 3). -/
theorem joinStatus_same {l : Lane} {e : Epoch} {r : EpochRec} (h : r.epoch = e) :
    joinStatus l e r = (r.setStatus l .expected).setArrivals l 0 := if_pos (beq_iff_eq.mpr h)

theorem joinStatus_later {l : Lane} {e : Epoch} {r : EpochRec} (hne : r.epoch ≠ e) (h : epochAfter r.epoch e = true) :
    joinStatus l e r = r.setStatus l .expected :=
  (if_neg fun hb => hne (beq_iff_eq.mp hb)).trans (if_pos h)

theorem joinStatus_older {l : Lane} {e : Epoch} {r : EpochRec} (hne : r.epoch ≠ e) (h : ¬epochAfter r.epoch e = true) :
    joinStatus l e r = if r.status[l] = .closed then r else r.setStatus l .na :=
  (if_neg fun hb => hne (beq_iff_eq.mp hb)).trans (if_neg h)

section
variable {s : State} {l : Lane} {e : Epoch}

theorem join_running (hrun : s.aligner.running = true) :
    join l e s =
      joinedAt l e
        ((s.aligner.window ++ (recordsUpTo s e).map (dueWhenEmpty s.aligner.skew)).map fun q =>
          dueWhenEmpty s.aligner.skew (joinStatus l e q)) s := by
  have hmap (w : List EpochRec) : (w.map fun q => dueWhenEmpty s.aligner.skew (joinStatus l e q)) =
      (w.map (joinStatus l e)).map (dueWhenEmpty s.aligner.skew) := by
    rw [List.map_map]
    rfl
  unfold join
  rw [hrun, if_pos rfl, hmap]
  unfold dueEmptyRecords
  simp only [dueIfEmpty_eq]
  rfl

/-- With no lane IN a new record expects none (R57). -/
theorem newRecord_noneIn (hin : ∀ m : Lane, s.lanes[m].member.inSet = false) :
    newRecord s e = { epoch := e, due := none, status := Vector.replicate 6 .na, arrivals := Vector.replicate 6 0 } := by
  have hstatus : (s.lanes.map fun x => if x.member.inSet then LaneStatus.expected else LaneStatus.na) =
      Vector.replicate 6 .na := by
    refine Vector.ext fun i hi => ?_
    have hi' : s.lanes[i].member.inSet = false := hin ⟨i, hi⟩
    rw [Vector.getElem_map, Vector.getElem_replicate, hi']
    rfl
  unfold newRecord
  rw [hstatus]

theorem replicate_upd {α : Type} {n : Nat} (i : Fin n) (x : α) : (upd (Vector.replicate n x) i fun _ => x) = Vector.replicate n x :=
  upd_same _ _ _ (Vector.getElem_replicate ..).symm

/-- A join that starts an EMPTY set (R62). -/
theorem join_starts (hrun : s.aligner.running = false) (hin : ∀ m : Lane, s.lanes[m].member.inSet = false) :
    join l e s =
      laneCounted l (fun k => { k with joins := bump k.joins })
        { s with
          lanes := upd s.lanes l fun x => { x with member := .isIn e false }
          aligner := { s.aligner with
            running := true
            window :=
              [{ epoch := e, due := none, status := (Vector.replicate 6 LaneStatus.na).set l.val .expected,
                 arrivals := Vector.replicate 6 0 }] } } := by
  have hrecord : EpochRec.dueIfEmpty s.aligner.skew (joinStatus l e (newRecord s e)) =
      { epoch := e, due := none, status := (Vector.replicate 6 LaneStatus.na).set l.val .expected,
        arrivals := Vector.replicate 6 0 } := by
    rw [dueIfEmpty_eq, joinStatus_same (newRecord_fields s e).1, dueWhenEmpty_of_ne (l := l), newRecord_noneIn hin]
    · unfold EpochRec.setArrivals EpochRec.setStatus
      rw [replicate_upd]
      rfl
    · exact (setStatus_at l .expected _).symm ▸ by decide
  unfold join
  rw [hrun, if_neg Bool.false_ne_true]
  rw [← hrecord]
  rfl

/-- A join into a RUNNING set with an empty window (R62). -/
theorem join_next (hrun : s.aligner.running = true) (hw : s.aligner.window = []) :
    join l e s =
      joinedAt l e [{ createdRecord s e with status := upd (createdRecord s e).status l fun _ => .expected }] s := by
  have hnew : recordsUpTo s e = [newRecord s e] := by
    unfold recordsUpTo newest
    rw [hw]
    rfl
  have hrecord : dueWhenEmpty s.aligner.skew (joinStatus l e (createdRecord s e)) =
      { createdRecord s e with status := upd (createdRecord s e).status l fun _ => .expected } := by
    rw [joinStatus_same (createdRecord_epoch s e), dueWhenEmpty_of_ne (l := l)]
    · unfold EpochRec.setArrivals EpochRec.setStatus
      rw [createdRecord_arrivals, replicate_upd, ← createdRecord_arrivals s e]
    · exact (setStatus_at l .expected _).symm ▸ by decide
  rw [join_running hrun, hw, hnew, ← hrecord]
  rfl

theorem createdRecord_at (r : EpochRec) (w : List EpochRec) (j : Nat) (hrec : recordsFrom r.epoch w) :
    ((w[j]?).getD (createdRecord s (epochFrom r.epoch j))).epoch = epochFrom r.epoch j := by
  by_cases hj : j < w.length
  · rw [List.getElem?_eq_getElem hj]
    exact recordsFrom_iff.mp hrec j hj
  · rw [List.getElem?_eq_none (Nat.not_lt.mp hj)]
    exact createdRecord_epoch _ _

/-- The records up to the joining epoch, those of the window first (R62 step 1). -/
theorem recordsUpTo_window {r : EpochRec} {rest : List EpochRec} {k : Nat} (hw : s.aligner.window = r :: rest)
    (hrec : recordsFrom r.epoch s.aligner.window) (hlen : s.aligner.window.length ≤ 4) (hk : k ≤ 3) :
    s.aligner.window ++ (recordsUpTo s (epochFrom r.epoch k)).map (dueWhenEmpty s.aligner.skew) =
      (List.range (max s.aligner.window.length (k + 1))).map fun j =>
        (s.aligner.window[j]?).getD (createdRecord s (epochFrom r.epoch j)) := by
  have hpos : 0 < s.aligner.window.length := by
    rw [hw]
    exact Nat.succ_pos _
  have hnewest : newest s = some s.aligner.window[s.aligner.window.length - 1] := by
    unfold newest
    rw [List.getLast?_eq_getElem?, List.getElem?_eq_getElem]
  have hlast := recordsFrom_iff.mp hrec (s.aligner.window.length - 1) (by omega)
  have hnew : recordsUpTo s (epochFrom r.epoch k) =
      (List.range (k + 1 - s.aligner.window.length)).map fun i =>
        newRecord s (epochFrom r.epoch (s.aligner.window.length + i)) := by
    have hafter := epochAfter_epochFrom (b := r.epoch) (j := k) (k := s.aligner.window.length - 1) (by omega) (by omega)
    unfold recordsUpTo
    rw [hnewest]
    dsimp only
    rw [hlast]
    by_cases hk' : s.aligner.window.length - 1 < k
    · rw [if_pos (hafter.mpr hk'), epochFrom_sub (by omega) (by omega) hk'.le,
        show k + 1 - s.aligner.window.length = k - (s.aligner.window.length - 1) by omega]
      refine List.map_congr_left fun i _ => congrArg (newRecord s) ?_
      refine (epochFrom_epochFrom _ _ _).trans (congrArg (epochFrom r.epoch) ?_)
      omega
    · rw [if_neg fun h => hk' (hafter.mp h), show k + 1 - s.aligner.window.length = 0 by omega]
      rfl
  refine List.ext_getElem ?_ fun j hj hj' => ?_
  · rw [hnew]
    simp only [List.length_append, List.length_map, List.length_range]
    omega
  · rw [List.getElem_map, List.getElem_range, List.getElem_append]
    split
    · next hin => rw [List.getElem?_eq_getElem hin, Option.getD_some]
    · next hout =>
      rw [List.getElem?_eq_none (Nat.not_lt.mp hout), Option.getD_none, createdRecord_eq]
      simp only [hnew, List.getElem_map, List.getElem_range]
      rw [Nat.add_sub_cancel' (Nat.not_lt.mp hout)]

/-- A join into a RUNNING set whose window holds a record (R62). -/
theorem join_window {r : EpochRec} {rest : List EpochRec} (hrun : s.aligner.running = true)
    (hw : s.aligner.window = r :: rest) (ho : windowOrdered s) (hnear : (e - r.epoch).toNat ≤ 3) :
    join l e s = joinedAt l e (joinedWindow s l r (e - r.epoch).toNat) s := by
  obtain ⟨hlen, hcons⟩ := ho
  have hrec : recordsFrom r.epoch s.aligner.window := by
    rw [hw] at hcons ⊢
    exact recordsFrom_of_consecutive hcons
  have hwindow : ((s.aligner.window ++ (recordsUpTo s e).map (dueWhenEmpty s.aligner.skew)).map fun q =>
      dueWhenEmpty s.aligner.skew (joinStatus l e q)) = joinedWindow s l r (e - r.epoch).toNat := by
    have he := epochFrom_distance e r.epoch
    generalize (e - r.epoch).toNat = k at hnear he
    subst he
    rw [recordsUpTo_window hw hrec hlen hnear, List.map_map]
    refine List.map_congr_left fun j hj => ?_
    have hj' := List.mem_range.mp hj
    have hq := createdRecord_at (s := s) r s.aligner.window j hrec
    dsimp only [Function.comp]
    change dueWhenEmpty _ (joinStatus l _ ((s.aligner.window[j]?).getD (createdRecord s (epochFrom r.epoch j)))) = _
    generalize hgen : (s.aligner.window[j]?).getD (createdRecord s (epochFrom r.epoch j)) = q at hq
    have hgen' : (s.aligner.window[j]?).getD (createdRecord s (r.epoch + BitVec.ofNat 16 j)) = q := hgen
    rw [hgen']
    have hsame := epochFrom_inj (b := r.epoch) (j := j) (k := k) (by omega) (by omega)
    have hlater := epochAfter_epochFrom (b := r.epoch) (j := j) (k := k) (by omega) (by omega)
    rw [← hq] at hsame hlater
    rcases lt_trichotomy j k with hjk | hjk | hjk
    · rw [if_pos hjk, joinStatus_older (fun h => absurd (hsame.mp h) (by omega)) (fun h => absurd (hlater.mp h) (by omega))]
      rfl
    · rw [if_neg (by omega), if_pos hjk, joinStatus_same (hsame.mpr hjk), dueWhenEmpty_of_ne (l := l)]
      · rfl
      · exact (setStatus_at l .expected _).symm ▸ by decide
    · rw [if_neg (by omega), if_neg (by omega), joinStatus_later (fun h => absurd (hsame.mp h) (by omega)) (hlater.mpr hjk),
        dueWhenEmpty_of_ne (l := l)]
      · rfl
      · exact (setStatus_at l .expected _).symm ▸ by decide
  rw [join_running hrun, hwindow]

end

/-- Settles O13: by membership, then by the state of the set and the window. -/
theorem markOnALaneOutsideTheSet : Obligations.MarkOnALaneOutsideTheSet := by
  intro s l c hcell hmark htag
  rw [exec_markCell hcell hmark htag]
  refine ⟨fun h => ?counted, fun h => ⟨fun hrun hin => ?starts, fun hrun => ⟨fun r rest hw => ?window, fun hw => ?next⟩⟩⟩
  case counted => exact congrArg Host.Outcome.next (alignMark_counts (s := credited _ _ s) _ _ h)
  all_goals
    have hjoin : alignMark l (markedEpoch c) (declaredCount c)
        (credited l.port (fun k => { k with valid := bump k.valid, markArrivals := bump k.markArrivals }) s) =
        tryJoin l (markedEpoch c) (markTaken l s) := alignMark_joining (s := credited _ _ s) _ _ h
    rw [hjoin]
    unfold tryJoin
  case starts =>
    have hopen : joinable (markTaken l s) l (markedEpoch c) = true := if_neg (ne_true_of_eq_false hrun)
    rw [if_pos hopen, join_starts (s := markTaken l s) hrun hin]
    rfl
  case window =>
    refine ⟨fun hfar => ?_, fun ho hnot => ?_, fun ho hat => ?_⟩
    · rw [if_neg (joinable_far (s := markTaken l s) hrun hw hfar)]
    · rw [if_neg ((joinable_iff (s := markTaken l s) hrun hw ho).not.mpr hnot)]
    · rw [if_pos ((joinable_iff (s := markTaken l s) hrun hw ho).mpr hat),
        join_window (s := markTaken l s) hrun hw ho hat.1]
      rfl
  case next =>
    refine ⟨fun hlast => ?_, fun hlast => ?_⟩
    · rw [if_pos ((joinable_next (s := markTaken l s) hrun hw).mpr hlast), join_next (s := markTaken l s) hrun hw]
      rfl
    · rw [if_neg ((joinable_next (s := markTaken l s) hrun hw).not.mpr hlast)]

end Sys2Proof.Machine
end

section
/-! PROOF. A slip (R66), with the set reset test (R74). -/

-- Checked one after another, as the tests are: the theorems of a section all at once take a thread each.
set_option Elab.async false

namespace Sys2Proof.Machine

/-! ### A lane gives up its cells of an epoch (R47) -/

theorem takeOut_eq (l : Lane) (e : Epoch) (s : State) :
    takeOut l e s = cellsTaken l e s.lanes[l].member s.lanes[l].lateCount s := by
  have hlanes := (takeOut_lanes l e s).trans (upd_congr s.lanes l _
    (fun x =>
      { queue := x.queue.filter fun q => !(q.epoch == e)
        high := judgedHigh s.ports[l.port].profile (x.queue.filter fun q => !(q.epoch == e)).length x.high
        member := s.lanes[l].member
        lateCount := s.lanes[l].lateCount }) rfl)
  exact congrArg (fun v => { s with lanes := v }) hlanes

theorem discardEpoch_eq (l : Lane) (e : Epoch) (s : State) :
    discardEpoch l e s =
      { cellsTaken l e s.lanes[l].member s.lanes[l].lateCount s with
        free := s.free + s.lanes[l].queue.countP fun q => q.epoch == e } := by
  unfold discardEpoch
  rw [takeOut_eq, epochRecs, ← List.countP_eq_length_filter]
  rfl

theorem modLane_cellsTaken (l : Lane) (e : Epoch) (m m' : Membership) (n n' : Nat) (s : State) :
    modLane l (fun x => { x with member := m', lateCount := n' }) (cellsTaken l e m n s) = cellsTaken l e m' n' s := by
  unfold modLane cellsTaken
  dsimp only
  rw [upd_upd]

/-! ### The slip (R66) -/

theorem slipStatus_eq (l : Lane) (e : Epoch) (r : EpochRec) :
    slipStatus l e r =
      if r.epoch = e ∨ (epochAfter r.epoch e = true ∧ r.status[l] = .expected) then laneOut l r else r := by
  unfold slipStatus
  rw [setNA_eq]
  simp only [Bool.or_eq_true, Bool.and_eq_true, beq_iff_eq]

theorem modLane_raise (l : Lane) (f : LaneState → LaneState) (k : NoticeKind) (x : Byte) (d : Octets) (s : State) :
    modLane l f (raise k x d s) = raise k x d (modLane l f s) := by
  have hlanes : (raise k x d s).lanes = s.lanes := by simp
  unfold modLane
  rw [hlanes]
  exact (raise_lanes k x d _ s).symm

/-- The records after a slip (R58, R66 step 2). -/
theorem slippedWindow_eq (l : Lane) (e : Epoch) (d : Nat) (w : List EpochRec) :
    (w.map (slipStatus l e)).map (EpochRec.dueIfEmpty d) =
      w.map fun x => dueWhenEmpty d
        (if x.epoch = e ∨ (epochAfter x.epoch e = true ∧ x.status[l] = .expected) then laneOut l x else x) := by
  rw [List.map_map, dueIfEmpty_eq]
  exact List.map_congr_left fun r _ => congrArg (dueWhenEmpty d) (slipStatus_eq l e r)

/-- The share of a slip before the MARK is judged as a join (R66 steps 1 to 4). -/
theorem slip_eq (l : Lane) (c : Octets) (e : Epoch) (s : State) :
    slip l e (markedEpoch c) (markTaken l s) = setResetTest (tryJoin l (markedEpoch c) (slippedLane l c e s)) := by
  have hcells : modLane l (fun x => { x with member := .joining })
      (dueEmptyRecords (modWindow (List.map (slipStatus l e)) (discardEpoch l e (markTaken l s)))) =
      { cellsTaken l e .joining s.lanes[l].lateCount (markTaken l s) with
        free := s.free + s.lanes[l].queue.countP fun q => q.epoch == e
        aligner := { s.aligner with
          window := s.aligner.window.map fun x =>
            dueWhenEmpty s.aligner.skew
              (if x.epoch = e ∨ (epochAfter x.epoch e = true ∧ x.status[l] = .expected) then laneOut l x else x) } } := by
    have hjoining : upd (cellsTaken l e s.lanes[l].member s.lanes[l].lateCount (markTaken l s)).lanes l
        (fun x => { x with member := .joining }) =
        (cellsTaken l e .joining s.lanes[l].lateCount (markTaken l s)).lanes := by
      unfold cellsTaken
      dsimp only
      rw [upd_upd]
    rw [discardEpoch_eq, ← slippedWindow_eq]
    dsimp only
    rw [← hjoining]
    rfl
  unfold slip slippedLane
  dsimp only
  rw [← hcells, ← modLane_raise]
  rfl

/-! ### The set reset test (R74) -/

theorem setResetTest_window {s : State} (h : s.aligner.window ≠ []) : setResetTest s = s := by
  rw [setResetTest_eq, if_neg fun hreset => h hreset.1]

theorem joinedAt_window_ne {l : Lane} {e : Epoch} {w : List EpochRec} {s : State} (h : w ≠ []) :
    setResetTest (joinedAt l e w s) = joinedAt l e w s := setResetTest_window h

/-! ### What a slip leaves -/

theorem markTaken_profile (l : Lane) (q : Port) (s : State) : (markTaken l s).ports[q].profile = s.ports[q].profile :=
  credited_profile l.port q (fun k => { k with valid := bump k.valid, markArrivals := bump k.markArrivals }) s

section
variable {s : State} {l : Lane} {c : Octets} {e : Epoch}

/-- The records of a slip, one by one. -/
def slippedRecord (l : Lane) (e : Epoch) (d : Nat) (x : EpochRec) : EpochRec :=
  dueWhenEmpty d (if x.epoch = e ∨ (epochAfter x.epoch e = true ∧ x.status[l] = .expected) then laneOut l x else x)

theorem slippedRecord_epoch (d : Nat) (x : EpochRec) : (slippedRecord l e d x).epoch = x.epoch := by
  unfold slippedRecord
  rw [dueWhenEmpty_epoch]
  split <;> rfl

theorem slippedRecord_notClosed {d : Nat} {x : EpochRec} (h : x.status[l] ≠ .closed) :
    (slippedRecord l e d x).status[l] ≠ .closed := by
  have hstatus (y : EpochRec) : (dueWhenEmpty d y).status = y.status := by
    unfold dueWhenEmpty
    split <;> rfl
  unfold slippedRecord
  rw [hstatus]
  split
  · exact (upd_at x.status l fun _ => LaneStatus.na).symm ▸ by decide
  · exact h

theorem slippedLane_aligner :
    (slippedLane l c e s).aligner =
      { s.aligner with window := s.aligner.window.map (slippedRecord l e s.aligner.skew) } := by
  unfold slippedLane laneCounted
  simp only [raise_frame]
  rfl

theorem slippedLane_lanes (m : Lane) :
    (slippedLane l c e s).lanes[m] =
      if m = l then
        { queue := s.lanes[l].queue.filter fun q => !(q.epoch == e)
          high := judgedHigh s.ports[l.port].profile (s.lanes[l].queue.filter fun q => !(q.epoch == e)).length s.lanes[l].high
          member := .joining
          lateCount := s.lanes[l].lateCount }
      else s.lanes[m] := by
  have hlanes : (slippedLane l c e s).lanes = (cellsTaken l e .joining s.lanes[l].lateCount (markTaken l s)).lanes := by
    unfold slippedLane laneCounted
    simp only [raise_frame]
  rw [hlanes]
  unfold cellsTaken
  rw [upd_get]
  split
  · next h =>
    subst h
    have hprofile : (markTaken m s).ports[m.port].profile = s.ports[m.port].profile := markTaken_profile _ _ _
    rw [hprofile]
    rfl
  · rfl

theorem windowOrdered_slipped (h : windowOrdered s) : windowOrdered (slippedLane l c e s) := by
  obtain ⟨hlen, hcons⟩ := h
  obtain ⟨b, hb⟩ := consecutive_iff.mp hcons
  unfold windowOrdered
  rw [slippedLane_aligner]
  exact ⟨by rwa [List.length_map], consecutive_iff.mpr ⟨b, (recordsFrom_map (slippedRecord_epoch _)).mpr hb⟩⟩

variable (h : alignedLaneCell s l c) (hmark : octet c 0 = 0x10)
  (htag : s.ports[l.port].profile.tag = none ∨ s.ports[l.port].profile.tag = some (octet c 12)) {late : Bool}
  (hm : s.lanes[l].member = .isIn e late) (hf : markedEpoch c ≠ e + 1)
include h hmark htag hm hf

theorem exec_slip :
    exec (.cellArrival l.port c) s =
      .next (setResetTest (tryJoin l (markedEpoch c) (slippedLane l c e s))) := by
  have hslip : alignMark l (markedEpoch c) (declaredCount c)
      (credited l.port (fun k => { k with valid := bump k.valid, markArrivals := bump k.markArrivals }) s) =
      slip l e (markedEpoch c) (markTaken l s) := alignMark_slips (s := credited _ _ s) _ _ hm hf
  rw [exec_markCell h hmark htag, hslip, slip_eq]

end

/-- What a slip leaves whether the MARK then joins or not. -/
def slipLeaves (l : Lane) (c : Octets) (e : Epoch) (s t : State) : Prop :=
  t.free = s.free + s.lanes[l].queue.countP (fun q => q.epoch == e) ∧
  t.lanes[l].queue = s.lanes[l].queue.filter (fun q => !(q.epoch == e)) ∧
  t.lanes[l].lateCount = s.lanes[l].lateCount ∧ (∀ m : Lane, m ≠ l → t.lanes[m] = s.lanes[m]) ∧
  t.counters.lanes[l].slips = bump s.counters.lanes[l].slips ∧
  t.counters.lanes[l].marks = bump s.counters.lanes[l].marks ∧
  (opensRecord s .laneSlip (BitVec.ofNat 8 l.val) →
    t.notices.waiting = s.notices.waiting ++
      [openedRecord .laneSlip (BitVec.ofNat 8 l.val) (o16 (e + 1).toNat ++ o16 (markedEpoch c).toNat)
        s.timer.cycle])

section
variable {s : State} {l : Lane} {c : Octets} {e : Epoch}

theorem slippedLane_slipLeaves : slipLeaves l c e s (slippedLane l c e s) := by
  refine ⟨?free, ?queue, ?late, fun m hm => ?others, ?slips, ?marks, fun hopens => ?notices⟩
  case queue => rw [slippedLane_lanes, if_pos rfl]
  case late => rw [slippedLane_lanes, if_pos rfl]
  case others => rw [slippedLane_lanes, if_neg hm]
  case free => simp [slippedLane, laneCounted]
  case slips => simp [slippedLane, laneCounted, cellsTaken, markTaken, credited]
  case marks => simp [slippedLane, laneCounted, cellsTaken, markTaken, credited]
  case notices =>
    unfold slippedLane
    rw [raise_opens _ (by exact hopens)]
    rfl

theorem joinedAt_slipLeaves {t : State} (f : Epoch) (w : List EpochRec) (h : slipLeaves l c e s t) :
    slipLeaves l c e s (joinedAt l f w t) := by
  obtain ⟨hfree, hqueue, hlate, hothers, hslips, hmarks, hnotices⟩ := h
  refine ⟨hfree, ?_, ?_, fun m hm => ?_, ?_, ?_, hnotices⟩
  · exact (congrArg LaneState.queue (upd_at t.lanes l _)).trans hqueue
  · exact (congrArg LaneState.lateCount (upd_at t.lanes l _)).trans hlate
  · exact ((upd_get t.lanes l m _).trans (if_neg hm)).trans (hothers m hm)
  · exact (congrArg LaneCounters.slips (upd_at t.counters.lanes l _)).trans hslips
  · exact (congrArg LaneCounters.marks (upd_at t.counters.lanes l _)).trans hmarks

theorem joinedAt_member (f : Epoch) (w : List EpochRec) (t : State) :
    (joinedAt l f w t).lanes[l].member = .isIn f false ∧
    (joinedAt l f w t).counters.lanes[l].joins = bump t.counters.lanes[l].joins :=
  ⟨congrArg LaneState.member (upd_at t.lanes l _), congrArg LaneCounters.joins (upd_at t.counters.lanes l _)⟩

/-- With a record in the window, the lane joins it again when it can, and stays out otherwise. -/
theorem slip_window {t : State} {f : Epoch} (hrun : t.aligner.running = true) (hw : t.aligner.window ≠ []) :
    ∃ w, setResetTest (tryJoin l f t) = if joinable t l f = true then joinedAt l f w t else t := by
  refine ⟨(t.aligner.window ++ (recordsUpTo t f).map (dueWhenEmpty t.aligner.skew)).map fun q =>
    dueWhenEmpty t.aligner.skew (joinStatus l f q), ?_⟩
  unfold tryJoin
  split
  · rw [join_running hrun]
    refine joinedAt_window_ne fun hnil => hw ?_
    exact (List.append_eq_nil_iff.mp (List.map_eq_nil_iff.mp hnil)).1
  · exact setResetTest_window hw

/-- Settles O15: first what a slip leaves, then the whole of it. -/
theorem otherMarkIsASlip : Obligations.OtherMarkIsASlip := by
  refine ⟨fun s l c e late hcell hmark htag hm hf hrun r rest hw => ?leaves,
    fun s u l c e f late hcell hmark htag hm hfe hf hrun hu => ?whole⟩
  case leaves =>
    have halign := slippedLane_aligner (s := s) (l := l) (c := c) (e := e)
    have hwindow : (slippedLane l c e s).aligner.window =
        slippedRecord l e s.aligner.skew r :: rest.map (slippedRecord l e s.aligner.skew) := by
      rw [halign, hw]
      rfl
    have hfirst : (slippedRecord l e s.aligner.skew r).epoch = r.epoch := slippedRecord_epoch _ _
    have hrun' : (slippedLane l c e s).aligner.running = true := by rwa [halign]
    obtain ⟨w, hslip⟩ := slip_window (l := l) (f := markedEpoch c) hrun' (hwindow ▸ List.cons_ne_nil _ _)
    rw [exec_slip hcell hmark htag hm hf, hslip]
    have hjoins : (slippedLane l c e s).counters.lanes[l].joins = s.counters.lanes[l].joins := by
      simp [slippedLane, laneCounted, cellsTaken, markTaken, credited]
    have hleaves : slipLeaves l c e s
        (if joinable (slippedLane l c e s) l (markedEpoch c) = true then joinedAt l (markedEpoch c) w (slippedLane l c e s)
         else slippedLane l c e s) := by
      split
      · exact joinedAt_slipLeaves _ _ slippedLane_slipLeaves
      · exact slippedLane_slipLeaves
    obtain ⟨hfree, hqueue, hlate, hothers, hslips, hmarks, hnotices⟩ := hleaves
    refine ⟨_, rfl, hfree, hqueue, hlate, hothers, hslips, hmarks, hnotices, fun hfar => ?_, fun hnear hlast hopen => ?_⟩
    · rw [if_neg (joinable_far hrun' hwindow (by rwa [hfirst]))]
      refine ⟨?_, hjoins, ?_⟩
      · rw [slippedLane_lanes, if_pos rfl]
      · rw [halign]
        rfl
    · have hnone : newestClosed (slippedLane l c e s) l = none := by
        refine List.getLast?_eq_none_iff.mpr (List.filter_eq_nil_iff.mpr fun x hx hc => ?_)
        rw [halign] at hx
        obtain ⟨y, hy, rfl⟩ := List.mem_map.mp hx
        exact slippedRecord_notClosed (hopen y hy) (beq_iff_eq.mp hc)
      have hjoinable : joinable (slippedLane l c e s) l (markedEpoch c) = true := by
        have hall : s.aligner.lastReleased.all (epochAfter (markedEpoch c)) = true := by
          cases hl : s.aligner.lastReleased with
          | none => rfl
          | some x => exact hlast x hl
        rw [joinable_running hrun' hwindow, hfirst, hnone, halign, decide_eq_true hnear]
        exact (Bool.and_true _).trans hall
      rw [if_pos hjoinable, ← hjoins]
      exact joinedAt_member _ _ _
  case whole =>
    subst hu hfe
    have halign := slippedLane_aligner (s := s) (l := l) (c := c) (e := e)
    have hrun' : (slippedLane l c e s).aligner.running = true := by rwa [halign]
    rw [exec_slip hcell hmark htag hm hf]
    refine ⟨fun r rest hw ho => ⟨fun hat => ?_, fun hnot => ?_⟩, fun hw => ?_⟩
    · have ho' := windowOrdered_slipped (l := l) (c := c) (e := e) ho
      unfold tryJoin
      rw [if_pos ((joinable_iff hrun' hw ho').mpr hat), join_window hrun' hw ho' hat.1, joinedAt_window_ne]
      exact List.ne_nil_of_length_pos (by
        unfold joinedWindow
        rw [List.length_map, List.length_range]
        omega)
    · have ho' := windowOrdered_slipped (l := l) (c := c) (e := e) ho
      unfold tryJoin
      rw [if_neg ((joinable_iff hrun' hw ho').not.mpr hnot), setResetTest_window (hw ▸ List.cons_ne_nil _ _)]
    · have hw' : (slippedLane l c e s).aligner.window = [] := by
        rw [halign, hw]
        rfl
      have hlast : (slippedLane l c e s).aligner.lastReleased = s.aligner.lastReleased := by rw [halign]
      have hnext := joinable_next (l := l) (e := markedEpoch c) hrun' hw'
      rw [hlast] at hnext
      unfold tryJoin
      refine ⟨fun h => ?_, fun h => ?_⟩
      · rw [if_pos (hnext.mpr h), join_next hrun' hw', joinedAt_window_ne (List.cons_ne_nil _ _)]
      · have hin : (∀ m : Lane, (slippedLane l c e s).lanes[m].member.inSet = false) ↔
            ∀ m : Lane, m ≠ l → s.lanes[m].member.inSet = false := by
          refine forall_congr' fun m => ?_
          rw [slippedLane_lanes]
          by_cases hml : m = l
          · rw [if_pos hml]
            exact ⟨fun _ hne => absurd hml hne, fun _ => rfl⟩
          · rw [if_neg hml]
            exact ⟨fun h _ => h, fun h => h hml⟩
        rw [if_neg (hnext.not.mpr h), setResetTest_eq]
        refine ⟨fun ⟨m, hml, hmin⟩ => ?_, fun hnone => ?_⟩
        · rw [if_neg fun hreset => nomatch (hin.mp hreset.2 m hml).symm.trans hmin]
        · rw [if_pos ⟨hw', hin.mpr hnone⟩]

end

end Sys2Proof.Machine
end

section
/-! PROOF. The release of the oldest record in the words of R71 to R74. -/

-- Checked one after another, as the tests are: the theorems of a section all at once take a thread each.
set_option Elab.async false

namespace Sys2Proof.Machine

/-! ### A late charge (R72) -/

theorem raise_laneCounted (k : NoticeKind) (x : Byte) (d : Octets) (l : Lane) (f : LaneCounters → LaneCounters) (s : State) :
    raise k x d (laneCounted l f s) = laneCounted l f (raise k x d s) := by
  unfold raise
  rw [apply_ite (laneCounted l f)]
  rfl

theorem modLane_laneCounted (l m : Lane) (g : LaneState → LaneState) (f : LaneCounters → LaneCounters) (s : State) :
    modLane l g (laneCounted m f s) = laneCounted m f (modLane l g s) := rfl

/-- A late charge before the late limit is looked at: the lane with a membership and its late count, counted and
raised (R72 steps 1 to 3). -/
def lateCharged (l : Lane) (e : Epoch) (m : Membership) (s : State) : State :=
  laneCounted l (fun k => { k with lates := bump k.lates })
    (raise .laneLate (BitVec.ofNat 8 l.val) (o16 e.toNat ++ [BitVec.ofNat 8 (min (s.lanes[l].lateCount + 1) 7)])
      { cellsTaken l e m (min (s.lanes[l].lateCount + 1) 7) s with
        free := s.free + s.lanes[l].queue.countP fun q => q.epoch == e })

/-- The window after an ejection: the record being released as it is, and the lane out of the younger ones (R72 step 4). -/
def ejectedWindow (l : Lane) (d : Nat) (w : List EpochRec) : List EpochRec :=
  w.take 1 ++ (w.drop 1).map fun q => dueWhenEmpty d (laneOut l q)

theorem lateFor_eq (l : Lane) (e : Epoch) (s : State) :
    lateFor l e s =
      if s.aligner.lateLimit ≤ min (s.lanes[l].lateCount + 1) 7 then
        laneCounted l (fun k => { k with ejections := bump k.ejections })
          (raise .laneEjected (BitVec.ofNat 8 l.val) (o16 e.toNat ++ [BitVec.ofNat 8 (min (s.lanes[l].lateCount + 1) 7)])
            { lateCharged l e .lagging s with
              aligner := { s.aligner with window := ejectedWindow l s.aligner.skew s.aligner.window } })
      else lateCharged l e (s.lanes[l].member.lateFor e) s := by
  unfold lateFor
  dsimp only
  split
  · rfl
  · cases s.lanes[l].member <;> rfl

theorem modLane_lateCharged (l : Lane) (e : Epoch) (m m' : Membership) (s : State) :
    modLane l (fun x => { x with member := m' }) (lateCharged l e m s) = lateCharged l e m' s := by
  have hcells : modLane l (fun x => { x with member := m' })
      { cellsTaken l e m (min (s.lanes[l].lateCount + 1) 7) s with
        free := s.free + s.lanes[l].queue.countP fun q => q.epoch == e } =
      { cellsTaken l e m' (min (s.lanes[l].lateCount + 1) 7) s with
        free := s.free + s.lanes[l].queue.countP fun q => q.epoch == e } := by
    unfold modLane cellsTaken
    dsimp only
    rw [upd_upd]
  unfold lateCharged
  rw [modLane_laneCounted, modLane_raise, hcells]

/-- The charge of a late lane is the one of R72. -/
theorem lateCharge_eq (l : Lane) (e : Epoch) (s : State) : lateCharge l e s = lateFor l e s := by
  have hcells : modLane l (fun x => { x with member := x.member.lateFor e, lateCount := min (s.lanes[l].lateCount + 1) 7 })
      (discardEpoch l e s) =
      { cellsTaken l e (s.lanes[l].member.lateFor e) (min (s.lanes[l].lateCount + 1) 7) s with
        free := s.free + s.lanes[l].queue.countP fun q => q.epoch == e } := by
    rw [discardEpoch_eq]
    unfold modLane cellsTaken
    dsimp only
    rw [upd_upd]
  have hcharged : raise .laneLate (o8 l.val) (o16 e.toNat ++ [o8 (min (s.lanes[l].lateCount + 1) 7)])
      (countLane l (fun k => { k with lates := bump k.lates })
        (modLane l (fun x => { x with member := x.member.lateFor e, lateCount := min (s.lanes[l].lateCount + 1) 7 })
          (discardEpoch l e s))) = lateCharged l e (s.lanes[l].member.lateFor e) s := by
    rw [hcells]
    exact raise_laneCounted _ _ _ _ _ _
  have hlimit : (lateCharged l e (s.lanes[l].member.lateFor e) s).aligner = s.aligner := by
    unfold lateCharged laneCounted
    simp only [raise_frame]
    rfl
  unfold lateCharge
  dsimp only
  rw [hcharged, hlimit, lateFor_eq]
  split
  · unfold eject
    rw [modLane_lateCharged, hlimit, dueIfEmpty_eq]
    unfold modWindow
    have hlagging : (lateCharged l e .lagging s).aligner = s.aligner := by
      unfold lateCharged laneCounted
      simp only [raise_frame]
      rfl
    rw [hlagging]
    rfl
  · rfl

/-! ### A CLOSED lane's cells (R47, R71 step 3) -/

section
variable (v : Vector LaneState 6) (o : Origin) (c : DataCell) (s : State)

theorem giveBack_lanes : giveBack o { s with lanes := v } = { giveBack o s with lanes := v } := by cases o <;> rfl

theorem groupAdmission_lanes (i : FlowIdx) (g : Group) :
    groupAdmission i g o c { s with lanes := v } = { groupAdmission i g o c s with lanes := v } := by
  by_cases hroom : s.groups[g].limit ≤ s.groups[g].queue.length
  · rw [groupAdmission_full hroom, groupAdmission_full (s := { s with lanes := v }) hroom, ← giveBack_lanes, ← raise_lanes]
    rfl
  · have hroom' := Nat.lt_of_not_le hroom
    cases o with
    | aligned x =>
      rw [groupAdmission_aligned hroom', groupAdmission_aligned (s := { s with lanes := v }) hroom']
      rfl
    | pass =>
      rw [groupAdmission_pass hroom', groupAdmission_pass (s := { s with lanes := v }) hroom']
      dsimp only
      split
      · rw [← raise_lanes]
        rfl
      · rfl

theorem classifyHit_lanes (i : FlowIdx) (e : FlowEntry) :
    classifyHit i e o c { s with lanes := v } = { classifyHit i e o c s with lanes := v } := by
  unfold classifyHit
  split
  · exact giveBack_lanes v o (countFlow i _ s)
  · cases seqVerdict e c.seq with
    | stale => exact giveBack_lanes v o (countFlow i _ s)
    | passes x gap =>
      dsimp only
      split
      · exact giveBack_lanes v o (countFlow i _ (countFlow i _ (modFlow i _ s)))
      · exact groupAdmission_lanes v o c (countFlow i _ (modFlow i _ s)) i e.group

/-- The classifier neither reads nor changes a lane. -/
theorem classify_lanes : classify o c { s with lanes := v } = { classify o c s with lanes := v } := by
  have hkey : findKey { s with lanes := v } c.lane.val c.flow.toNat = findKey s c.lane.val c.flow.toNat := rfl
  unfold classify
  rw [hkey]
  cases findKey s c.lane.val c.flow.toNat with
  | none =>
    dsimp only
    rw [← giveBack_lanes, ← raise_lanes]
    rfl
  | some i =>
    dsimp only
    cases s.flows[i] with
    | none => rfl
    | some e => exact classifyHit_lanes v o c s i e

end

theorem classifyAll_modLane (o : Origin) (q : List LaneRec) (l : Lane) (f : LaneState → LaneState) (s : State) :
    q.foldl (fun s r => classify o r.cell s) (modLane l f s) = modLane l f (q.foldl (fun s r => classify o r.cell s) s) := by
  induction q generalizing s with
  | nil => rfl
  | cons r q ih =>
    have hlanes : (classify o r.cell s).lanes = s.lanes := by simp
    have hfirst : classify o r.cell (modLane l f s) = modLane l f (classify o r.cell s) := by
      unfold modLane
      rw [hlanes]
      exact classify_lanes _ o r.cell s
    rw [List.foldl_cons, List.foldl_cons, hfirst, ih]

theorem releaseLane_eq (l : Lane) (e : Epoch) (s : State) : releaseLane l e s = handedOn l e s := by
  have hcells : modLane l (fun x => { x with lateCount := 0 }) (takeOut l e s) = cellsTaken l e s.lanes[l].member 0 s := by
    rw [takeOut_eq]
    unfold modLane cellsTaken
    dsimp only
    rw [upd_upd]
  unfold releaseLane handedOn epochRecs
  rw [← classifyAll_modLane, hcells]

/-! ### The release (R71, R73, R74) -/

theorem vector_any_iff {α : Type} {n : Nat} (v : Vector α n) (f : α → Bool) :
    v.toList.any f = true ↔ ∃ i : Fin n, f v[i] = true := by
  simp only [List.any_eq_true, Vector.mem_toList_iff, Vector.mem_iff_getElem]
  exact ⟨fun ⟨x, ⟨k, hk, hx⟩, hf⟩ => ⟨⟨k, hk⟩, hx ▸ hf⟩, fun ⟨i, hf⟩ => ⟨_, ⟨i.val, i.isLt, rfl⟩, hf⟩⟩

theorem countRelease_eq (r : EpochRec) (s : State) :
    countRelease false r s = { s with counters := { s.counters with unit := releaseCounted r s.counters.unit } } := by
  have hall : r.allNA = true ↔ ∀ l : Lane, r.status[l] = .na := allNA_iff r
  have hany : (r.status.toList.any (· == .expected)) = true ↔ ∃ l : Lane, r.status[l] = .expected := by
    simp only [vector_any_iff, beq_iff_eq]
  unfold countRelease countUnit releaseCounted
  simp only [Bool.false_eq_true, if_false, hall, hany]

theorem countRelease_forced (r : EpochRec) (s : State) :
    countRelease true r s =
      { s with counters := { s.counters with
          unit := { s.counters.unit with forcedReleases := bump s.counters.unit.forcedReleases } } } := rfl

/-- The EXPECTED lanes of a record are charged, from L0 to L5 (R71 step 2). -/
def lateLanes (r : EpochRec) (s : State) : State :=
  allLanes.foldl (fun u l => if r.status[l] = .expected then lateFor l r.epoch u else u) s

/-- The CLOSED lanes of a record hand their cells on, from L0 to L5 (R71 step 3). -/
def closedLanes (r : EpochRec) (s : State) : State :=
  allLanes.foldl (fun u l => if r.status[l] = .closed then handedOn l r.epoch u else u) s

theorem lateCharged_aligner (l : Lane) (e : Epoch) (m : Membership) (s : State) :
    (lateCharged l e m s).aligner = s.aligner := by
  unfold lateCharged laneCounted
  simp only [raise_frame]
  rfl

theorem lateFor_aligner (l : Lane) (e : Epoch) (s : State) :
    (lateFor l e s).aligner =
      if s.aligner.lateLimit ≤ min (s.lanes[l].lateCount + 1) 7 then
        { s.aligner with window := ejectedWindow l s.aligner.skew s.aligner.window }
      else s.aligner := by
  rw [lateFor_eq]
  split
  · unfold laneCounted
    simp only [raise_frame]
  · exact lateCharged_aligner _ _ _ _

theorem handedOn_aligner (l : Lane) (e : Epoch) (s : State) : (handedOn l e s).aligner = s.aligner := by
  rw [← releaseLane_eq]
  simp

theorem lateLanes_eq (r : EpochRec) (s : State) :
    allLanes.foldl (fun u l => if r.status[l] = .expected then lateCharge l r.epoch u else u) s = lateLanes r s := by
  unfold lateLanes
  simp only [lateCharge_eq]

theorem closedLanes_eq (r : EpochRec) (s : State) :
    allLanes.foldl (fun u l => if r.status[l] = .closed then releaseLane l r.epoch u else u) s = closedLanes r s := by
  unfold closedLanes
  simp only [releaseLane_eq]

theorem closedLanes_aligner (r : EpochRec) (s : State) : (closedLanes r s).aligner = s.aligner := by
  rw [← closedLanes_eq]
  exact (releaseLanes_frame allLanes r s).2.2.2.2.1

theorem ejectedWindow_length (l : Lane) (d : Nat) (w : List EpochRec) : (ejectedWindow l d w).length = w.length := by
  unfold ejectedWindow
  simp only [List.length_append, List.length_take, List.length_map, List.length_drop]
  omega

/-- The charges leave the window its records (R72). -/
theorem lateLanes_length (r : EpochRec) (s : State) :
    (lateLanes r s).aligner.window.length = s.aligner.window.length := by
  unfold lateLanes
  generalize allLanes = ls
  induction ls generalizing s with
  | nil => rfl
  | cons l ls ih =>
    rw [List.foldl_cons, ih]
    split
    · rw [lateFor_aligner]
      split
      · exact ejectedWindow_length _ _ _
      · rfl
    · rfl

/-- The state when the record has been counted, its EXPECTED lanes charged and its CLOSED lanes' cells handed on. -/
def releaseServed (count : EpochRec → UnitCounters → UnitCounters) (r : EpochRec) (s : State) : State :=
  closedLanes r (lateLanes r { s with counters := { s.counters with unit := count r s.counters.unit } })

theorem releaseServed_length (count : EpochRec → UnitCounters → UnitCounters) (r : EpochRec) (s : State) :
    (releaseServed count r s).aligner.window.length = s.aligner.window.length := by
  unfold releaseServed
  rw [closedLanes_aligner, lateLanes_length]

theorem releasedAs_cons {s : State} {r : EpochRec} {rest : List EpochRec} (count : EpochRec → UnitCounters → UnitCounters)
    (hw : s.aligner.window = r :: rest) :
    releasedAs count s =
      if (releaseServed count r s).aligner.window.length = 1 ∧
          ∀ l : Lane, (releaseServed count r s).lanes[l].member.inSet = false then
        { releaseServed count r s with aligner :=
            { (releaseServed count r s).aligner with running := false, lastReleased := none, window := [] } }
      else
        { releaseServed count r s with aligner :=
            { (releaseServed count r s).aligner with
              lastReleased := some r.epoch, window := (releaseServed count r s).aligner.window.drop 1 } } := by
  unfold releasedAs
  rw [hw]
  rfl

/-- The record gone and the set reset test, as one step (R71 step 4, R74). -/
theorem dropOldest_eq (e : Epoch) (s : State) (hw : s.aligner.window ≠ []) :
    setResetTest { s with aligner := { s.aligner with window := s.aligner.window.drop 1, lastReleased := some e } } =
      if s.aligner.window.length = 1 ∧ ∀ l : Lane, s.lanes[l].member.inSet = false then
        { s with aligner := { s.aligner with running := false, lastReleased := none, window := [] } }
      else { s with aligner := { s.aligner with lastReleased := some e, window := s.aligner.window.drop 1 } } := by
  have hone : s.aligner.window.drop 1 = [] ↔ s.aligner.window.length = 1 := by
    have hpos := List.length_pos_iff.mpr hw
    rw [List.drop_eq_nil_iff]
    omega
  rw [setResetTest_eq]
  dsimp only
  by_cases h : s.aligner.window.length = 1 ∧ ∀ l : Lane, s.lanes[l].member.inSet = false
  · rw [if_pos h, if_pos ⟨hone.mpr h.1, h.2⟩, hone.mpr h.1]
  · rw [if_neg h, if_neg fun h' => h ⟨hone.mp h'.1, h'.2⟩]

theorem releaseOldest_eq (forced : Bool) (count : EpochRec → UnitCounters → UnitCounters) (s : State)
    (hcount : ∀ r u, countRelease forced r u = { u with counters := { u.counters with unit := count r u.counters.unit } }) :
    releaseOldest forced s = releasedAs count s := by
  cases hw : s.aligner.window with
  | nil => simp only [releaseOldest, releasedAs, hw]
  | cons r rest =>
    have hserved : closedLanes r (lateLanes r (countRelease forced r s)) = releaseServed count r s := by
      rw [hcount]
      rfl
    have hne : (releaseServed count r s).aligner.window ≠ [] := fun hnil => by
      have hlen := releaseServed_length count r s
      rw [hnil, hw] at hlen
      exact absurd hlen (by simp)
    rw [releasedAs_cons count hw, ← dropOldest_eq r.epoch _ hne]
    unfold releaseOldest
    rw [hw]
    dsimp only
    rw [lateLanes_eq, closedLanes_eq, hserved]

/-- The release of the oldest record at a release point (R71). -/
theorem oldestReleased_eq (s : State) : releaseOldest false s = oldestReleased s :=
  releaseOldest_eq false releaseCounted s countRelease_eq

theorem releaseMany_eq (n : Nat) (s : State) : releaseMany n s = releasedTimes n s := by
  induction n generalizing s with
  | zero => rfl
  | succ n ih =>
    unfold releaseMany releasedTimes
    rw [ih, oldestReleased_eq]

/-- A forced release (R73). -/
theorem forcedRelease_eq (s : State) : forcedRelease s = forcedOut s := by
  cases hw : s.aligner.window with
  | nil => simp only [forcedRelease, forcedOut, hw]
  | cons r rest =>
    have hcount : r.status.toList.count .expected = r.status.toList.countP fun x => decide (x = .expected) :=
      List.countP_congr fun x _ => by simp
    unfold forcedRelease forcedOut
    rw [hw]
    dsimp only
    rw [hcount, releaseOldest_eq true (fun _ k => { k with forcedReleases := bump k.forcedReleases }) _ countRelease_forced]
    rfl

end Sys2Proof.Machine
end

section
/-! PROOF. A lane's close of its epoch, and its move to the successor (R64, R65). -/

-- Checked one after another, as the tests are: the theorems of a section all at once take a thread each.
set_option Elab.async false

namespace Sys2Proof.Machine

/-! ### The move to the successor epoch (R65) -/

section
variable {s : State} {l : Lane} {f : Epoch}

theorem releasedAlready_iff : releasedAlready s f = true ↔ ∃ x, s.aligner.lastReleased = some x ∧ epochAfter f x = false := by
  unfold releasedAlready
  cases s.aligner.lastReleased <;> simp

theorem releasedAlready_not (h : ∀ x, s.aligner.lastReleased = some x → epochAfter f x = true) :
    ¬releasedAlready s f = true := fun hr => by
  obtain ⟨x, hx, hbefore⟩ := releasedAlready_iff.mp hr
  exact nomatch hbefore.symm.trans (h x hx)

/-- The lane at an epoch, late or not. -/
def movedLane (l : Lane) (f : Epoch) (late : Bool) (s : State) : State := modLane l (fun x => { x with member := .isIn f late }) s

theorem moveTo_released {late : Bool} (h : ∃ x, s.aligner.lastReleased = some x ∧ epochAfter f x = false) :
    moveTo l f late s = movedLane l f late s := if_pos (releasedAlready_iff.mpr h)

variable {late : Bool} (h : ∀ x, s.aligner.lastReleased = some x → epochAfter f x = true)
include h

theorem moveTo_present (hin : ∃ r ∈ s.aligner.window, r.epoch = f) : moveTo l f late s = movedLane l f false s := by
  have hany : (movedLane l f false s).aligner.window.any (fun r => r.epoch == f) = true := by
    obtain ⟨r, hr, he⟩ := hin
    exact List.any_eq_true.mpr ⟨r, hr, beq_iff_eq.mpr he⟩
  unfold moveTo
  rw [if_neg (releasedAlready_not h)]
  exact if_pos hany

omit h in
theorem window_any_not (hout : ∀ r ∈ s.aligner.window, r.epoch ≠ f) :
    ¬(movedLane l f false s).aligner.window.any (fun r => r.epoch == f) = true := fun hany => by
  obtain ⟨r, hr, he⟩ := List.any_eq_true.mp hany
  exact hout r hr (beq_iff_eq.mp he)

theorem moveTo_creates (hout : ∀ r ∈ s.aligner.window, r.epoch ≠ f) (hroom : s.aligner.window.length < 4) :
    moveTo l f late s =
      modWindow (fun w => w ++ [newRecord (movedLane l f false s) f]) (movedLane l f false s) := by
  have hplaces : ¬Config.windowPlaces ≤ (movedLane l f false s).aligner.window.length := Nat.not_le.mpr hroom
  unfold moveTo
  rw [if_neg (releasedAlready_not h)]
  dsimp only
  refine (if_neg (window_any_not hout)).trans ?_
  exact congrArg (fun u => modWindow (fun w => w ++ [newRecord u f]) u) (if_neg hplaces)

theorem moveTo_forces (hout : ∀ r ∈ s.aligner.window, r.epoch ≠ f) (hfull : s.aligner.window.length = 4) :
    moveTo l f late s =
      modWindow (fun w => w ++ [newRecord (forcedOut (movedLane l f false s)) f]) (forcedOut (movedLane l f false s)) := by
  have hplaces : Config.windowPlaces ≤ (movedLane l f false s).aligner.window.length := hfull.ge
  unfold moveTo
  rw [if_neg (releasedAlready_not h)]
  dsimp only
  refine (if_neg (window_any_not hout)).trans ?_
  rw [← forcedRelease_eq]
  exact congrArg (fun u => modWindow (fun w => w ++ [newRecord u f]) u) (if_pos hplaces)

end

/-- A lane that goes on in the set is expected in a new record as before (R57). -/
theorem newRecord_moved {s : State} {l : Lane} {e : Epoch} {late : Bool} (hm : s.lanes[l].member = .isIn e late) (f g : Epoch)
    (late' : Bool) : newRecord (movedLane l f late' s) g = newRecord s g := by
  have hstatus : (movedLane l f late' s).lanes.map (fun x => if x.member.inSet then LaneStatus.expected else LaneStatus.na) =
      s.lanes.map fun x => if x.member.inSet then LaneStatus.expected else LaneStatus.na := by
    refine Vector.ext fun i hi => ?_
    rw [Vector.getElem_map, Vector.getElem_map]
    change (if (upd s.lanes l _)[(⟨i, hi⟩ : Lane)].member.inSet then LaneStatus.expected else LaneStatus.na) =
      if s.lanes[(⟨i, hi⟩ : Lane)].member.inSet then LaneStatus.expected else LaneStatus.na
    rw [upd_get]
    split
    · next hi' =>
      subst hi'
      rw [hm]
      rfl
    · rfl
  unfold newRecord
  rw [hstatus]

theorem createdRecord_in {s : State} {l : Lane} (hm : s.lanes[l].member.inSet = true) (f : Epoch) :
    createdRecord s f = newRecord s f := by
  rw [createdRecord_eq, dueWhenEmpty_of_ne (l := l)]
  have hl : (newRecord s f).status[l] = .expected := by
    have hm' : s.lanes[l.val].member.inSet = true := hm
    simp [newRecord, hm']
  rw [hl]
  decide

/-! ### The close of a record (R64) -/

/-- The record of an epoch closed for a lane. -/
def closedRecord (l : Lane) (e : Epoch) (d : Nat) (r : EpochRec) : EpochRec :=
  if r.epoch = e then { r with status := upd r.status l (fun _ => .closed), due := some (r.due.getD (d + 1)) } else r

theorem closeRecord_window (l : Lane) (e : Epoch) (d : Nat) (w : List EpochRec) :
    (w.map fun r => if r.epoch == e then r.setStatus l .closed else r).map
      (fun r => if r.epoch == e then r.makeDue d else r) = w.map (closedRecord l e d) := by
  rw [List.map_map]
  refine List.map_congr_left fun r _ => ?_
  unfold closedRecord
  by_cases h : r.epoch = e
  · simp only [Function.comp, h, beq_self_eq_true, if_true, EpochRec.setStatus, makeDue_eq]
  · simp only [Function.comp, beq_iff_eq, h, if_false]

theorem raise_aligner (k : NoticeKind) (x : Byte) (d : Octets) (a : Aligner) (s : State) :
    raise k x d { s with aligner := a } = { raise k x d s with aligner := a } := by
  unfold raise
  split <;> rfl

theorem closeRecord_eq {l : Lane} {e : Epoch} {d n : Nat} {s : State} (hin : ∃ r ∈ s.aligner.window, r.epoch = e)
    (hn : ∀ r ∈ s.aligner.window, r.epoch = e → r.arrivals[l] = n) :
    closeRecord l e d s =
      { (if d = n then s
         else
           laneCounted l (fun k => { k with mismatches := bump k.mismatches })
             (raise .epochCountMismatch (BitVec.ofNat 8 l.val) (o16 e.toNat ++ o16 d ++ o16 (min n 65535)) s)) with
        aligner := { s.aligner with window := s.aligner.window.map (closedRecord l e s.aligner.skew) } } := by
  obtain ⟨q, hq, hqe⟩ := hin
  obtain ⟨r, hr⟩ := Option.isSome_iff_exists.mp (List.find?_isSome.mpr ⟨q, hq, beq_iff_eq.mpr hqe⟩ :
    (s.aligner.window.find? fun r => r.epoch == e).isSome = true)
  have hre : r.epoch = e := beq_iff_eq.mp (List.find?_some (p := fun (r : EpochRec) => r.epoch == e) hr)
  have hrn : r.arrivals[l] = n := hn r (List.mem_of_find?_eq_some hr) hre
  unfold closeRecord
  rw [hr]
  dsimp only
  rw [hrn, ← closeRecord_window]
  split
  · rfl
  · have hraised : raise .epochCountMismatch (o8 l.val) (o16 e.toNat ++ o16 d ++ o16 (min n 65535))
        (modRecord e (EpochRec.setStatus l .closed) s) =
        { raise .epochCountMismatch (o8 l.val) (o16 e.toNat ++ o16 d ++ o16 (min n 65535)) s with
          aligner := (modRecord e (EpochRec.setStatus l .closed) s).aligner } := raise_aligner ..
    rw [hraised]
    rfl

/-- The close of an epoch, and the lane at its successor (R64, R65). -/
theorem epochClosed_eq {l : Lane} {c : Octets} {e : Epoch} {n : Nat} {s : State} (hin : ∃ r ∈ s.aligner.window, r.epoch = e)
    (hn : ∀ r ∈ s.aligner.window, r.epoch = e → r.arrivals[l] = n) :
    movedLane l (e + 1) false (closeRecord l e (declaredCount c) (markTaken l s)) = epochClosed l c e n s := by
  have hlanes : (closeRecord l e (declaredCount c) (markTaken l s)).lanes = s.lanes := by
    rw [closeRecord_eq (s := markTaken l s) hin hn]
    split
    · rfl
    · unfold laneCounted
      simp only [raise_frame]
      rfl
  unfold movedLane modLane
  rw [hlanes, closeRecord_eq (s := markTaken l s) hin hn]
  rfl

end Sys2Proof.Machine
end

section
/-! PROOF. What a release does to each lane, to the window and to the counters (R71, R72). -/

-- Checked one after another, as the tests are: the theorems of a section all at once take a thread each.
set_option Elab.async false

namespace Sys2Proof.Machine

/-! ### The lanes one after another -/

/-- A round over the lanes that changes one lane's part at a time, and keeps what each change turns on, changes each part
once. -/
theorem overLanes_at {α : Type} (part : State → Lane → α) (change : Lane → α → α) {chosen : Lane → Prop} [DecidablePred chosen]
    {serve : Lane → State → State} {kept : State → Prop} (hkept : ∀ l u, kept u → kept (serve l u))
    (hserve : ∀ l u m, kept u → part (serve l u) m = if m = l then change l (part u l) else part u m)
    {lanes : List Lane} (hnodup : lanes.Nodup) {s : State} (hs : kept s) (m : Lane) :
    part (lanes.foldl (fun u l => if chosen l then serve l u else u) s) m =
      if chosen m ∧ m ∈ lanes then change m (part s m) else part s m := by
  induction lanes generalizing s with
  | nil => rw [if_neg (by simp)]; rfl
  | cons l lanes ih =>
    obtain ⟨hout, hnodup⟩ := List.nodup_cons.mp hnodup
    have hnext : kept (if chosen l then serve l s else s) := by
      split
      · exact hkept l s hs
      · exact hs
    rw [List.foldl_cons, ih hnodup hnext]
    by_cases hml : m = l
    · subst hml
      rw [if_neg fun h => hout h.2]
      by_cases hc : chosen m
      · rw [if_pos hc, hserve m s m hs, if_pos rfl, if_pos ⟨hc, List.mem_cons_self ..⟩]
      · rw [if_neg hc, if_neg fun h => hc h.1]
    · have hsame : part (if chosen l then serve l s else s) m = part s m := by
        split
        · rw [hserve l s m hs, if_neg hml]
        · rfl
      rw [hsame]
      simp only [List.mem_cons, hml, false_or]

theorem allLanes_nodup : allLanes.Nodup := by decide

/-- A round over all six lanes. -/
theorem allLanes_at {α : Type} (part : State → Lane → α) (change : Lane → α → α) {chosen : Lane → Prop} [DecidablePred chosen]
    {serve : Lane → State → State} {kept : State → Prop} (hkept : ∀ l u, kept u → kept (serve l u))
    (hserve : ∀ l u m, kept u → part (serve l u) m = if m = l then change l (part u l) else part u m)
    {s : State} (hs : kept s) (m : Lane) :
    part (allLanes.foldl (fun u l => if chosen l then serve l u else u) s) m =
      if chosen m then change m (part s m) else part s m := by
  rw [overLanes_at part change hkept hserve allLanes_nodup hs]
  simp only [mem_allLanes, and_true]

/-! ### A late lane (R72) -/

/-- A lane that is late for an epoch, with its queue judged on its profile. -/
def lateLane (prof : Profile) (limit : Nat) (e : Epoch) (x : LaneState) : LaneState :=
  { queue := x.queue.filter fun q => !(q.epoch == e)
    high := judgedHigh prof (x.queue.filter fun q => !(q.epoch == e)).length x.high
    member := if limit ≤ min (x.lateCount + 1) 7 then .lagging else x.member.lateFor e
    lateCount := min (x.lateCount + 1) 7 }

/-- The counters of a late lane. -/
def lateCounters (limit : Nat) (x : LaneState) (k : LaneCounters) : LaneCounters :=
  { k with
    lates := bump k.lates
    ejections := if limit ≤ min (x.lateCount + 1) 7 then bump k.ejections else k.ejections }

theorem lateCharged_lanes (l : Lane) (e : Epoch) (m : Membership) (s : State) :
    (lateCharged l e m s).lanes = (cellsTaken l e m (min (s.lanes[l].lateCount + 1) 7) s).lanes ∧
    (lateCharged l e m s).counters.lanes = upd s.counters.lanes l fun k => { k with lates := bump k.lates } := by
  unfold lateCharged laneCounted
  simp only [raise_frame]
  exact ⟨trivial, rfl⟩

theorem cellsTaken_lanes (l : Lane) (e : Epoch) (m : Membership) (n : Nat) (s : State) :
    (cellsTaken l e m n s).lanes = upd s.lanes l fun x =>
      { queue := x.queue.filter fun q => !(q.epoch == e)
        high := judgedHigh s.ports[l.port].profile (x.queue.filter fun q => !(q.epoch == e)).length x.high
        member := m
        lateCount := n } := rfl

theorem lateFor_lanes (l : Lane) (e : Epoch) (s : State) :
    (lateFor l e s).lanes = upd s.lanes l (lateLane s.ports[l.port].profile s.aligner.lateLimit e) ∧
    (lateFor l e s).counters.lanes = upd s.counters.lanes l (lateCounters s.aligner.lateLimit s.lanes[l]) := by
  have hlane (m : Membership)
      (hm : m = if s.aligner.lateLimit ≤ min (s.lanes[l].lateCount + 1) 7 then .lagging else s.lanes[l].member.lateFor e) :
      (lateCharged l e m s).lanes = upd s.lanes l (lateLane s.ports[l.port].profile s.aligner.lateLimit e) := by
    rw [(lateCharged_lanes l e m s).1, cellsTaken_lanes, hm]
    exact upd_congr _ _ _ _ rfl
  have hcounter (m : Membership) := (lateCharged_lanes l e m s).2
  rw [lateFor_eq]
  split
  · next h =>
    unfold laneCounted
    simp only [raise_frame, hlane .lagging (if_pos h).symm, hcounter, upd_upd, true_and]
    refine upd_congr _ _ _ _ ?_
    unfold lateCounters
    rw [if_pos h]
  · next h =>
    refine ⟨hlane _ (if_neg h).symm, (hcounter _).trans (upd_congr _ _ _ _ ?_)⟩
    unfold lateCounters
    rw [if_neg h]

theorem lateFor_frame (l : Lane) (e : Epoch) (s : State) :
    (lateFor l e s).ports = s.ports ∧ (lateFor l e s).flows = s.flows ∧ (lateFor l e s).groups = s.groups ∧
    (lateFor l e s).timer = s.timer ∧ (lateFor l e s).engine = s.engine ∧
    (lateFor l e s).notices.enabled = s.notices.enabled ∧ (lateFor l e s).aligner.lateLimit = s.aligner.lateLimit := by
  rw [← lateCharge_eq]
  simp

/-- Each lane after the charges of a release. -/
theorem lateLanes_at (r : EpochRec) (s : State) (m : Lane) :
    (lateLanes r s).lanes[m] =
      (if r.status[m] = .expected then lateLane s.ports[m.port].profile s.aligner.lateLimit r.epoch s.lanes[m]
       else s.lanes[m]) ∧
    (lateLanes r s).counters.lanes[m] =
      (if r.status[m] = .expected then lateCounters s.aligner.lateLimit s.lanes[m] s.counters.lanes[m]
       else s.counters.lanes[m]) := by
  have h := allLanes_at (fun u l => (u.lanes[l], u.counters.lanes[l]))
    (fun l x => (lateLane s.ports[l.port].profile s.aligner.lateLimit r.epoch x.1, lateCounters s.aligner.lateLimit x.1 x.2))
    (chosen := fun l => r.status[l] = .expected) (serve := fun l u => lateFor l r.epoch u)
    (kept := fun u => u.ports = s.ports ∧ u.aligner.lateLimit = s.aligner.lateLimit)
    (fun l u hu => by
      obtain ⟨hports, -, -, -, -, -, hlimit⟩ := lateFor_frame l r.epoch u
      exact ⟨hports.trans hu.1, hlimit.trans hu.2⟩)
    (fun l u m hu => by
      obtain ⟨hlanes, hcounters⟩ := lateFor_lanes l r.epoch u
      dsimp only
      rw [hlanes, hcounters, upd_get, upd_get, hu.1, hu.2]
      split
      · next hm => rw [hm]
      · rfl)
    ⟨rfl, rfl⟩ m
  change ((lateLanes r s).lanes[m], (lateLanes r s).counters.lanes[m]) = _ at h
  split at h
  · next hc => simp only [hc, if_true]; exact ⟨congrArg Prod.fst h, congrArg Prod.snd h⟩
  · next hc => simp only [hc, if_false]; exact ⟨congrArg Prod.fst h, congrArg Prod.snd h⟩

/-! ### A lane whose cells are handed on (R47, R71) -/

/-- A CLOSED lane after its share of a release. -/
def handedLane (prof : Profile) (e : Epoch) (x : LaneState) : LaneState :=
  { queue := x.queue.filter fun q => !(q.epoch == e)
    high := judgedHigh prof (x.queue.filter fun q => !(q.epoch == e)).length x.high
    member := x.member
    lateCount := 0 }

theorem handedOn_lanes (l : Lane) (e : Epoch) (s : State) :
    (handedOn l e s).lanes = upd s.lanes l (handedLane s.ports[l.port].profile e) ∧
    (handedOn l e s).counters.lanes = s.counters.lanes ∧ (handedOn l e s).ports = s.ports := by
  refine ⟨?_, ?_, ?_⟩
  · unfold handedOn
    simp only [classifyAll_frame, cellsTaken_lanes]
    exact upd_congr _ _ _ _ rfl
  · rw [← releaseLane_eq]
    simp
  · rw [← releaseLane_eq]
    simp

theorem closedLanes_at (r : EpochRec) (s : State) (m : Lane) :
    (closedLanes r s).lanes[m] =
      (if r.status[m] = .closed then handedLane s.ports[m.port].profile r.epoch s.lanes[m] else s.lanes[m]) ∧
    (closedLanes r s).counters.lanes = s.counters.lanes := by
  refine ⟨allLanes_at (fun u l => u.lanes[l]) (fun l x => handedLane s.ports[l.port].profile r.epoch x)
    (chosen := fun l => r.status[l] = .closed) (serve := fun l u => handedOn l r.epoch u)
    (kept := fun u => u.ports = s.ports) (fun l u hu => (handedOn_lanes l r.epoch u).2.2.trans hu) (fun l u m hu => ?_) rfl m, ?_⟩
  · rw [(handedOn_lanes l r.epoch u).1, upd_get, hu]
    split
    · next hm => rw [hm]
    · rfl
  · rw [← closedLanes_eq]
    exact (releaseLanes_frame allLanes r s).2.2.2.2.2.2.2.2.2.2.2.2

theorem lateLanes_ports (r : EpochRec) (s : State) : (lateLanes r s).ports = s.ports := by
  rw [← lateLanes_eq]
  exact (lateCharges_frame allLanes r s).2.2.2.1

/-- Each lane when a record has been released. -/
theorem releaseServed_at (count : EpochRec → UnitCounters → UnitCounters) (r : EpochRec) (s : State) (m : Lane) :
    (releaseServed count r s).lanes[m] =
      (match r.status[m] with
       | .expected => lateLane s.ports[m.port].profile s.aligner.lateLimit r.epoch s.lanes[m]
       | .closed => handedLane s.ports[m.port].profile r.epoch s.lanes[m]
       | .na => s.lanes[m]) := by
  unfold releaseServed
  rw [(closedLanes_at _ _ m).1, lateLanes_ports, (lateLanes_at _ _ m).1]
  cases r.status[m] <;> rfl

end Sys2Proof.Machine
end

section
/-! PROOF. The window, the counts and the notices of a release, and a MARK with the successor epoch (R64, R65, R71 to R73). -/

-- Checked one after another, as the tests are: the theorems of a section all at once take a thread each.
set_option Elab.async false

namespace Sys2Proof.Machine

/-! ### The window after the charges -/

/-- A late charge ejects the lane (R72 step 4). -/
def ejects (s : State) (m : Lane) : Prop := s.aligner.lateLimit ≤ min (s.lanes[m].lateCount + 1) 7

theorem laneOut_status (l m : Lane) (q : EpochRec) :
    (laneOut l q).status[m] = if m = l then .na else q.status[m] := upd_get _ _ _ _

theorem dueWhenEmpty_status (d : Nat) (q : EpochRec) : (dueWhenEmpty d q).status = q.status := by
  unfold dueWhenEmpty
  split <;> rfl

/-- The charges leave the oldest record and take the ejected lanes out of the younger ones (R72 step 4). -/
theorem lateLanes_window (r : EpochRec) (s : State) :
    ∃ f : EpochRec → EpochRec, (∀ q, (f q).epoch = q.epoch) ∧
      (∀ q m, (r.status[m] = .expected ∧ ejects s m → (f q).status[m] = .na) ∧
        (¬(r.status[m] = .expected ∧ ejects s m) → (f q).status[m] = q.status[m])) ∧
      (lateLanes r s).aligner.window = s.aligner.window.take 1 ++ (s.aligner.window.drop 1).map f := by
  suffices hround : ∀ (lanes : List Lane) (u : State), lanes.Nodup → u.aligner.lateLimit = s.aligner.lateLimit →
      (∀ m ∈ lanes, u.lanes[m] = s.lanes[m]) →
      ∃ f : EpochRec → EpochRec, (∀ q, (f q).epoch = q.epoch) ∧
        (∀ q m, ((r.status[m] = .expected ∧ ejects s m) ∧ m ∈ lanes → (f q).status[m] = .na) ∧
          (¬((r.status[m] = .expected ∧ ejects s m) ∧ m ∈ lanes) → (f q).status[m] = q.status[m])) ∧
        (lanes.foldl (fun u l => if r.status[l] = .expected then lateFor l r.epoch u else u) u).aligner.window =
          u.aligner.window.take 1 ++ (u.aligner.window.drop 1).map f by
    obtain ⟨f, hepoch, hstatus, hwindow⟩ := hround allLanes s allLanes_nodup rfl fun _ _ => rfl
    exact ⟨f, hepoch, fun q m => ⟨fun h => (hstatus q m).1 ⟨h, mem_allLanes m⟩, fun h => (hstatus q m).2 fun h' => h h'.1⟩,
      hwindow⟩
  intro lanes
  induction lanes with
  | nil =>
    intro u _ _ _
    exact ⟨id, fun _ => rfl, fun q m => ⟨fun h => absurd h.2 List.not_mem_nil, fun _ => rfl⟩, by
      rw [List.map_id, List.take_append_drop, List.foldl_nil]⟩
  | cons l lanes ih =>
    intro u hnodup hlimit hlanes
    obtain ⟨hout, hnodup⟩ := List.nodup_cons.mp hnodup
    have hl := hlanes l (List.mem_cons_self ..)
    have hstep : ∃ g : EpochRec → EpochRec, (∀ q, (g q).epoch = q.epoch) ∧
        (∀ q m, ((r.status[l] = .expected ∧ ejects s l) ∧ m = l → (g q).status[m] = .na) ∧
          (¬((r.status[l] = .expected ∧ ejects s l) ∧ m = l) → (g q).status[m] = q.status[m])) ∧
        (if r.status[l] = .expected then lateFor l r.epoch u else u).aligner.window =
          u.aligner.window.take 1 ++ (u.aligner.window.drop 1).map g := by
      by_cases hc : r.status[l] = .expected ∧ ejects s l
      · refine ⟨fun q => dueWhenEmpty u.aligner.skew (laneOut l q), fun q => dueWhenEmpty_epoch _ _, fun q m => ?_, ?_⟩
        · rw [dueWhenEmpty_status, laneOut_status]
          exact ⟨fun h => if_pos h.2, fun h => if_neg fun hm => h ⟨hc, hm⟩⟩
        · have he : u.aligner.lateLimit ≤ min (u.lanes[l].lateCount + 1) 7 := by
            rw [hlimit, hl]
            exact hc.2
          rw [if_pos hc.1, lateFor_aligner, if_pos he]
          rfl
      · refine ⟨id, fun _ => rfl, fun q m => ⟨fun h => absurd h.1 hc, fun _ => rfl⟩, ?_⟩
        rw [List.map_id, List.take_append_drop]
        split
        · next hexp =>
          have he : ¬u.aligner.lateLimit ≤ min (u.lanes[l].lateCount + 1) 7 := by
            rw [hlimit, hl]
            exact fun he => hc ⟨hexp, he⟩
          rw [lateFor_aligner, if_neg he]
        · rfl
    obtain ⟨g, hgepoch, hgstatus, hgwindow⟩ := hstep
    have hothers : ∀ m ∈ lanes, (lateFor l r.epoch u).lanes[m] = s.lanes[m] := fun m hm => by
      rw [(lateFor_lanes l r.epoch u).1, upd_get, if_neg fun h : m = l => hout (h ▸ hm)]
      exact hlanes m (List.mem_cons_of_mem _ hm)
    have hnext : (if r.status[l] = .expected then lateFor l r.epoch u else u).aligner.lateLimit = s.aligner.lateLimit ∧
        ∀ m ∈ lanes, (if r.status[l] = .expected then lateFor l r.epoch u else u).lanes[m] = s.lanes[m] := by
      split
      · exact ⟨(lateFor_frame l r.epoch u).2.2.2.2.2.2.trans hlimit, hothers⟩
      · exact ⟨hlimit, fun m hm => hlanes m (List.mem_cons_of_mem _ hm)⟩
    obtain ⟨f, hfepoch, hfstatus, hfwindow⟩ := ih _ hnodup hnext.1 hnext.2
    refine ⟨fun q => f (g q), fun q => (hfepoch _).trans (hgepoch q), fun q m => ?_, ?_⟩
    · by_cases hml : m = l
      · subst hml
        have hrest : (f (g q)).status[m] = (g q).status[m] := (hfstatus (g q) m).2 fun h => hout h.2
        rw [hrest]
        exact ⟨fun h => (hgstatus q m).1 ⟨h.1, rfl⟩, fun h => (hgstatus q m).2 fun h' => h ⟨h'.1, List.mem_cons_self ..⟩⟩
      · have hfirst : (g q).status[m] = q.status[m] := (hgstatus q m).2 fun h => hml h.2
        rw [← hfirst]
        simp only [List.mem_cons, hml, false_or]
        exact hfstatus (g q) m
    · rw [List.foldl_cons, hfwindow, hgwindow]
      cases u.aligner.window with
      | nil => rfl
      | cons q w => simp [Function.comp_def]

/-- The epochs of the window stay. -/
theorem releaseServed_epochs (count : EpochRec → UnitCounters → UnitCounters) (r : EpochRec) (s : State) :
    (releaseServed count r s).aligner.window.map EpochRec.epoch = s.aligner.window.map EpochRec.epoch := by
  obtain ⟨f, hepoch, -, hwindow⟩ :=
    lateLanes_window r { s with counters := { s.counters with unit := count r s.counters.unit } }
  unfold releaseServed
  rw [closedLanes_aligner, hwindow, List.map_append, List.map_map, show EpochRec.epoch ∘ f = EpochRec.epoch from funext hepoch,
    ← List.map_append, List.take_append_drop]

/-! ### The unit's counters -/

/-- The four counters of releases. -/
def releaseCounts (k : UnitCounters) : Count × Count × Count × Count :=
  (k.fullReleases, k.partialReleases, k.emptyReleases, k.forcedReleases)

/-- What each lane's share keeps is kept by a round over the lanes. -/
theorem overLanes_keeps {α : Type} (reading : State → α) {chosen : Lane → Prop} [DecidablePred chosen]
    {serve : Lane → State → State} (hserve : ∀ l u, reading (serve l u) = reading u) (lanes : List Lane) (s : State) :
    reading (lanes.foldl (fun u l => if chosen l then serve l u else u) s) = reading s := by
  induction lanes generalizing s with
  | nil => rfl
  | cons l lanes ih =>
    rw [List.foldl_cons, ih]
    split
    · exact hserve l s
    · rfl

section
variable {α : Type} {reading : UnitCounters → α} (hread : ∀ k c, reading { k with suppressed := c } = reading k)
include hread

/-- A raise moves no counter of the unit but that of suppressed notices (R179). -/
theorem raise_unitReading (k : NoticeKind) (x : Byte) (d : Octets) (s : State) :
    reading (raise k x d s).counters.unit = reading s.counters.unit := by
  unfold raise
  split
  · rfl
  · exact hread _ _

theorem classify_unitReading (o : Origin) (c : DataCell) (s : State) :
    reading (classify o c s).counters.unit = reading s.counters.unit := by
  have hback (u : State) : (giveBack o u).counters = u.counters := by cases o <;> rfl
  unfold classify
  split
  · rw [hback, raise_unitReading hread]
    rfl
  · split
    · rfl
    · unfold classifyHit
      split
      · rw [hback]
        rfl
      · split
        · rw [hback]
          rfl
        · dsimp only
          split
          · rw [hback]
            rfl
          · unfold groupAdmission
            split
            · rw [hback, raise_unitReading hread]
              rfl
            · split
              · rfl
              · split
                · rw [raise_unitReading hread]
                  rfl
                · rfl

theorem lateFor_unitReading (l : Lane) (e : Epoch) (s : State) :
    reading (lateFor l e s).counters.unit = reading s.counters.unit := by
  have hcharged (m : Membership) : reading (lateCharged l e m s).counters.unit = reading s.counters.unit :=
    raise_unitReading hread ..
  rw [lateFor_eq]
  split
  · exact (raise_unitReading hread ..).trans (hcharged .lagging)
  · exact hcharged _

theorem handedOn_unitReading (l : Lane) (e : Epoch) (s : State) :
    reading (handedOn l e s).counters.unit = reading s.counters.unit := by
  unfold handedOn
  generalize List.filter _ s.lanes[l].queue = recs
  have hstart : reading (cellsTaken l e s.lanes[l].member 0 s).counters.unit = reading s.counters.unit := rfl
  rw [← hstart]
  generalize cellsTaken l e s.lanes[l].member 0 s = u
  induction recs generalizing u with
  | nil => rfl
  | cons q recs ih => exact (ih _).trans (classify_unitReading hread ..)

theorem releaseServed_unitReading (count : EpochRec → UnitCounters → UnitCounters) (r : EpochRec) (s : State) :
    reading (releaseServed count r s).counters.unit = reading (count r s.counters.unit) := by
  unfold releaseServed closedLanes lateLanes
  rw [overLanes_keeps (fun u => reading u.counters.unit) (fun l u => handedOn_unitReading hread l r.epoch u),
    overLanes_keeps (fun u => reading u.counters.unit) fun l u => lateFor_unitReading hread l r.epoch u]

end

theorem releaseCounts_suppressed (k : UnitCounters) (c : Count) : releaseCounts { k with suppressed := c } = releaseCounts k := rfl

theorem raise_releaseCounts (k : NoticeKind) (x : Byte) (d : Octets) (s : State) :
    releaseCounts (raise k x d s).counters.unit = releaseCounts s.counters.unit :=
  raise_unitReading releaseCounts_suppressed ..

theorem releaseServed_releaseCounts (count : EpochRec → UnitCounters → UnitCounters) (r : EpochRec) (s : State) :
    releaseCounts (releaseServed count r s).counters.unit = releaseCounts (count r s.counters.unit) :=
  releaseServed_unitReading releaseCounts_suppressed ..

/-! ### The notices of late lanes -/

/-- The notices of a late lane, where each opens a record (R72). -/
def lateNotices (limit : Nat) (e : Epoch) (cycle : CycleNum) (l : Lane) (x : LaneState) : List NoticeRec :=
  openedRecord .laneLate (BitVec.ofNat 8 l.val) (o16 e.toNat ++ [BitVec.ofNat 8 (min (x.lateCount + 1) 7)]) cycle ::
    (if limit ≤ min (x.lateCount + 1) 7 then
      [openedRecord .laneEjected (BitVec.ofNat 8 l.val) (o16 e.toNat ++ [BitVec.ofNat 8 (min (x.lateCount + 1) 7)]) cycle]
     else [])

/-- No notice of lateness of the lane is pending. -/
def opensLate (s : State) (l : Lane) : Prop :=
  opensRecord s .laneLate (BitVec.ofNat 8 l.val) ∧ opensRecord s .laneEjected (BitVec.ofNat 8 l.val)

/-- A record of another kind or subject leaves the raise of a record open. -/
theorem opensRecord_append {s t : State} {k : NoticeKind} {x : Byte} {more : List NoticeRec}
    (henabled : t.notices.enabled = s.notices.enabled) (hwaiting : t.notices.waiting = s.notices.waiting ++ more)
    (hmore : ∀ n ∈ more, ¬(n.kind = k ∧ n.subject = x)) (h : opensRecord s k x) : opensRecord t k x := by
  refine ⟨henabled ▸ h.1, fun n hn => ?_⟩
  rw [hwaiting] at hn
  exact (List.mem_append.mp hn).elim (h.2 n) (hmore n)

theorem lateFor_notices {l : Lane} {e : Epoch} {s : State} (h : opensLate s l) :
    (lateFor l e s).notices.waiting =
      s.notices.waiting ++ lateNotices s.aligner.lateLimit e s.timer.cycle l s.lanes[l] := by
  obtain ⟨hlate, hejected⟩ := h
  have hcharged (m : Membership) : (lateCharged l e m s).notices.waiting = s.notices.waiting ++
      [openedRecord .laneLate (BitVec.ofNat 8 l.val) (o16 e.toNat ++ [BitVec.ofNat 8 (min (s.lanes[l].lateCount + 1) 7)])
        s.timer.cycle] := by
    unfold lateCharged
    rw [raise_opens _ (by exact hlate)]
    rfl
  have hframe (m : Membership) : (lateCharged l e m s).notices.enabled = s.notices.enabled ∧
      (lateCharged l e m s).timer = s.timer := by
    unfold lateCharged laneCounted
    simp only [raise_frame]
    exact ⟨rfl, rfl⟩
  rw [lateFor_eq]
  unfold lateNotices
  split
  · have hopen : opensRecord (lateCharged l e .lagging s) .laneEjected (BitVec.ofNat 8 l.val) :=
      opensRecord_append (hframe _).1 (hcharged _) (fun n hn => by
        rw [List.mem_singleton.mp hn]
        exact fun hk => nomatch hk.1) hejected
    rw [raise_opens _ (by exact hopen)]
    unfold laneCounted
    dsimp only
    rw [hcharged, (hframe _).2, List.append_assoc]
    rfl
  · exact hcharged _

theorem lane_subject_ne {l m : Lane} (h : m ≠ l) : BitVec.ofNat 8 l.val ≠ BitVec.ofNat 8 m.val := fun he => h (Fin.ext (by
  have he' := congrArg BitVec.toNat he
  rw [toNat_ofNat_octet (by omega), toNat_ofNat_octet (by omega)] at he'
  exact he'.symm))

theorem lateNotices_subject {limit : Nat} {e : Epoch} {cycle : CycleNum} {l : Lane} {x : LaneState} {n : NoticeRec}
    (h : n ∈ lateNotices limit e cycle l x) : n.subject = BitVec.ofNat 8 l.val := by
  unfold lateNotices at h
  split at h
  · simp only [List.mem_cons, List.not_mem_nil, or_false] at h
    rcases h with rfl | rfl <;> rfl
  · rw [List.mem_singleton.mp h]
    rfl

/-- The notices of the lanes that a release finds EXPECTED, from L0 to L5, where each opens a record. -/
theorem lateLanes_notices {r : EpochRec} {s : State} (h : ∀ l, opensLate s l) :
    (lateLanes r s).notices.waiting =
      s.notices.waiting ++ allLanes.flatMap fun l =>
        if r.status[l] = .expected then lateNotices s.aligner.lateLimit r.epoch s.timer.cycle l s.lanes[l] else [] := by
  suffices hround : ∀ (lanes : List Lane) (u : State), lanes.Nodup → u.aligner.lateLimit = s.aligner.lateLimit →
      u.timer = s.timer → (∀ m ∈ lanes, u.lanes[m] = s.lanes[m] ∧ opensLate u m) →
      (lanes.foldl (fun u l => if r.status[l] = .expected then lateFor l r.epoch u else u) u).notices.waiting =
        u.notices.waiting ++ lanes.flatMap fun l =>
          if r.status[l] = .expected then lateNotices s.aligner.lateLimit r.epoch s.timer.cycle l s.lanes[l] else [] from
    hround allLanes s allLanes_nodup rfl rfl fun m _ => ⟨rfl, h m⟩
  intro lanes
  induction lanes with
  | nil => exact fun u _ _ _ _ => (List.append_nil _).symm
  | cons l lanes ih =>
    intro u hnodup hlimit htimer hlanes
    obtain ⟨hout, hnodup⟩ := List.nodup_cons.mp hnodup
    obtain ⟨hl, hopen⟩ := hlanes l (List.mem_cons_self ..)
    have hrest := fun m hm => hlanes m (List.mem_cons_of_mem l hm)
    rw [List.foldl_cons, List.flatMap_cons]
    by_cases hc : r.status[l] = .expected
    · obtain ⟨-, -, -, htimer', -, henabled, hlimit'⟩ := lateFor_frame l r.epoch u
      have hnotices := lateFor_notices (e := r.epoch) hopen
      rw [if_pos hc, if_pos hc, ih _ hnodup (hlimit'.trans hlimit) (htimer'.trans htimer), hnotices, hlimit, htimer, hl,
        List.append_assoc]
      intro m hm
      have hml : m ≠ l := fun h => hout (h ▸ hm)
      obtain ⟨hsame, hlate, hejected⟩ := hrest m hm
      have hapart : ∀ n ∈ lateNotices u.aligner.lateLimit r.epoch u.timer.cycle l u.lanes[l],
          n.subject ≠ BitVec.ofNat 8 m.val := fun n hn => lateNotices_subject hn ▸ lane_subject_ne hml
      refine ⟨?_, opensRecord_append henabled hnotices (fun n hn hk => hapart n hn hk.2) hlate,
        opensRecord_append henabled hnotices (fun n hn hk => hapart n hn hk.2) hejected⟩
      rw [(lateFor_lanes l r.epoch u).1, upd_get, if_neg hml]
      exact hsame
    · rw [if_neg hc, if_neg hc, ih u hnodup hlimit htimer hrest, List.nil_append]

theorem handedOn_none {l : Lane} {e : Epoch} {s : State} (h : ∀ q ∈ s.lanes[l].queue, q.epoch ≠ e) :
    handedOn l e s = cellsTaken l e s.lanes[l].member 0 s := by
  have hnone : (s.lanes[l].queue.filter fun q => q.epoch == e) = [] :=
    List.filter_eq_nil_iff.mpr fun q hq he => h q hq (beq_iff_eq.mp he)
  unfold handedOn
  rw [hnone]
  rfl

/-- CLOSED lanes with no cells of the epoch raise nothing. -/
theorem closedLanes_notices {r : EpochRec} {s : State}
    (h : ∀ l : Lane, r.status[l] = .closed → ∀ q ∈ s.lanes[l].queue, q.epoch ≠ r.epoch) :
    (closedLanes r s).notices = s.notices := by
  suffices hround : ∀ (lanes : List Lane) (u : State), lanes.Nodup →
      (∀ m ∈ lanes, r.status[m] = .closed → ∀ q ∈ u.lanes[m].queue, q.epoch ≠ r.epoch) →
      (lanes.foldl (fun u l => if r.status[l] = .closed then handedOn l r.epoch u else u) u).notices = u.notices from
    hround allLanes s allLanes_nodup fun m _ => h m
  intro lanes
  induction lanes with
  | nil => exact fun _ _ _ => rfl
  | cons l lanes ih =>
    intro u hnodup hlanes
    obtain ⟨hout, hnodup⟩ := List.nodup_cons.mp hnodup
    have hrest := fun m hm => hlanes m (List.mem_cons_of_mem l hm)
    rw [List.foldl_cons]
    by_cases hc : r.status[l] = .closed
    · rw [if_pos hc, ih _ hnodup, handedOn_none (hlanes l (List.mem_cons_self ..) hc)]
      · rfl
      · intro m hm hcm
        rw [(handedOn_lanes l r.epoch u).1, upd_get, if_neg fun h : m = l => hout (h ▸ hm)]
        exact hrest m hm hcm
    · rw [if_neg hc]
      exact ih u hnodup hrest

end Sys2Proof.Machine
end

section
/-! PROOF. A MARK with the successor epoch on an IN lane (R64, R65, R73). -/

-- Checked one after another, as the tests are: the theorems of a section all at once take a thread each.
set_option Elab.async false

namespace Sys2Proof.Machine

section
variable {s : State} {l : Lane} {c : Octets} {e : Epoch}

theorem exec_closes {late : Bool} (h : alignedLaneCell s l c) (hmark : octet c 0 = 0x10)
    (htag : s.ports[l.port].profile.tag = none ∨ s.ports[l.port].profile.tag = some (octet c 12))
    (hm : s.lanes[l].member = .isIn e late) (hf : markedEpoch c = e + 1) :
    exec (.cellArrival l.port c) s = .next (close l e late (declaredCount c) (markTaken l s)) := by
  rw [exec_markCell h hmark htag, hf]
  exact congrArg Host.Outcome.next (alignMark_closes (s := credited _ _ s) _ hm)

/-! ### The record of the epoch closed (R64) -/

variable {n : Nat}

theorem epochClosed_aligner :
    (epochClosed l c e n s).aligner =
      { s.aligner with window := s.aligner.window.map (closedRecord l e s.aligner.skew) } := rfl

theorem epochClosed_lanes : (epochClosed l c e n s).lanes = upd s.lanes l fun x => { x with member := .isIn (e + 1) false } :=
  rfl

theorem epochClosed_frame :
    (epochClosed l c e n s).free = s.free ∧ (epochClosed l c e n s).groups = s.groups ∧
    (epochClosed l c e n s).flows = s.flows ∧ (epochClosed l c e n s).engine = s.engine ∧
    (epochClosed l c e n s).timer = s.timer ∧ (epochClosed l c e n s).notices.enabled = s.notices.enabled ∧
    (epochClosed l c e n s).counters.lanes = upd s.counters.lanes l (fun k =>
      { k with marks := bump k.marks,
               mismatches := if declaredCount c = n then k.mismatches else bump k.mismatches }) ∧
    releaseCounts (epochClosed l c e n s).counters.unit = releaseCounts s.counters.unit := by
  unfold epochClosed
  by_cases hd : declaredCount c = n
  · rw [if_pos hd]
    simp only [hd, if_true]
    exact ⟨rfl, rfl, rfl, rfl, rfl, rfl, rfl, rfl⟩
  · simp only [if_neg hd]
    unfold laneCounted
    dsimp only
    simp only [raise_frame, raise_releaseCounts]
    refine ⟨rfl, rfl, rfl, rfl, rfl, rfl, ?_, rfl⟩
    simp only [markTaken, laneCounted, upd_upd]
    rfl

theorem epochClosed_notices (h : opensRecord s .epochCountMismatch (BitVec.ofNat 8 l.val)) :
    (epochClosed l c e n s).notices.waiting = s.notices.waiting ++
      (if declaredCount c = n then []
       else
        [openedRecord .epochCountMismatch (BitVec.ofNat 8 l.val)
          (o16 e.toNat ++ o16 (declaredCount c) ++ o16 (min n 65535)) s.timer.cycle]) := by
  unfold epochClosed
  by_cases hd : declaredCount c = n
  · simp only [if_pos hd, List.append_nil]
    rfl
  · simp only [if_neg hd]
    rw [raise_opens _ (by exact h)]
    rfl

theorem closedRecord_epoch (d : Nat) (r : EpochRec) : (closedRecord l e d r).epoch = r.epoch := by
  unfold closedRecord
  split <;> rfl

theorem closedRecord_other {d : Nat} {r : EpochRec} (h : r.epoch ≠ e) : closedRecord l e d r = r := if_neg h

theorem closedRecord_has_epoch {d : Nat} {f : Epoch} {w : List EpochRec} :
    (∃ r ∈ w.map (closedRecord l e d), r.epoch = f) ↔ ∃ r ∈ w, r.epoch = f := by
  constructor
  · rintro ⟨q, hq, rfl⟩
    obtain ⟨r, hr, rfl⟩ := List.mem_map.mp hq
    exact ⟨r, hr, (closedRecord_epoch d r).symm⟩
  · rintro ⟨r, hr, rfl⟩
    exact ⟨_, List.mem_map_of_mem hr, closedRecord_epoch d r⟩

theorem window_has_iff {f : Epoch} {w : List EpochRec} : w.any (fun r => r.epoch == f) = true ↔ ∃ r ∈ w, r.epoch = f := by
  simp only [List.any_eq_true, beq_iff_eq]

end

/-! ### The forced release (R73) -/

/-- WINDOW_FORCED raised for the oldest record, before its release. -/
def windowForced (r : EpochRec) (s : State) : State :=
  raise .windowForced 0xFF
    (o16 r.epoch.toNat ++ [BitVec.ofNat 8 (r.status.toList.countP fun x => decide (x = .expected))]) s

/-- The count of a forced release. -/
def countForced (_ : EpochRec) (k : UnitCounters) : UnitCounters := { k with forcedReleases := bump k.forcedReleases }

theorem windowForced_frame (r : EpochRec) (s : State) :
    (windowForced r s).aligner = s.aligner ∧ (windowForced r s).lanes = s.lanes ∧ (windowForced r s).timer = s.timer ∧
    (windowForced r s).notices.enabled = s.notices.enabled ∧ (windowForced r s).ports = s.ports ∧
    releaseCounts (windowForced r s).counters.unit = releaseCounts s.counters.unit := by
  unfold windowForced
  simp [raise_releaseCounts]

section
variable {s : State} {r : EpochRec} {rest : List EpochRec}

/-- A forced release out of a full window leaves the set RUNNING with the younger records. -/
theorem forcedOut_full (hw : s.aligner.window = r :: rest) (hrest : rest ≠ []) :
    forcedOut s =
      { releaseServed countForced r (windowForced r s) with aligner :=
          { (releaseServed countForced r (windowForced r s)).aligner with
            lastReleased := some r.epoch
            window := (releaseServed countForced r (windowForced r s)).aligner.window.drop 1 } } := by
  have hlen : (releaseServed countForced r (windowForced r s)).aligner.window.length = rest.length + 1 := by
    rw [releaseServed_length, (windowForced_frame r s).1, hw]
    rfl
  have hpos := List.length_pos_iff.mpr hrest
  have hout : forcedOut s = releasedAs countForced (windowForced r s) := by
    unfold forcedOut
    rw [hw]
    rfl
  rw [hout, releasedAs_cons (r := r) (rest := rest) countForced ((windowForced_frame r s).1 ▸ hw), if_neg fun h => by omega]

theorem forcedOut_counts (hw : s.aligner.window = r :: rest) (hrest : rest ≠ []) :
    (forcedOut s).counters.unit.forcedReleases = bump s.counters.unit.forcedReleases ∧
    (forcedOut s).aligner.window.map EpochRec.epoch = rest.map EpochRec.epoch ∧
    (forcedOut s).aligner.lastReleased = some r.epoch := by
  rw [forcedOut_full hw hrest]
  refine ⟨?_, ?_, rfl⟩
  · have h := releaseServed_releaseCounts countForced r (windowForced r s)
    have hraised := (windowForced_frame r s).2.2.2.2.2
    exact (congrArg (fun k => k.2.2.2) h).trans (congrArg (fun k => bump k.2.2.2) hraised)
  · dsimp only
    rw [List.map_drop, releaseServed_epochs, (windowForced_frame r s).1, hw]
    rfl

/-- The notices of a forced release, where each opens a record and no CLOSED lane holds a cell of the epoch. -/
theorem forcedOut_notices (hw : s.aligner.window = r :: rest) (hrest : rest ≠ []) (hforced : opensRecord s .windowForced 0xFF)
    (hlate : ∀ l, opensLate s l) (hcells : ∀ l : Lane, r.status[l] = .closed → ∀ q ∈ s.lanes[l].queue, q.epoch ≠ r.epoch) :
    (forcedOut s).notices.waiting =
      s.notices.waiting ++
      [openedRecord .windowForced 0xFF
        (o16 r.epoch.toNat ++ [BitVec.ofNat 8 (r.status.toList.countP fun x => decide (x = .expected))])
        s.timer.cycle] ++
      allLanes.flatMap fun l =>
        if r.status[l] = .expected then lateNotices s.aligner.lateLimit r.epoch s.timer.cycle l s.lanes[l] else [] := by
  obtain ⟨haligner, hlanes, htimer, henabled, -, -⟩ := windowForced_frame r s
  have hraised : (windowForced r s).notices.waiting = s.notices.waiting ++
      [openedRecord .windowForced 0xFF
        (o16 r.epoch.toNat ++ [BitVec.ofNat 8 (r.status.toList.countP fun x => decide (x = .expected))])
        s.timer.cycle] := by
    unfold windowForced
    rw [raise_opens _ hforced]
  rw [forcedOut_full hw hrest]
  unfold releaseServed
  dsimp only
  rw [closedLanes_notices, lateLanes_notices]
  · simp only [haligner, hlanes, htimer, hraised]
  · intro l
    have hapart : ∀ k, k ≠ .windowForced → ∀ n ∈ [openedRecord .windowForced 0xFF
        (o16 r.epoch.toNat ++ [BitVec.ofNat 8 (r.status.toList.countP fun x => decide (x = .expected))])
        s.timer.cycle], ¬(n.kind = k ∧ n.subject = BitVec.ofNat 8 l.val) := fun k hk n hn h => by
      rw [List.mem_singleton.mp hn] at h
      exact hk h.1.symm
    exact ⟨opensRecord_append henabled hraised (hapart _ (by decide)) (hlate l).1,
      opensRecord_append henabled hraised (hapart _ (by decide)) (hlate l).2⟩
  · intro l hc
    rw [(lateLanes_at _ _ l).1, if_neg (by rw [hc]; decide)]
    dsimp only
    rw [hlanes]
    exact hcells l hc

end

/-! ### The lane goes on -/

section
variable {s : State} {l : Lane} {c : Octets} {e : Epoch} {n : Nat}

/-- A late lane's close compares nothing and leaves the record as it is (R64). -/
theorem close_late (u : State) : close l e true (declaredCount c) u = moveTo l (e + 1) true u := rfl

/-- A close with the record of the epoch in the window: the lane at the successor epoch, in a record that is there, in
one created, or in one created after a forced release (R64, R65). -/
theorem close_timely (hin : ∃ r ∈ s.aligner.window, r.epoch = e) (hn : ∀ r ∈ s.aligner.window, r.epoch = e → r.arrivals[l] = n)
    (hlast : ∀ x, s.aligner.lastReleased = some x → epochAfter (e + 1) x = true) :
    ((∃ r ∈ s.aligner.window, r.epoch = e + 1) →
      close l e false (declaredCount c) (markTaken l s) = epochClosed l c e n s) ∧
    ((∀ r ∈ s.aligner.window, r.epoch ≠ e + 1) → s.aligner.window.length < 4 →
      close l e false (declaredCount c) (markTaken l s) =
        modWindow (fun w => w ++ [newRecord (epochClosed l c e n s) (e + 1)]) (epochClosed l c e n s)) ∧
    ((∀ r ∈ s.aligner.window, r.epoch ≠ e + 1) → s.aligner.window.length = 4 →
      close l e false (declaredCount c) (markTaken l s) =
        modWindow (fun w => w ++ [newRecord (forcedOut (epochClosed l c e n s)) (e + 1)])
          (forcedOut (epochClosed l c e n s))) := by
  have hclosed := epochClosed_eq (c := c) hin hn
  have haligner : (closeRecord l e (declaredCount c) (markTaken l s)).aligner =
      { s.aligner with window := s.aligner.window.map (closedRecord l e s.aligner.skew) } :=
    (congrArg State.aligner hclosed).trans epochClosed_aligner
  have hclose : close l e false (declaredCount c) (markTaken l s) =
      moveTo l (e + 1) false (closeRecord l e (declaredCount c) (markTaken l s)) := rfl
  have hlast' : ∀ x, (closeRecord l e (declaredCount c) (markTaken l s)).aligner.lastReleased = some x →
      epochAfter (e + 1) x = true := by
    rw [haligner]
    exact hlast
  have hout (h : ∀ r ∈ s.aligner.window, r.epoch ≠ e + 1) :
      ∀ r ∈ (closeRecord l e (declaredCount c) (markTaken l s)).aligner.window, r.epoch ≠ e + 1 := fun r hr he => by
    rw [haligner] at hr
    obtain ⟨q, hq, hqe⟩ := closedRecord_has_epoch.mp ⟨r, hr, he⟩
    exact h q hq hqe
  have hlen : (closeRecord l e (declaredCount c) (markTaken l s)).aligner.window.length = s.aligner.window.length := by
    rw [haligner]
    exact List.length_map _
  rw [hclose]
  refine ⟨fun h => ?_, fun h hroom => ?_, fun h hfull => ?_⟩
  · rw [moveTo_present hlast' (by rw [haligner]; exact closedRecord_has_epoch.mpr h), hclosed]
  · rw [moveTo_creates hlast' (hout h) (hlen.trans_lt hroom), hclosed]
  · rw [moveTo_forces hlast' (hout h) (hlen.trans hfull), hclosed]

theorem newRecord_epochClosed (hm : s.lanes[l].member = .isIn e false) :
    newRecord (epochClosed l c e n s) (e + 1) = newRecord s (e + 1) :=
  newRecord_moved hm (e + 1) (e + 1) false

/-- What a close without a forced release leaves. -/
theorem close_leaves (hm : s.lanes[l].member = .isIn e false) (hin : ∃ r ∈ s.aligner.window, r.epoch = e)
    (hn : ∀ r ∈ s.aligner.window, r.epoch = e → r.arrivals[l] = n)
    (hlast : ∀ x, s.aligner.lastReleased = some x → epochAfter (e + 1) x = true)
    (h : s.aligner.window.length < 4 ∨ ∃ r ∈ s.aligner.window, r.epoch = e + 1) :
    close l e false (declaredCount c) (markTaken l s) =
      { epochClosed l c e n s with aligner :=
          { s.aligner with
            window := s.aligner.window.map (closedRecord l e s.aligner.skew) ++
              (if s.aligner.window.any (fun r => r.epoch == e + 1) then [] else [newRecord s (e + 1)]) } } := by
  obtain ⟨hpresent, hcreates, -⟩ := close_timely (c := c) hin hn hlast
  by_cases hp : ∃ r ∈ s.aligner.window, r.epoch = e + 1
  · rw [hpresent hp, if_pos (window_has_iff.mpr hp), List.append_nil]
    rfl
  · have hroom := h.resolve_right hp
    have hout : ∀ r ∈ s.aligner.window, r.epoch ≠ e + 1 := fun r hr he => hp ⟨r, hr, he⟩
    rw [hcreates hout hroom, if_neg fun hany => hp (window_has_iff.mp hany), newRecord_epochClosed hm]
    rfl

end

/-- A close leaves every notice but its own to be opened. -/
theorem opensRecord_epochClosed {s : State} {l : Lane} {c : Octets} {e : Epoch} {n : Nat} {k : NoticeKind} {x : Byte}
    (hopen : opensRecord s .epochCountMismatch (BitVec.ofNat 8 l.val)) (hk : k ≠ .epochCountMismatch)
    (h : opensRecord s k x) : opensRecord (epochClosed l c e n s) k x := by
  obtain ⟨-, -, -, -, -, henabled, -, -⟩ := epochClosed_frame (s := s) (l := l) (c := c) (e := e) (n := n)
  refine opensRecord_append henabled (epochClosed_notices hopen) (fun q hq hkx => ?_) h
  split at hq
  · exact List.not_mem_nil hq
  · rw [List.mem_singleton.mp hq] at hkx
    exact hk hkx.1.symm

theorem lateRecords_eq (s : State) (r : EpochRec) :
    lateRecords s r = allLanes.flatMap fun l =>
      if r.status[l] = .expected then lateNotices s.aligner.lateLimit r.epoch s.timer.cycle l s.lanes[l] else [] := rfl

/-- With a full window and no record of the successor epoch, the oldest record is of another epoch than the one closed. -/
theorem oldest_ne_closed {s : State} {r : EpochRec} {rest : List EpochRec} {e : Epoch} (hw : s.aligner.window = r :: rest)
    (hrest : rest ≠ []) (ho : windowOrdered s) (hout : ∀ q ∈ s.aligner.window, q.epoch ≠ e + 1) : r.epoch ≠ e := by
  rintro rfl
  obtain ⟨q, more, rfl⟩ := List.exists_cons_of_ne_nil hrest
  have hcons := ho.2
  rw [hw] at hcons hout
  exact hout q (by simp) hcons.1

/-- Settles O14: a late lane, then one that is not. -/
theorem successorMarkClosesEpoch : Obligations.SuccessorMarkClosesEpoch := by
  refine ⟨fun s l c e hcell hmark htag hm hf => ?late, fun s l c e n hcell hmark htag hm hf hin hn hlast => ?timely⟩
  case late =>
    rw [exec_closes hcell hmark htag hm hf, close_late]
    refine ⟨fun hreleased => ?_, fun hlast => ⟨fun hin => ?_, fun hout hroom => ?_⟩⟩
    · rw [moveTo_released (s := markTaken l s) hreleased]
      rfl
    · rw [moveTo_present (s := markTaken l s) hlast hin]
      rfl
    · have hset : s.lanes[l].member.inSet = true := by
        rw [hm]
        rfl
      have hmoved : newRecord (movedLane l (e + 1) false (markTaken l s)) (e + 1) = newRecord s (e + 1) :=
        newRecord_moved (s := markTaken l s) hm (e + 1) (e + 1) false
      rw [moveTo_creates (s := markTaken l s) hlast hout hroom, createdRecord_in hset, hmoved]
      rfl
  case timely =>
    refine ⟨_, exec_closes hcell hmark htag hm hf, fun h => ?goesOn, fun hfull hout => ?forced⟩
    case goesOn =>
      obtain ⟨hfree, hgroups, hflows, hengine, -, -, hcounters, -⟩ :=
        epochClosed_frame (s := s) (l := l) (c := c) (e := e) (n := n)
      rw [close_leaves hm hin hn hlast h]
      exact ⟨rfl, rfl, hcounters, epochClosed_notices, hfree, hgroups, hflows, hengine⟩
    case forced =>
      obtain ⟨r, rest, hw⟩ := List.exists_cons_of_ne_nil (List.ne_nil_of_length_pos (hfull ▸ by decide : 0 < s.aligner.window.length))
      have hlen : rest.length = 3 := by
        rw [hw] at hfull
        exact Nat.succ.inj hfull
      have hrest : rest.map (closedRecord l e s.aligner.skew) ≠ [] := fun hnil => by
        rw [List.map_eq_nil_iff.mp hnil] at hlen
        exact nomatch hlen
      have hw' : (epochClosed l c e n s).aligner.window =
          closedRecord l e s.aligner.skew r :: rest.map (closedRecord l e s.aligner.skew) := by
        rw [epochClosed_aligner, hw]
        rfl
      obtain ⟨-, -, -, -, htimer, -, -, hcounts⟩ := epochClosed_frame (s := s) (l := l) (c := c) (e := e) (n := n)
      obtain ⟨hforced, hepochs, hreleased⟩ := forcedOut_counts hw' hrest
      have hepochs' : (forcedOut (epochClosed l c e n s)).aligner.window.map EpochRec.epoch = rest.map EpochRec.epoch := by
        rw [hepochs, List.map_map]
        exact List.map_congr_left fun q _ => closedRecord_epoch _ q
      have hlength : (forcedOut (epochClosed l c e n s)).aligner.window.length = 3 := by
        rw [← hlen, ← List.length_map (f := EpochRec.epoch), hepochs', List.length_map]
      obtain ⟨-, -, hfill⟩ := close_timely (c := c) hin hn hlast
      rw [hfill hout hfull]
      refine ⟨?_, ?_, ?_, ?_, fun out hout => ?_, fun r' rest' hwr ho hmismatch hopen hlate hcells => ?_⟩
      · exact hforced.trans (congrArg (fun k => bump k.2.2.2) hcounts)
      · exact (List.length_append).trans (congrArg (· + 1) hlength)
      · refine (List.map_append).trans ?_
        rw [hepochs', hw]
        rfl
      · rw [hw]
        exact hreleased.trans (congrArg some (closedRecord_epoch _ r))
      · rw [hout]
        rfl
      · obtain ⟨rfl, rfl⟩ : r' = r ∧ rest' = rest := List.cons.inj (hwr.symm.trans hw)
        have hne := oldest_ne_closed hw (fun hnil => by rw [hnil] at hlen; exact nomatch hlen) ho hout
        rw [closedRecord_other hne] at hw'
        have hlanes (m : Lane) : (epochClosed l c e n s).lanes[m].queue = s.lanes[m].queue ∧
            (epochClosed l c e n s).lanes[m].lateCount = s.lanes[m].lateCount := by
          rw [epochClosed_lanes, upd_get]
          split <;> exact ⟨rfl, rfl⟩
        have hnotices := forcedOut_notices hw' hrest (opensRecord_epochClosed hmismatch (by decide) hopen)
          (fun m => ⟨opensRecord_epochClosed hmismatch (by decide) (hlate m).1,
            opensRecord_epochClosed hmismatch (by decide) (hlate m).2⟩)
          (fun m hc q hq => hcells m hc q ((hlanes m).1 ▸ hq))
        refine hnotices.trans ?_
        rw [epochClosed_notices hmismatch, lateRecords_eq, htimer]
        refine congrArg₂ (· ++ ·) rfl (List.flatMap_congr fun m _ => ?_)
        unfold lateNotices
        rw [(hlanes m).2]
        rfl

end Sys2Proof.Machine
end

section
/-! PROOF. A boundary handed to the blocks: the timer's share, what the boundary is, and one whose outcome depends on
no order; and the end of initialisation. -/

-- Checked one after another, as the tests are: the theorems of a section all at once take a thread each.
set_option Elab.async false

namespace Sys2Proof.Machine

/-! ### The timer's share (R130 to R133) -/

theorem slot_succ_eq_zero (n : Slot) : n + 1 = 0 ↔ n = 63 := by
  revert n
  decide

theorem tick_succ_eq_zero (n : BitVec 12) : n + 1 = 0 ↔ n = 4095 := by bv_omega

theorem handOn_eq (t : Timer) : t.handOn = handedTimer t := by
  obtain ⟨n, cycle, tick, begun⟩ := t
  unfold Timer.handOn handedTimer
  cases begun with
  | some b => rfl
  | none =>
    unfold Timer.next
    by_cases h : n = 63
    · subst h
      rfl
    · have h0 : ¬n + 1 = 0 := fun e => h ((slot_succ_eq_zero n).mp e)
      simp [h, h0]

/-- What the next boundary is besides the start of a slot, told before the timer moves. -/
def nextMarks (s : State) : Marks :=
  { cycleStart := decide (cycleStarts s)
    swap := decide (scheduleStarts s)
    tick := decide (tickFalls s)
    release := decide (releaseFalls s) }

/-- The state whose timer has moved to the slot of the next boundary. -/
def timerMoved (s : State) : State := { s with timer := handedTimer s.timer }

theorem marksOf_eq (s : State) : marksOf s.timer.begun (timerMoved s) = nextMarks s := by
  cases hb : s.timer.begun with
  | some b => simp [marksOf, nextMarks, timerMoved, handedTimer, hb, Bool.beq_eq_decide_eq]
  | none =>
    by_cases h : s.timer.slot = 63
    · simp [marksOf, nextMarks, timerMoved, handedTimer, hb, h, atReleasePoint, Bool.beq_eq_decide_eq]
      exact tick_succ_eq_zero _
    · have h0 : ¬s.timer.slot + 1 = 0 := fun e => h ((slot_succ_eq_zero _).mp e)
      simp [marksOf, nextMarks, timerMoved, handedTimer, hb, h, h0, atReleasePoint, Bool.beq_eq_decide_eq]

theorem boundary_eq (s : State) : boundary s = serve (nextMarks s) (timerMoved s) := by
  rw [boundary, handOn_eq, ← marksOf_eq]
  rfl

theorem exec_slotBoundary {s : State} (h : s.phase = .running) :
    exec .slotBoundary s = .next (serve (nextMarks s) (timerMoved s)) := by
  rw [exec, execSlotBoundary, anyBoundary, h]
  exact congrArg Host.Outcome.next (boundary_eq s)

/-! ### Nothing due and nothing expiring -/

theorem releaseCount_eq_zero {w : List EpochRec} : releaseCount w = 0 ↔ ∀ r ∈ w, r.due ≠ some 0 := by
  induction w with
  | nil => simp [releaseCount]
  | cons r rest ih =>
    rw [List.forall_mem_cons]
    cases hc : releaseCount rest with
    | zero =>
      rw [← ih, hc, releaseCount, hc]
      by_cases h : r.due = some 0 <;> simp [h]
    | succ n => simp [releaseCount, hc, ← ih]

theorem lowerDue_eq (w : List EpochRec) : lowerDue w = dueLowered w := rfl

/-- A due count is at 0 after it falls exactly when it was 0 or 1. -/
theorem releaseCount_dueLowered {w : List EpochRec} :
    releaseCount (dueLowered w) = 0 ↔ ∀ r ∈ w, ∀ d, r.due = some d → 2 ≤ d := by
  rw [releaseCount_eq_zero, dueLowered, List.forall_mem_map]
  refine forall₂_congr fun r _ => ?_
  cases r.due with
  | none => simp
  | some d => simp [Nat.sub_eq_zero_iff_le]; omega

theorem releasePoint_none {s : State} (h : releaseCount (dueLowered s.aligner.window) = 0) :
    releasePoint s = { s with aligner := { s.aligner with window := dueLowered s.aligner.window } } := by
  unfold releasePoint
  dsimp only
  rw [show releaseCount (modWindow lowerDue s).aligner.window = 0 from h]
  rfl

theorem tickExpires_iff (s : State) :
    tickExpires s = false ↔
      (∀ o, s.engine.owner = some o → 2 ≤ o.remaining) ∧ ∀ x, s.snapshot = some x → 2 ≤ x.remaining := by
  unfold tickExpires
  rw [Bool.or_eq_false_iff]
  refine and_congr ?_ ?_
  · cases s.engine.owner <;> simp [Nat.lt_iff_add_one_le]
  · cases s.snapshot <;> simp [Nat.lt_iff_add_one_le]

theorem engineTick_lowers {s : State} (h : ∀ o, s.engine.owner = some o → 2 ≤ o.remaining) :
    engineTick s =
      { s with engine :=
          { s.engine with owner := s.engine.owner.map fun o => { o with remaining := o.remaining - 1 } } } := by
  cases ho : s.engine.owner with
  | none => exact (engineTick_unowned ho).trans (by rw [Option.map_none, ← ho])
  | some o => exact engineTick_counts ho (h o ho)

theorem counterTick_lowers {s : State} (h : ∀ x, s.snapshot = some x → 2 ≤ x.remaining) :
    counterTick s = { s with snapshot := s.snapshot.map fun x => { x with remaining := x.remaining - 1 } } := by
  cases hx : s.snapshot with
  | none => exact (counterTick_untaken hx).trans (by rw [Option.map_none, ← hx])
  | some x => exact counterTick_counts hx (h x hx)

/-! ### Each block's share, by what the boundary is -/

section
variable (m : Marks) {s : State}

theorem runTask_renew (s : State) :
    runTask m .renew s =
      { s with flows :=
          if m.cycleStart then s.flows.map (Option.map fun f => { f with admitted := 0 }) else s.flows } := by
  cases h : m.cycleStart <;> simp [runTask, h, renewBudgets]

theorem runTask_tick (h : m.tick = true → tickExpires s = false) :
    runTask m .tick s =
      { s with
        engine :=
          if m.tick then
            { s.engine with owner := s.engine.owner.map fun o => { o with remaining := o.remaining - 1 } }
          else s.engine
        snapshot := if m.tick then s.snapshot.map fun x => { x with remaining := x.remaining - 1 } else s.snapshot } := by
  cases ht : m.tick with
  | false => simp [runTask, ht]
  | true =>
    obtain ⟨howner, hsnap⟩ := (tickExpires_iff s).mp (h ht)
    have hrun : runTask m .tick s = counterTick (engineTick s) := if_pos ht
    rw [hrun, engineTick_lowers howner, counterTick_lowers (by exact hsnap)]
    rfl

theorem runTask_release (h : m.release = true → releaseCount (dueLowered s.aligner.window) = 0) :
    runTask m .release s =
      { s with aligner :=
          if m.release then { s.aligner with window := dueLowered s.aligner.window } else s.aligner } := by
  cases hr : m.release with
  | false => simp [runTask, hr]
  | true => exact (if_pos hr).trans (releasePoint_none (h hr))

end

/-! ### A boundary whose outcome depends on no order -/

theorem contested_eq_false {m : Marks} {s : State} (hr : s.engine.requests = [])
    (hd : m.release = true → releaseCount (dueLowered s.aligner.window) = 0)
    (ht : m.tick = true → tickExpires s = false) : contested m s = false := by
  unfold contested
  rw [hr, lowerDue_eq]
  cases hrel : m.release <;> cases htick : m.tick <;> simp [hrel, htick] at hd ht ⊢ <;> simp [*]

theorem takeRequest_none {s : State} (h : s.engine.requests = []) : takeRequest s = s := takeRequest_waits (.inl h)

/-- A boundary that nothing waits for and that releases and expires nothing is the transmitter's, on the state that the
other blocks leave. -/
theorem slotBoundary_uncontested {s : State} (h : s.phase = .running) (hr : s.engine.requests = [])
    (hnone : releasesNone s) (hkept : expiresNone s) :
    exec .slotBoundary s = .next (transmit (decide (scheduleStarts s)) (slotBegun s)) := by
  have hdue (hf : releaseFalls s) : releaseCount (dueLowered s.aligner.window) = 0 :=
    releaseCount_dueLowered.mpr (hnone hf)
  have htick (hf : tickFalls s) : tickExpires s = false := (tickExpires_iff s).mpr (hkept hf)
  rw [exec_slotBoundary h, serve_plain _ _ (contested_eq_false (s := timerMoved s) hr
    (fun hf => hdue (of_decide_eq_true hf)) fun hf => htick (of_decide_eq_true hf))]
  rw [runTask_renew, runTask_tick _ (by exact fun hf => htick (of_decide_eq_true hf)),
    runTask_release _ (by exact fun hf => hdue (of_decide_eq_true hf))]
  refine congrArg Host.Outcome.next ((takeRequest_none ?_).trans ?_)
  · simp only [runTask, transmit_frame]
    split <;> exact hr
  · show transmit (decide (scheduleStarts s)) _ = transmit (decide (scheduleStarts s)) _
    simp only [nextMarks, decide_eq_true_eq]
    rfl

/-! ### The transmitter's share (R120) -/

/-- The slot just sent has ended: the buffer of its cell returns (R44). -/
def slotEnded (s : State) : State :=
  { s with free := s.free + inTransmission s, trunk := { s.trunk with inTransit := none } }

theorem endSlot_eq (s : State) : endSlot s = slotEnded s := by
  unfold endSlot slotEnded inTransmission
  cases h : s.trunk.inTransit with
  | none =>
    simp only [Option.isSome_none, Bool.false_eq_true, if_false, Nat.add_zero]
    rw [← h]
  | some x => rfl

theorem reported_slotEnded (o : Operation) (st : Status) (result : Octets) (s : State) :
    reported o st result (slotEnded s) = slotEnded (reported o st result s) := by
  unfold reported
  rw [apply_ite slotEnded]
  rfl

theorem swapMade_slotEnded (o : Operation) (s : State) : swapMade o (slotEnded s) = slotEnded (swapMade o s) := by
  have hsame : (slotEnded s).sched.active = s.sched.active := rfl
  unfold swapMade
  rw [hsame]
  cases s.sched.active with
  | a =>
    exact reported_slotEnded o .done [0x01] { s with sched := { s.sched with active := .b, swapPending := false } }
  | b =>
    exact reported_slotEnded o .done [0x00] { s with sched := { s.sched with active := .a, swapPending := false } }

theorem takeSwap_swapMade {s : State} {o : Operation} (h : s.sched.swapPending = true) (ho : swapOperation s o) :
    takeSwap s = swapMade o s := by
  unfold swapOperation at ho
  unfold swapMade
  cases ha : s.sched.active with
  | a =>
    have hs : s.sched.staged = .b := by rw [Schedule.staged, ha]; rfl
    rw [takeSwap_made (o := o) h (by simpa [ha, hs] using ho), hs]
    rfl
  | b =>
    have hs : s.sched.staged = .a := by rw [Schedule.staged, ha]; rfl
    rw [takeSwap_made (o := o) h (by simpa [ha, hs] using ho), hs]
    rfl

theorem activeEntry_eq (s : State) (n : Slot) : activeEntry s n = slotEntry s n := by
  unfold activeEntry slotEntry
  cases s.sched.active <;> rfl

theorem transmit_plain (s : State) :
    transmit false s = send (chooseFor s (slotEntry s s.timer.slot)) (slotEnded s) := by
  unfold transmit
  rw [endSlot_eq, ← activeEntry_eq]
  rfl

theorem transmit_unpending {s : State} (h : s.sched.swapPending = false) (b : Bool) :
    transmit b s = transmit false s := by
  cases b with
  | false => rfl
  | true =>
    unfold transmit
    dsimp only
    rw [if_pos rfl, takeSwap_none (by simpa using h)]
    rfl

theorem transmit_swaps {s : State} {o : Operation} (h : s.sched.swapPending = true) (ho : swapOperation s o) :
    transmit true s = transmit false (swapMade o s) := by
  have hswap : takeSwap (endSlot s) = endSlot (swapMade o s) := by
    rw [endSlot_eq, endSlot_eq, ← swapMade_slotEnded]
    exact takeSwap_swapMade (s := slotEnded s) h ho
  unfold transmit
  dsimp only
  rw [if_pos rfl, hswap]
  rfl

theorem slotBegun_inFlight (s : State) : (slotBegun s).engine.inFlight = s.engine.inFlight := by
  unfold slotBegun
  dsimp only
  split <;> rfl

/-- The slot of the next boundary is chosen and sent in the state `u`. -/
theorem exec_slotChosen {s u : State} (h : slotChosenIn s u) :
    exec .slotBoundary s = .next (send (chooseFor u (slotEntry u u.timer.slot)) (slotEnded u)) := by
  obtain ⟨hrun, hreq, hnone, hkept, hu⟩ := h
  rw [slotBoundary_uncontested hrun hreq hnone hkept]
  refine congrArg Host.Outcome.next ?_
  rw [← transmit_plain]
  by_cases hs : scheduleStarts s ∧ s.sched.swapPending = true
  · rw [if_pos hs] at hu
    obtain ⟨o, ho, rfl⟩ := hu
    have hop : swapOperation (slotBegun s) o := by
      unfold swapOperation onlyOperation at ho ⊢
      rw [slotBegun_inFlight]
      exact ho
    rw [decide_eq_true hs.1]
    exact transmit_swaps hs.2 hop
  · rw [if_neg hs] at hu
    subst hu
    by_cases hc : scheduleStarts s
    · exact transmit_unpending (by exact Bool.eq_false_iff.mpr fun e => hs ⟨hc, e⟩) _
    · rw [decide_eq_false hc]

end Sys2Proof.Machine
end

section
/-! PROOF. What a slot carries, and what is sent: management egress, FILL, and the head of a group queue. -/

-- Checked one after another, as the tests are: the theorems of a section all at once take a thread each.
set_option Elab.async false

namespace Sys2Proof.Machine

/-! ### The choice for a slot (R121 to R123) -/

section
variable {s : State} {e : SlotEntry}

theorem mgmtEgress_reply (h : s.engine.replies ≠ []) : mgmtEgress s = some .reply := by
  simp [mgmtEgress, h]

theorem mgmtEgress_notice (hr : s.engine.replies = []) (hn : s.notices.waiting ≠ []) :
    mgmtEgress s = some .notice := by
  simp [mgmtEgress, hr, hn]

theorem mgmtEgress_none (hr : s.engine.replies = []) (hn : s.notices.waiting = []) : mgmtEgress s = none := by
  simp [mgmtEgress, hr, hn]

/-- A slot that comes to management egress carries what it has, and else a borrower's head where it is lent. -/
theorem chooseFor_reaches (h : slotReachesManagement s e) :
    chooseFor s e = (mgmtEgress s).getD (if e.lend then lentToBorrower s else .fill) := by
  unfold chooseFor lentSlot
  rcases h with hk | ⟨hl, hempty⟩
  · rw [hk]
    cases e.lend <;> rfl
  · unfold ownClaimEmpty at hempty
    cases hk : e.kind with
    | group g =>
      have hq : s.groups[g].queue = [] := by simpa [hk] using hempty
      simp only [hq, hl]
      rfl
    | mgmt => simp [hk] at hempty
    | idle => simp only [hl]; rfl

theorem chooseFor_unclaimed (h : ownClaimEmpty s e) (hl : e.lend = false) : chooseFor s e = .fill := by
  unfold ownClaimEmpty at h
  unfold chooseFor
  cases hk : e.kind with
  | group g =>
    have hq : s.groups[g].queue = [] := by simpa [hk] using h
    simp only [hq, hl]
    rfl
  | mgmt => simp [hk] at h
  | idle => simp [hl]

theorem chooseFor_own {g : Group} (hk : e.kind = .group g) (hq : s.groups[g].queue ≠ []) :
    chooseFor s e = .head g false := by
  unfold chooseFor
  rw [hk]
  exact if_pos (by simpa using hq)

/-! ### The borrower (R123) -/

theorem mayBorrow_iff (s : State) (g : Group) : mayBorrow s g = true ↔ maybeBorrower s g := by
  simp [mayBorrow, maybeBorrower]

theorem mem_searchOrder (p g : Group) : g ∈ searchOrder p :=
  List.mem_map.mpr ⟨g - p, List.mem_finRange _, add_sub_cancel p g⟩

/-- A borrower search goes from the lend pointer on. -/
theorem searchOrder_ascends (p : Group) : (searchOrder p).Pairwise fun a b => (a - p).val < (b - p).val := by
  revert p
  decide

theorem lentToBorrower_none (h : ∀ g, ¬maybeBorrower s g) : lentToBorrower s = .fill := by
  have hnone : borrower s = none :=
    List.find?_eq_none.mpr fun g _ hg => h g ((mayBorrow_iff s g).mp hg)
  rw [lentToBorrower, hnone]

theorem lentToBorrower_borrower {g : Group} (h : isBorrower s g) : lentToBorrower s = .head g true := by
  obtain ⟨hg, hfirst⟩ := h
  have hsome : borrower s = some g := by
    cases hf : borrower s with
    | none => exact absurd ((mayBorrow_iff s g).mpr hg) (List.find?_eq_none.mp hf g (mem_searchOrder _ g))
    | some x =>
      obtain ⟨hx, before, after, hsplit, hnot⟩ := List.find?_eq_some_iff_append.mp hf
      have hmem := mem_searchOrder s.sched.lendPointer g
      have horder := searchOrder_ascends s.sched.lendPointer
      rw [hsplit] at hmem horder
      rcases List.mem_append.mp hmem with hin | hin
      · have hno := hnot g hin
        rw [(mayBorrow_iff s g).mpr hg] at hno
        cases hno
      · rcases List.mem_cons.mp hin with rfl | hin
        · rfl
        · have hlater := List.rel_of_pairwise_cons (List.pairwise_append.mp horder).2.1 hin
          exact absurd ((mayBorrow_iff s x).mp hx) (hfirst x hlater)
  rw [lentToBorrower, hsome]

theorem chooseFor_nothing (h : slotFindsNothing s e) : chooseFor s e = .fill := by
  obtain ⟨hclaim, hmgmt, hlent⟩ := h
  by_cases hreach : slotReachesManagement s e
  · obtain ⟨hr, hn⟩ := hmgmt hreach
    rw [chooseFor_reaches hreach, mgmtEgress_none hr hn]
    cases hl : e.lend with
    | false => rfl
    | true => exact lentToBorrower_none (hlent ⟨hl, hreach, hr, hn⟩)
  · rcases hclaim with hk | hempty
    · exact absurd (.inl hk) hreach
    · exact chooseFor_unclaimed hempty (Bool.eq_false_iff.mpr fun hl => hreach (.inr ⟨hl, hempty⟩))

theorem chooseFor_lent {g : Group} (h : slotIsLent s e) (hg : isBorrower s g) : chooseFor s e = .head g true := by
  obtain ⟨hl, hreach, hr, hn⟩ := h
  rw [chooseFor_reaches hreach, mgmtEgress_none hr hn, hl]
  exact lentToBorrower_borrower hg

end

/-! ### Management egress and FILL (R125, R126) -/

theorem sendReply_slotEnded {u : State} {r : Reply} {rest : List Reply} (h : u.engine.replies = r :: rest)
    (hroom : rest.length < 16) :
    sendReply (slotEnded u) =
      { u with
        free := u.free + inTransmission u
        trunk := { sending := some (replyOctets u.engine.unitAddr r), inTransit := none }
        engine :=
          { u.engine with
            replies := rest ++ (u.engine.held.take 1).map fun h => h.op.completion h.status h.result
            held := u.engine.held.drop 1 }
        counters :=
          { u.counters with unit := { u.counters.unit with replySent := bump u.counters.unit.replySent } } } := by
  have hsent : sendReply (slotEnded u) =
      appendHeld { u with
        free := u.free + inTransmission u
        trunk := { sending := some (replyOctets u.engine.unitAddr r), inTransit := none }
        engine := { u.engine with replies := rest }
        counters :=
          { u.counters with unit := { u.counters.unit with replySent := bump u.counters.unit.replySent } } } := by
    unfold sendReply
    rw [show (slotEnded u).engine.replies = r :: rest from h]
    rfl
  rw [hsent]
  cases hh : u.engine.held with
  | nil => rw [appendHeld_waits (.inl (by exact hh)), List.take_nil, List.map_nil, List.append_nil, List.drop_nil, ← hh]
  | cons x later => exact appendHeld_fills (by exact hh) hroom

theorem sendNotice_slotEnded {u : State} {n : NoticeRec} {rest : List NoticeRec} (h : u.notices.waiting = n :: rest) :
    sendNotice (slotEnded u) =
      { u with
        free := u.free + inTransmission u
        trunk := { sending := some (noticeOctets u.engine.unitAddr n), inTransit := none }
        notices := { u.notices with waiting := rest }
        counters :=
          { u.counters with unit := { u.counters.unit with noticeSent := bump u.counters.unit.noticeSent } } } := by
  unfold sendNotice
  rw [show (slotEnded u).notices.waiting = n :: rest from h]
  rfl

/-! ### The end of initialisation (R189) -/

theorem afterInit_eq (x : PortState) :
    x.afterInit =
      if x.profile.enabled then { x with rx := { st := .hunt, level := 0, count := 0, octets := [], skip := 0 } } else x :=
  rfl

/-- A slot with nothing queued for it carries FILL. -/
theorem slotFindsNothing_empty {s : State} (hr : s.engine.replies = []) (hn : s.notices.waiting = [])
    (hq : ∀ g : Group, s.groups[g].queue = []) (e : SlotEntry) : slotFindsNothing s e := by
  refine ⟨?_, fun _ => ⟨hr, hn⟩, fun _ g hg => hg.2 (hq g)⟩
  unfold ownClaimEmpty
  cases e.kind with
  | group g => exact .inr (hq g)
  | mgmt => exact .inl rfl
  | idle => exact .inr trivial

theorem runTask_tick_off {m : Marks} (s : State) (h : m.tick = false) : runTask m .tick s = s := if_neg (by simp [h])

theorem runTask_renew_off {m : Marks} (s : State) (h : m.cycleStart = false) : runTask m .renew s = s :=
  if_neg (by simp [h])

theorem runTask_release_off {m : Marks} (s : State) (h : m.release = false) : runTask m .release s = s :=
  if_neg (by simp [h])

theorem runTask_release_empty (m : Marks) {s : State} (h : s.aligner.window = []) : runTask m .release s = s := by
  have hsame : dueLowered s.aligner.window = s.aligner.window := by rw [h]; rfl
  rw [runTask_release m fun _ => by rw [h]; rfl, hsame, ite_self]

/-- Settles O4: the boundary of slot 0 finds nothing to release, to take or to send. -/
theorem initEndBeginsSlotZero : Obligations.InitEndBeginsSlotZero := by
  intro s n hphase hreq hw hswap htransit hr hn hq
  have hend : exec .initEnd s = .next (endInit s) := by rw [exec, execInitEnd, hphase]
  rw [hend, endInit, serve_plain _ _
      (contested_eq_false (by exact hreq) (by exact fun _ => by rw [hw]; rfl) (fun h => absurd h Bool.false_ne_true)),
    runTask_tick_off _ rfl, runTask_release_empty _ (by exact hw), runTask_renew]
  refine congrArg Host.Outcome.next ((takeRequest_none ?_).trans ?_)
  · simpa only [runTask, transmit_frame] using hreq
  · refine (transmit_unpending (by exact hswap) true).trans ((transmit_plain _).trans ?_)
    rw [chooseFor_nothing (slotFindsNothing_empty (by exact hr) (by exact hn) (by exact hq) _)]
    show sendFill (slotEnded _) = _
    have hfree : s.free + inTransmission s = s.free := by rw [inTransmission, htransit]; rfl
    have hports : s.ports.map PortState.afterInit = s.ports.map fun x =>
        if x.profile.enabled then { x with rx := { st := .hunt, level := 0, count := 0, octets := [], skip := 0 } }
        else x := rfl
    rw [← hports]
    conv_rhs => rw [← hfree]
    rfl

end Sys2Proof.Machine
end

section
/-! PROOF. The slots that management egress or FILL serves, and a take that waits for one. -/

-- Checked one after another, as the tests are: the theorems of a section all at once take a thread each.
set_option Elab.async false

namespace Sys2Proof.Machine

/-! ### An empty window stays empty under a request -/

theorem leaveUp_window {s : State} (p : Port) (c : DownCause) (h : s.aligner.window = []) :
    (leaveUp p c s).aligner.window = [] := by
  have hleft := leaveUp_lane p c s
  cases hl : p.lane? with
  | none =>
    simp only [hl] at hleft
    rw [hleft.2.2, h]
  | some l =>
    simp only [hl] at hleft
    rw [hleft.2.2]
    split
    · exact h
    · simp [h]

theorem laneSetRestart_window {s : State} (p : Port) (enabled : Bool) (h : s.aligner.window = []) :
    (laneSetRestart p enabled s).aligner.window = [] := by
  unfold laneSetRestart
  simp only [emptyPortLane_frame]
  split
  · exact leaveUp_window p _ h
  · exact h

theorem emptyWindow_receivers : KeptByReceivers fun s => s.aligner.window = [] where
  rx _ _ _ _ h := h
  leaveUp s p c level _ _ h := leaveUp_window p c (s := modRx p (fun x => { x with level := level x }) s) h
  enterUp s p _ h := by
    unfold enterUp
    dsimp only
    split <;> simpa using h

theorem emptyWindow_commands : KeptByCommands (fun _ => True) fun s => s.aligner.window = [] where
  lease _ _ h := by simpa using h
  reply _ _ _ _ _ h := h
  unitReset s r _ := by rw [doUnitReset_eq]
  laneSet s r p _ _ _ h := by
    unfold laneSetCarried
    dsimp only
    split
    · exact laneSetRestart_window p _ h
    · simpa using h
  schedCancel _ _ _ h := by simpa using h
  groupFlush _ _ _ h := by simpa using h
  cycleSet _ _ _ h := by simpa using h

theorem takeRequest_emptyWindow {s : State} (h : s.aligner.window = []) : (takeRequest s).aligner.window = [] :=
  emptyWindow_commands.take emptyWindow_receivers (fun _ _ ht => ht) (fun _ => trivial) h

/-! ### A quiet boundary that a request waits for -/

/-- A quiet boundary asks nothing of the blocks but its slot and a take. -/
def quietMarks (m : Marks) (s : State) : Prop :=
  m.cycleStart = false ∧ m.swap = false ∧ m.tick = false ∧ (m.release = true → s.aligner.window = [])

theorem runTask_quiet {m : Marks} {t : Config.Task} {s : State} (h : quietMarks m s) (ht : isSlotOrTake t = false) :
    runTask m t s = s := by
  obtain ⟨hcycle, -, htick, hrel⟩ := h
  cases t with
  | transmit => cases ht
  | take => cases ht
  | renew => exact runTask_renew_off s hcycle
  | tick => exact runTask_tick_off s htick
  | release =>
    cases hr : m.release with
    | false => exact runTask_release_off s hr
    | true => exact runTask_release_empty m (hrel hr)

theorem quietMarks_transmit {m : Marks} {s : State} (b : Bool) (h : quietMarks m s) : quietMarks m (transmit b s) := by
  simpa [quietMarks] using h

theorem quietMarks_take {m : Marks} {s : State} (h : quietMarks m s) : quietMarks m (takeRequest s) :=
  ⟨h.1, h.2.1, h.2.2.1, fun hr => takeRequest_emptyWindow (h.2.2.2 hr)⟩

theorem runTasks_quiet {m : Marks} {l : List Config.Task} {s : State} (h : quietMarks m s)  :
    runTasks m l s = runTasks m (l.filter isSlotOrTake) s := by
  induction l generalizing s with
  | nil => rfl
  | cons t l ih =>
    cases hx : isSlotOrTake t with
    | false =>
      rw [List.filter_cons_of_neg (by simp [hx]), runTasks_cons, runTask_quiet h hx]
      exact ih h
    | true =>
      rw [List.filter_cons_of_pos hx, runTasks_cons, runTasks_cons]
      refine ih ?_
      cases t with
      | transmit => exact quietMarks_transmit _ h
      | take => exact quietMarks_take h
      | renew => cases hx
      | tick => cases hx
      | release => cases hx

theorem nextMarks_quiet {s : State} (h : quietBoundary s) : quietMarks (nextMarks s) s := by
  obtain ⟨⟨-, hslot, hb⟩, hrel⟩ := h
  have h63 : ¬s.timer.slot = 63 := fun e => by rw [e] at hslot; omega
  refine ⟨?_, ?_, ?_, fun hr => ?_⟩
  · simp [nextMarks, hb, h63]
  · simp [nextMarks, h63]
  · simp [nextMarks, hb, h63]
  · have hfalls : releaseFalls s := of_decide_eq_true hr
    rcases hrel with hne | hempty
    · rcases hfalls with hp | ⟨-, he⟩
      · rw [hb] at hp
        cases hp
      · exact absurd he hne
    · exact hempty

/-- At a quiet boundary the slot is served, and the engine makes the take that it can. -/
theorem slotBoundary_quiet {s : State} (h : quietBoundary s) :
    ∃ n, exec .slotBoundary s =
      .next (takeRequest (transmit false { timerMoved s with orderDraws := n })) ∧
      (s.engine.requests ≠ [] → n = s.orderDraws + 1) := by
  have hmarks := nextMarks_quiet h
  have hswap : (nextMarks s).swap = false := hmarks.2.1
  rw [exec_slotBoundary h.1.1, serve]
  split
  · refine ⟨s.orderDraws + 1, congrArg Host.Outcome.next ?_, fun _ => rfl⟩
    rw [runTasks_quiet (by exact hmarks), boundaryOrder_order, ← hswap]
    rfl
  · next hc =>
    refine ⟨s.orderDraws, congrArg Host.Outcome.next ?_, fun hne => absurd ?_ hc⟩
    · rw [runTasks_quiet (by exact hmarks), boundaryOrder_order, ← hswap]
      rfl
    · unfold contested
      have hreq : (!(timerMoved s).engine.requests.isEmpty) = true := by simpa [timerMoved] using hne
      rw [hreq, Bool.or_true]

/-- Settles O17: what the slot carries by what it reaches, and a take that waits for a reply's place by the frame of the
slot. -/
theorem slotServesManagementOrFill : Obligations.SlotServesManagementOrFill := by
  refine ⟨fun s u hu h => ?fill, fun s u hu h => ⟨fun r rest hr hroom => ?reply, fun hr n rest hn => ?notice⟩,
    fun s r rest hq hreq => ?waits⟩
  case fill =>
    rw [exec_slotChosen hu, chooseFor_nothing h]
    rfl
  case reply =>
    rw [exec_slotChosen hu, chooseFor_reaches h, mgmtEgress_reply (by rw [hr]; nofun)]
    exact congrArg Host.Outcome.next (sendReply_slotEnded hr hroom)
  case notice =>
    rw [exec_slotChosen hu, chooseFor_reaches h, mgmtEgress_notice hr (by rw [hn]; nofun)]
    exact congrArg Host.Outcome.next (sendNotice_slotEnded hn)
  case waits =>
    obtain ⟨n, halone, -⟩ := slotBoundary_quiet (s := requesting [] s) hq
    obtain ⟨k, hboth, hk⟩ := slotBoundary_quiet hq
    obtain rfl := hk (by rw [hreq]; nofun)
    refine ⟨_, halone, hboth.trans (congrArg Host.Outcome.next (congrArg takeRequest ?_))⟩
    have hmoved : { timerMoved s with orderDraws := s.orderDraws + 1 } =
        queuing (r :: rest) (s.orderDraws + 1) { timerMoved (requesting [] s) with orderDraws := n } := by
      rw [← hreq]
      rfl
    rw [hmoved, transmit_queuing, takeRequest_none (by simp [timerMoved, requesting])]
    rfl

end Sys2Proof.Machine
end

section
/-! PROOF. The head of a group queue sent: its flow entry's share, and the end of its drain. -/

-- Checked one after another, as the tests are: the theorems of a section all at once take a thread each.
set_option Elab.async false

namespace Sys2Proof.Machine

theorem stampSkipped_iff (m : Stamp) (c : DataCell) :
    stampSkipped m c = true ↔ m = .add ∧ c.ext = none ∧ 48 < c.payload.length := by
  simp [stampSkipped, and_assoc]

theorem rewriteAndSend_entry {s : State} {r : GroupRec} {f : FlowEntry} (h : s.flows[r.entry] = some f) :
    rewriteAndSend r s =
      endDrain r.entry
        (countFlow r.entry
          (fun k =>
            { k with
              transmitted := bump k.transmitted,
              stampSkipped := if stampSkipped f.stamp r.cell then bump k.stampSkipped else k.stampSkipped })
          (modFlow r.entry FlowEntry.sent (putOut (dataOctets f s.timer.cycle s.timer.slot r) s))) := by
  unfold rewriteAndSend
  rw [h]

/-- The state after the head `r` of a group queue is sent under its entry `f`, with what its place holds then. -/
def headSent (g : Group) (lent : Bool) (r : GroupRec) (rest : List GroupRec) (f : FlowEntry) (e : Option FlowEntry)
    (u : State) : State :=
  { u with
    free := u.free + inTransmission u
    trunk :=
      { sending := some (dataOctets f u.timer.cycle u.timer.slot r),
        inTransit := some { cell := r.cell, origin := r.origin } }
    groups := upd u.groups g fun q => { q with queue := rest }
    flows := upd u.flows r.entry fun _ => e
    sched := { u.sched with lendPointer := if lent then g + 1 else u.sched.lendPointer }
    counters :=
      { u.counters with
        flows := upd u.counters.flows r.entry fun k =>
          { k with
            transmitted := bump k.transmitted
            stampSkipped :=
              if f.stamp = .add ∧ r.cell.ext = none ∧ 48 < r.cell.payload.length then bump k.stampSkipped
              else k.stampSkipped }
        groups := upd u.counters.groups g fun k =>
          { k with transmitted := bump k.transmitted
                   borrowed := if lent then bump k.borrowed else k.borrowed } } }

section
variable {u : State} {g : Group} {r : GroupRec} {rest : List GroupRec} {f : FlowEntry} (lent : Bool)

/-- The head is sent under its entry, whose drain then ends where no queued cell is left (R94 to R96, R101, R124). -/
theorem takeHead_slotEnded (hq : u.groups[g].queue = r :: rest) (hf : u.flows[r.entry] = some f) :
    takeHead g lent (slotEnded u) = endDrain r.entry (headSent g lent r rest f (some f.sent) u) := by
  have hqueue : (slotEnded u).groups[g].queue = r :: rest := hq
  have hflows : upd u.flows r.entry (Option.map FlowEntry.sent) = upd u.flows r.entry fun _ => some f.sent :=
    upd_congr _ _ _ _ (congrArg (Option.map FlowEntry.sent) hf)
  have hstamp (k : FlowCounters) :
      (if stampSkipped f.stamp r.cell then bump k.stampSkipped else k.stampSkipped) =
        if f.stamp = .add ∧ r.cell.ext = none ∧ 48 < r.cell.payload.length then bump k.stampSkipped
        else k.stampSkipped := by simp only [stampSkipped_iff]
  have hborrow (x : State) : (if lent then { x with sched := { x.sched with lendPointer := g + 1 } } else x) =
      { x with sched := { x.sched with lendPointer := if lent then g + 1 else x.sched.lendPointer } } := by
    cases lent <;> rfl
  unfold takeHead
  simp only [hqueue, hborrow]
  rw [rewriteAndSend_entry (by exact hf)]
  unfold headSent
  rw [← hflows]
  simp only [← hstamp]
  rfl

theorem headSent_sends (hq : u.groups[g].queue = r :: rest) (hf : u.flows[r.entry] = some f)
    (h : f.draining = true → 2 ≤ f.inQueue) :
    takeHead g lent (slotEnded u) = headSent g lent r rest f (some f.sent) u := by
  rw [takeHead_slotEnded lent hq hf]
  refine endDrain_goes_on fun e he hd => ?_
  have hplace : (headSent g lent r rest f (some f.sent) u).flows[r.entry] = some f.sent := upd_at ..
  obtain rfl := Option.some.inj (hplace.symm.trans he)
  have h2 := h hd
  show f.inQueue - 1 ≠ 0
  omega

theorem headSent_ends {o : Operation} (hq : u.groups[g].queue = r :: rest) (hf : u.flows[r.entry] = some f)
    (hd : f.draining = true) (h1 : f.inQueue = 1) (ho : onlyOperation u (.flow r.entry) o) :
    takeHead g lent (slotEnded u) = reported o .done [] (headSent g lent r rest f none u) := by
  have hplace : (headSent g lent r rest f (some f.sent) u).flows[r.entry] = some f.sent := upd_at ..
  have hempty : f.sent.inQueue = 0 := by rw [FlowEntry.sent, h1]
  have hflows : upd (upd u.flows r.entry fun _ => some f.sent) r.entry (fun _ => none) =
      upd u.flows r.entry fun _ => none := upd_upd ..
  rw [takeHead_slotEnded lent hq hf, endDrain_ends hplace hd hempty ho]
  unfold headSent
  rw [← hflows]

end

/-- Settles O18: the slot's choice is the head, in its own slot or lent, and its entry's drain goes on or ends. -/
theorem slotTakesGroupHead : Obligations.SlotTakesGroupHead := by
  intro s u g r rest f lent hu hq hf hslot left hleft
  have hchoice : chooseFor u (slotEntry u u.timer.slot) = .head g lent := by
    cases lent with
    | false => exact chooseFor_own (by simpa using hslot) (by rw [hq]; nofun)
    | true =>
      obtain ⟨hlent, hg⟩ : slotIsLent u (slotEntry u u.timer.slot) ∧ isBorrower u g := by simpa using hslot
      exact chooseFor_lent hlent hg
  have hsent (e : Option FlowEntry) : left e = headSent g lent r rest f e u := hleft e
  rw [exec_slotChosen hu, hchoice]
  refine ⟨fun h => congrArg Host.Outcome.next ?_, fun hd h1 o ho => congrArg Host.Outcome.next ?_⟩
  · exact (headSent_sends lent hq hf h).trans (hsent _).symm
  · rw [hsent]
    exact headSent_ends lent hq hf hd h1 ho

end Sys2Proof.Machine
end

section
/-! PROOF. Each block's share comes once in a boundary, whatever the order: what one share alone moves is moved by the
boundary as by that share. -/

-- Checked one after another, as the tests are: the theorems of a section all at once take a thread each.
set_option Elab.async false

namespace Sys2Proof.Machine

/-! ### Every share comes once -/

theorem withTake_perm (n : Nat) (x : Config.Turn) :
    (Config.withTake n x.tasks).Perm [.tick, .release, .transmit, .take] := by
  have hput (l : List Config.Task) : (l.take n ++ .take :: l.drop n).Perm (.take :: l) := by
    have hmid := List.perm_middle (a := Config.Task.take) (l₁ := l.take n) (l₂ := l.drop n)
    rwa [List.take_append_drop] at hmid
  have hafter (before l : List Config.Task) :
      (before ++ .transmit :: (l.take n ++ .take :: l.drop n)).Perm (before ++ .transmit :: .take :: l) :=
    ((hput l).cons _).append_left before
  cases x with
  | tickReleaseSend => exact (hafter [.tick, .release] []).trans (by decide)
  | tickSendRelease => exact (hafter [.tick] [.release]).trans (by decide)
  | releaseTickSend => exact (hafter [.release, .tick] []).trans (by decide)
  | releaseSendTick => exact (hafter [.release] [.tick]).trans (by decide)
  | sendTickRelease => exact (hafter [] [.tick, .release]).trans (by decide)
  | sendReleaseTick => exact (hafter [] [.release, .tick]).trans (by decide)

theorem boundaryOrder_perm (o : Config.BoundaryOrder) :
    o.tasks.Perm [.renew, .tick, .release, .transmit, .take] := by
  have hmid := List.perm_middle (a := Config.Task.renew) (l₁ := (Config.withTake o.takeAfter o.turn.tasks).take o.renewAt)
    (l₂ := (Config.withTake o.takeAfter o.turn.tasks).drop o.renewAt)
  rw [List.take_append_drop] at hmid
  exact hmid.trans ((withTake_perm _ _).cons _)

theorem boundaryOrder_nodup (o : Config.BoundaryOrder) : o.tasks.Nodup :=
  (boundaryOrder_perm o).nodup_iff.mpr (by decide)

theorem mem_boundaryOrder (o : Config.BoundaryOrder) (t : Config.Task) : t ∈ o.tasks := by
  refine (boundaryOrder_perm o).mem_iff.mpr ?_
  cases t <;> decide

/-! ### What is said of a boundary by the shares that are still to come -/

theorem runTasks_stages {m : Marks} {stage : List Config.Task → State → Prop}
    (hstep : ∀ t l s, t ∉ l → s.engine.requests = [] → stage (t :: l) s → stage l (runTask m t s))
    (l : List Config.Task) {s : State} (hl : l.Nodup) (hr : s.engine.requests = []) (h : stage l s) :
    stage [] (runTasks m l s) := by
  induction l generalizing s with
  | nil => exact h
  | cons t l ih =>
    obtain ⟨ht, hl⟩ := List.nodup_cons.mp hl
    exact ih hl (by simp only [runTask_frame, hr]) (hstep t l s ht hr h)

/-- A boundary that no request waits for, told stage by stage. -/
theorem serve_stages {m : Marks} {stage : List Config.Task → State → Prop}
    (hstep : ∀ t l s, t ∉ l → s.engine.requests = [] → stage (t :: l) s → stage l (runTask m t s)) {s : State}
    (hr : s.engine.requests = []) (h : ∀ (o : Config.BoundaryOrder) n, stage o.tasks { s with orderDraws := n }) :
    stage [] (serve m s) := by
  unfold serve
  split
  · exact runTasks_stages hstep _ (boundaryOrder_nodup _) (by exact hr) (h _ _)
  · exact runTasks_stages hstep _ (boundaryOrder_nodup _) hr (h _ s.orderDraws)

/-- What holds once one share has come, of a state with what it alone moves as it was, and is kept by the other shares,
holds after the boundary. -/
theorem serve_once {α : Type} {m : Marks} (reading : State → α) (mover : Config.Task) {good : State → Prop} {s : State}
    (hr : s.engine.requests = []) (hdraws : ∀ u n, reading { u with orderDraws := n } = reading u)
    (hother : ∀ t u, t ≠ mover → u.engine.requests = [] → reading (runTask m t u) = reading u)
    (hmover : ∀ u, u.engine.requests = [] → reading u = reading s → good (runTask m mover u))
    (hgood : ∀ t u, t ≠ mover → u.engine.requests = [] → good u → good (runTask m t u)) : good (serve m s) := by
  have hstages := serve_stages (m := m)
    (stage := fun l u => (mover ∈ l → reading u = reading s) ∧ (mover ∉ l → good u))
    (fun t l u ht hu ⟨hbefore, hafter⟩ => ?_) hr fun o n =>
      ⟨fun _ => hdraws s n, fun hout => absurd (mem_boundaryOrder o mover) hout⟩
  · exact hstages.2 List.not_mem_nil
  · by_cases e : t = mover
    · subst e
      exact ⟨fun hm => absurd hm ht, fun _ => hmover u hu (hbefore (List.mem_cons_self ..))⟩
    · have hmem : mover ∈ t :: l ↔ mover ∈ l := by simp [Ne.symm e]
      exact ⟨fun hm => (hother t u e hu).trans (hbefore (hmem.mpr hm)),
        fun hout => hgood t u e hu (hafter fun hm => hout (hmem.mp hm))⟩

/-- What one share alone moves is moved by the boundary as by that share. -/
theorem serve_reading {α : Type} {m : Marks} (reading : State → α) (mover : Config.Task) (after : α) {s : State}
    (hr : s.engine.requests = []) (hdraws : ∀ u n, reading { u with orderDraws := n } = reading u)
    (hother : ∀ t u, t ≠ mover → u.engine.requests = [] → reading (runTask m t u) = reading u)
    (hmover : ∀ u, u.engine.requests = [] → reading u = reading s → reading (runTask m mover u) = after) :
    reading (serve m s) = after :=
  serve_once (good := fun u => reading u = after) reading mover hr hdraws hother hmover fun t u ht hu h =>
    (hother t u ht hu).trans h

end Sys2Proof.Machine
end

section
/-! PROOF. What a boundary does to the timer, the schedule, the lease, the lifetime, the aligner and the budgets. -/

-- Checked one after another, as the tests are: the theorems of a section all at once take a thread each.
set_option Elab.async false

namespace Sys2Proof.Machine

/-! ### The schedule (R112) -/

theorem takeSwap_active (s : State) :
    (takeSwap s).sched.active = if s.sched.swapPending then s.sched.staged else s.sched.active := by
  unfold takeSwap
  split
  · simp
  · rfl

theorem transmit_active (b : Bool) (s : State) :
    (transmit b s).sched.active = if b ∧ s.sched.swapPending = true then s.sched.staged else s.sched.active := by
  unfold transmit
  simp only [send_frame]
  cases b with
  | false => simp
  | true => simp [takeSwap_active]

theorem transmit_swapPending (b : Bool) (s : State) :
    (transmit b s).sched.swapPending = if b then false else s.sched.swapPending := by
  unfold transmit
  simp only [send_frame]
  cases b <;> simp

/-- What the schedule's share moves. -/
def scheduleReading (s : State) : Bank × Bool := (s.sched.active, s.sched.swapPending)

theorem runTask_scheduleReading {m : Marks} {t : Config.Task} {s : State} (ht : t ≠ .transmit)
    (hr : s.engine.requests = []) : scheduleReading (runTask m t s) = scheduleReading s := by
  unfold scheduleReading
  cases t with
  | transmit => exact absurd rfl ht
  | take => rw [runTask, takeRequest_none hr]
  | renew => simp only [runTask_renew]
  | tick => unfold runTask; dsimp only; split <;> simp
  | release => unfold runTask; dsimp only; split <;> simp

theorem serve_scheduleReading {m : Marks} {s : State} (hr : s.engine.requests = []) :
    scheduleReading (serve m s) =
      if m.swap ∧ s.sched.swapPending = true then (s.sched.staged, false)
      else (s.sched.active, s.sched.swapPending) := by
  refine serve_reading scheduleReading .transmit _ hr (fun _ _ => rfl) (fun _ _ => runTask_scheduleReading) ?_
  intro u _ hu
  obtain ⟨hactive, hpending⟩ := Prod.mk.inj hu
  have hstaged : u.sched.staged = s.sched.staged := by rw [Schedule.staged, hactive, Schedule.staged]
  unfold scheduleReading runTask
  dsimp only
  rw [transmit_active, transmit_swapPending, hactive, hpending, hstaged]
  cases m.swap <;> cases s.sched.swapPending <;> rfl

theorem staged_ne_active (c : Schedule) : c.staged ≠ c.active := by
  unfold Schedule.staged Bank.other
  cases c.active <;> decide

/-! ### The lease and the lifetime (R156, R174) -/

def lowersLease (o : Ownership) : Option Ownership :=
  if o.remaining ≤ 1 then none else some { o with remaining := o.remaining - 1 }

def lowersLifetime (x : Snapshot) : Option Snapshot :=
  if x.remaining ≤ 1 then none else some { x with remaining := x.remaining - 1 }

theorem engineTick_owner (s : State) : (engineTick s).engine.owner = s.engine.owner.bind lowersLease := by
  cases ho : s.engine.owner with
  | none => rw [engineTick_unowned ho, ho]; rfl
  | some o =>
    rw [Option.bind_some, lowersLease]
    split
    · next h => rw [engineTick_expires ho h]; simp
    · next h => rw [engineTick_counts ho (by omega)]

theorem counterTick_snapshot (s : State) : (counterTick s).snapshot = s.snapshot.bind lowersLifetime := by
  cases hx : s.snapshot with
  | none => rw [counterTick_untaken hx, hx]; rfl
  | some x =>
    rw [Option.bind_some, lowersLifetime]
    split
    · next h => rw [counterTick_expires hx h]; simp
    · next h => rw [counterTick_counts hx (by omega)]

theorem engineTick_snapExpiries (s : State) :
    (engineTick s).counters.unit.snapExpiries = s.counters.unit.snapExpiries := by
  unfold engineTick
  split
  · rfl
  · split
    · exact raise_unitReading (reading := UnitCounters.snapExpiries) (fun _ _ => rfl) ..
    · rfl

theorem counterTick_snapExpiries (s : State) :
    (counterTick s).counters.unit.snapExpiries =
      if s.snapshot.isSome ∧ (counterTick s).snapshot = none then bump s.counters.unit.snapExpiries
      else s.counters.unit.snapExpiries := by
  rw [counterTick_snapshot]
  cases hx : s.snapshot with
  | none => rw [counterTick_untaken hx]; rfl
  | some x =>
    rw [Option.bind_some, lowersLifetime]
    by_cases h : x.remaining ≤ 1
    · rw [if_pos h, if_pos ⟨rfl, rfl⟩, counterTick_expires hx h]
      exact raise_unitReading (reading := UnitCounters.snapExpiries) (fun _ _ => rfl) ..
    · rw [if_neg h, if_neg (fun e => nomatch e.2), counterTick_counts hx (by omega)]

/-- A counter of the unit that only raises and releases could move, and that is none of theirs. -/
theorem releasePoint_unitReading {α : Type} {reading : UnitCounters → α}
    (hread : ∀ k c, reading { k with suppressed := c } = reading k)
    (hcount : ∀ r k, reading (releaseCounted r k) = reading k) (s : State) :
    reading (releasePoint s).counters.unit = reading s.counters.unit := by
  have hone (u : State) : reading (oldestReleased u).counters.unit = reading u.counters.unit := by
    unfold oldestReleased
    cases hw : u.aligner.window with
    | nil => simp only [releasedAs, hw]
    | cons r rest =>
      rw [releasedAs_cons releaseCounted hw, ← hcount r u.counters.unit, ← releaseServed_unitReading hread]
      split <;> rfl
  have hmany (n : Nat) (u : State) : reading (releasedTimes n u).counters.unit = reading u.counters.unit := by
    induction n generalizing u with
    | zero => rfl
    | succ n ih => exact (ih _).trans (hone u)
  unfold releasePoint
  dsimp only
  rw [releaseMany_eq, hmany]
  rfl

theorem releaseCounted_snapExpiries (r : EpochRec) (k : UnitCounters) :
    (releaseCounted r k).snapExpiries = k.snapExpiries := by
  unfold releaseCounted
  split
  · rfl
  · split <;> rfl

theorem releasePoint_snapExpiries (s : State) :
    (releasePoint s).counters.unit.snapExpiries = s.counters.unit.snapExpiries :=
  releasePoint_unitReading (reading := UnitCounters.snapExpiries) (fun _ _ => rfl) releaseCounted_snapExpiries s

/-- The slot moves three counters of the unit. -/
theorem send_unitReading {α : Type} {reading : UnitCounters → α}
    (hread : ∀ k a b c, reading { k with replySent := a, noticeSent := b, fillSlots := c } = reading k) (c : Choice)
    (s : State) : reading (send c s).counters.unit = reading s.counters.unit := by
  cases c with
  | head g b => simp only [send, takeHead_frame]
  | reply =>
    unfold send sendReply
    dsimp only
    split
    · rfl
    · simp only [appendHeld_frame]
      exact hread s.counters.unit _ _ _
  | notice =>
    unfold send sendNotice
    dsimp only
    split
    · rfl
    · exact hread s.counters.unit _ _ _
  | fill => exact hread s.counters.unit _ _ _

theorem transmit_unitReading {α : Type} {reading : UnitCounters → α}
    (hread : ∀ k a b c, reading { k with replySent := a, noticeSent := b, fillSlots := c } = reading k) (b : Bool)
    (s : State) : reading (transmit b s).counters.unit = reading s.counters.unit := by
  unfold transmit
  dsimp only
  rw [send_unitReading hread]
  split <;> simp only [takeSwap_frame, endSlot_frame]

/-- What a tick moves. -/
def tickReading (s : State) : Option Ownership × Option Snapshot × Count :=
  (s.engine.owner, s.snapshot, s.counters.unit.snapExpiries)

theorem runTask_tickReading {m : Marks} {t : Config.Task} {s : State} (ht : t ≠ .tick)
    (hr : s.engine.requests = []) : tickReading (runTask m t s) = tickReading s := by
  unfold tickReading
  cases t with
  | tick => exact absurd rfl ht
  | take => rw [runTask, takeRequest_none hr]
  | renew => simp only [runTask_renew]
  | transmit =>
    have hsnap := transmit_unitReading (reading := UnitCounters.snapExpiries) (fun _ _ _ _ => rfl) m.swap s
    unfold runTask
    dsimp only
    rw [hsnap]
    simp only [transmit_frame]
  | release =>
    unfold runTask
    dsimp only
    split
    · rw [releasePoint_snapExpiries]
      simp only [releasePoint_frame]
    · rfl

theorem serve_tickReading {m : Marks} {s : State} (hr : s.engine.requests = []) :
    tickReading (serve m s) =
      if m.tick then
        (s.engine.owner.bind lowersLease, s.snapshot.bind lowersLifetime,
          if s.snapshot.isSome ∧ s.snapshot.bind lowersLifetime = none then bump s.counters.unit.snapExpiries
          else s.counters.unit.snapExpiries)
      else tickReading s := by
  refine serve_reading tickReading .tick _ hr (fun _ _ => rfl) (fun _ _ => runTask_tickReading) fun u _ hu => ?_
  cases ht : m.tick with
  | false => exact (congrArg tickReading (runTask_tick_off u ht)).trans hu
  | true =>
    have hrun : runTask m .tick u = counterTick (engineTick u) := if_pos ht
    obtain ⟨howner, hrest⟩ := Prod.mk.inj hu
    obtain ⟨hsnap, hcount⟩ := Prod.mk.inj hrest
    have hsame : (engineTick u).snapshot = u.snapshot := by simp only [engineTick_frame]
    have hkept : (counterTick (engineTick u)).engine = (engineTick u).engine := by simp only [counterTick_frame]
    rw [hrun, if_pos rfl]
    unfold tickReading
    rw [hkept, counterTick_snapExpiries, counterTick_snapshot, hsame, engineTick_owner, engineTick_snapExpiries, howner,
      hsnap, hcount]

/-! ### The aligner and the lanes (R70, R133) -/

/-- What a release point moves of the aligner and the lanes. -/
def alignReading (s : State) : Vector LaneState 6 × Aligner := (s.lanes, s.aligner)

theorem runTask_alignReading {m : Marks} {t : Config.Task} {s : State} (ht : t ≠ .release)
    (hr : s.engine.requests = []) : alignReading (runTask m t s) = alignReading s := by
  unfold alignReading
  cases t with
  | release => exact absurd rfl ht
  | take => rw [runTask, takeRequest_none hr]
  | renew => simp only [runTask_renew]
  | transmit => simp only [runTask, transmit_frame]
  | tick =>
    unfold runTask
    dsimp only
    split <;> simp only [counterTick_frame, engineTick_frame]

theorem serve_alignReading {m : Marks} {s : State} (hr : s.engine.requests = [])
    (hnone : m.release = true → releaseCount (dueLowered s.aligner.window) = 0) :
    alignReading (serve m s) =
      (s.lanes,
        if m.release then { s.aligner with window := dueLowered s.aligner.window } else s.aligner) := by
  refine serve_reading alignReading .release _ hr (fun _ _ => rfl) (fun _ _ => runTask_alignReading) fun u _ hu => ?_
  obtain ⟨hlanes, haligner⟩ := Prod.mk.inj hu
  rw [runTask_release m fun h => by rw [haligner]; exact hnone h, alignReading, hlanes, haligner]

/-! ### The budgets (R90) -/

/-- A flow entry is as it was but for its counts, or a DRAINING one is gone. -/
def entryKept (x y : Option FlowEntry) : Prop :=
  (x = none → y = none) ∧
  ∀ f, x = some f →
    (f.draining = true ∧ y = none) ∨ ∃ e, y = some e ∧ e.draining = f.draining ∧ e.admitted = f.admitted

theorem entryKept_refl (x : Option FlowEntry) : entryKept x x := ⟨id, fun f hf => .inr ⟨f, hf, rfl, rfl⟩⟩

theorem entryKept_trans {x y z : Option FlowEntry} (h : entryKept x y) (k : entryKept y z) : entryKept x z := by
  refine ⟨fun hx => k.1 (h.1 hx), fun f hf => ?_⟩
  rcases h.2 f hf with ⟨hd, hy⟩ | ⟨e, hy, hd, ha⟩
  · exact .inl ⟨hd, k.1 hy⟩
  · rcases k.2 e hy with ⟨hd', hz⟩ | ⟨e', hz, hd', ha'⟩
    · exact .inl ⟨hd.symm.trans hd', hz⟩
    · exact .inr ⟨e', hz, hd'.trans hd, ha'.trans ha⟩

theorem entryKept_map (x : Option FlowEntry) {g : FlowEntry → FlowEntry}
    (hg : ∀ f, (g f).draining = f.draining ∧ (g f).admitted = f.admitted) : entryKept x (x.map g) := by
  refine ⟨fun hx => by rw [hx]; rfl, fun f hf => .inr ⟨g f, by rw [hf]; rfl, hg f⟩⟩

/-- A renewal is a renewal of what came of the entry. -/
theorem entryKept_renewed {x y : Option FlowEntry} (h : entryKept x y) :
    entryKept (x.map fun f => { f with admitted := 0 }) (y.map fun f => { f with admitted := 0 }) := by
  refine ⟨fun hx => by rw [h.1 (Option.map_eq_none_iff.mp hx)]; rfl, fun f hf => ?_⟩
  obtain ⟨f', hf', rfl⟩ := Option.map_eq_some_iff.mp hf
  rcases h.2 f' hf' with ⟨hd, hy⟩ | ⟨e, hy, hd, -⟩
  · exact .inl ⟨hd, by rw [hy]; rfl⟩
  · exact .inr ⟨{ e with admitted := 0 }, by rw [hy]; rfl, hd, rfl⟩

theorem endDrain_entryKept (i j : FlowIdx) (s : State) : entryKept s.flows[j] (endDrain i s).flows[j] := by
  rcases endDrain_cases i s with ⟨-, heq⟩ | ⟨e, he, hd, -, heq⟩
  · rw [heq]
    exact entryKept_refl _
  · rw [heq]
    simp only [complete_frame, upd_get]
    split
    · next hj =>
      subst hj
      exact ⟨fun _ => rfl, fun f hf => .inl ⟨by obtain rfl := Option.some.inj (he.symm.trans hf); exact hd, rfl⟩⟩
    · exact entryKept_refl _

theorem rewriteAndSend_entryKept (r : GroupRec) (i : FlowIdx) (s : State) :
    entryKept s.flows[i] (rewriteAndSend r s).flows[i] := by
  cases hf : s.flows[r.entry] with
  | none =>
    have hsame : (rewriteAndSend r s).flows = s.flows := by
      unfold rewriteAndSend
      rw [hf]
      rfl
    rw [hsame]
    exact entryKept_refl _
  | some f =>
    rw [rewriteAndSend_entry hf]
    refine entryKept_trans ?_ (endDrain_entryKept r.entry i _)
    simp only [countFlow_frame, modFlow_frame, putOut_frame, upd_get]
    split
    · next hj =>
      subst hj
      exact entryKept_map _ fun _ => ⟨rfl, rfl⟩
    · exact entryKept_refl _

theorem transmit_entryKept (b : Bool) (i : FlowIdx) (s : State) : entryKept s.flows[i] (transmit b s).flows[i] := by
  have hsend (c : Choice) (u : State) : entryKept u.flows[i] (send c u).flows[i] := by
    cases c with
    | head g lent =>
      have hrewrite (r : GroupRec) (t : State) (ht : t.flows = u.flows) :
          entryKept u.flows[i] (rewriteAndSend r t).flows[i] := by
        rw [← ht]
        exact rewriteAndSend_entryKept r i t
      unfold send takeHead
      dsimp only
      split
      · exact entryKept_refl _
      · exact hrewrite _ _ (by split <;> rfl)
    | reply => simp only [send, sendReply_frame]; exact entryKept_refl _
    | notice => simp only [send, sendNotice_frame]; exact entryKept_refl _
    | fill => simp only [send, sendFill_frame]; exact entryKept_refl _
  have hbefore : (if b then takeSwap (endSlot s) else endSlot s).flows = s.flows := by
    split <;> simp only [takeSwap_frame, endSlot_frame]
  unfold transmit
  dsimp only
  rw [← hbefore]
  exact hsend _ _

/-- An entry as a boundary leaves it, by whether its budget has been renewed. -/
def renewedIf (b : Bool) (x : Option FlowEntry) : Option FlowEntry :=
  if b then x.map fun f => { f with admitted := 0 } else x

/-- What is known of an entry before the shares that are still to come, at a boundary that releases nothing. -/
def entryStage (m : Marks) (i : FlowIdx) (x : Option FlowEntry) (w : List EpochRec) (l : List Config.Task) (s : State) :
    Prop :=
  (.release ∈ l → s.aligner.window = w) ∧ entryKept (renewedIf (m.cycleStart && decide (.renew ∉ l)) x) s.flows[i]

theorem entryStage_step {m : Marks} {i : FlowIdx} {x : Option FlowEntry} {w : List EpochRec}
    (hw : m.release = true → releaseCount (dueLowered w) = 0) (t : Config.Task) (l : List Config.Task) (s : State)
    (ht : t ∉ l) (hr : s.engine.requests = []) (h : entryStage m i x w (t :: l) s) :
    entryStage m i x w l (runTask m t s) := by
  obtain ⟨hwindow, hentry⟩ := h
  have hother (hne : t ≠ .renew) : (.renew ∉ t :: l) ↔ .renew ∉ l := by simp [hne.symm]
  have hwindow' (hne : t ≠ .release) (hm : .release ∈ l) : (runTask m t s).aligner.window = w := by
    have hsame := congrArg Prod.snd (runTask_alignReading (m := m) hne hr)
    exact (congrArg Aligner.window hsame).trans (hwindow (List.mem_cons_of_mem t hm))
  cases t with
  | renew =>
    refine ⟨hwindow' nofun, ?_⟩
    have hbefore : (decide (Config.Task.renew ∉ Config.Task.renew :: l)) = false := by simp
    have hafter : (decide (Config.Task.renew ∉ l)) = true := by simpa using ht
    rw [hbefore, Bool.and_false] at hentry
    rw [hafter, Bool.and_true, runTask_renew]
    cases hc : m.cycleStart with
    | false => exact hentry
    | true =>
      simp only [if_true, Fin.getElem_fin, Vector.getElem_map]
      exact entryKept_renewed hentry
  | release =>
    refine ⟨fun hm => absurd hm ht, ?_⟩
    rw [runTask_release m fun h => by rw [hwindow (List.mem_cons_self ..)]; exact hw h]
    simpa only [hother nofun] using hentry
  | tick =>
    refine ⟨hwindow' nofun, ?_⟩
    have hflows : (runTask m .tick s).flows = s.flows := by
      unfold runTask
      dsimp only
      split <;> simp only [counterTick_frame, engineTick_frame]
    rw [hflows]
    simpa only [hother nofun] using hentry
  | transmit =>
    refine ⟨hwindow' nofun, ?_⟩
    simp only [hother nofun] at hentry
    exact entryKept_trans hentry (transmit_entryKept m.swap i s)
  | take =>
    refine ⟨hwindow' nofun, ?_⟩
    rw [runTask, takeRequest_none hr]
    simpa only [hother nofun] using hentry

theorem serve_entryKept {m : Marks} {s : State} (hr : s.engine.requests = [])
    (hw : m.release = true → releaseCount (dueLowered s.aligner.window) = 0) (i : FlowIdx) :
    entryKept (renewedIf m.cycleStart s.flows[i]) (serve m s).flows[i] := by
  obtain ⟨-, hentry⟩ := serve_stages (entryStage_step (i := i) (x := s.flows[i]) hw) hr fun o n =>
    ⟨fun _ => rfl, by
      have hmem : decide (Config.Task.renew ∉ o.tasks) = false := by simpa using mem_boundaryOrder o .renew
      rw [hmem, Bool.and_false]
      exact entryKept_refl _⟩
  simpa using hentry

/-! ### The boundary whole -/

/-- Settles O20: each block's share by what the boundary is, whatever the order in which the shares are taken. -/
theorem boundaryMovesTheTimer : Obligations.BoundaryMovesTheTimer := by
  intro s
  refine ⟨fun hrun => ?running, fun n hn => ⟨fun h => ?initialising, fun h => ?ends⟩, fun hheld => ?held⟩
  case initialising =>
    rw [exec, execSlotBoundary, anyBoundary, hn]
    exact congrArg Host.Outcome.next (if_pos h)
  case ends =>
    have hend : exec .initEnd s = .next (endInit s) := by rw [exec, execInitEnd, hn]
    rw [hend, exec, execSlotBoundary, anyBoundary, hn]
    exact congrArg Host.Outcome.next (if_neg (Nat.not_lt.mpr h))
  case held =>
    rw [exec, execSlotBoundary, anyBoundary, hheld]
  case running =>
    refine ⟨_, exec_slotBoundary hrun, ?timer, by simp only [serve_keeps]; rfl, by simp only [serve_keeps]; rfl,
      fun hreq => ?_⟩
    case timer =>
      simp only [serve_keeps]
      rfl
    have hreq' : (timerMoved s).engine.requests = [] := hreq
    obtain ⟨hpending, hphase, hports, -, hfollower, -, -, -, henabled, hbankA, hbankB, haddr, hleft⟩ :=
      serve_frame (nextMarks s) (timerMoved s) hreq'
    have hsched := serve_scheduleReading (m := nextMarks s) hreq'
    have htick := serve_tickReading (m := nextMarks s) hreq'
    have hnone (h : releasesNone s) (hm : (nextMarks s).release = true) :
        releaseCount (dueLowered (timerMoved s).aligner.window) = 0 :=
      releaseCount_dueLowered.mpr (h (of_decide_eq_true hm))
    refine ⟨hbankA, hbankB, fun hc hp => ?swaps, fun hno => ?unswapped, fun ht => ?ticks, fun ht => ?unticked,
      fun hf hn => ?lowered, fun hf => ?unreleased, fun hn i => ?budgets, haddr, hleft, hports, hfollower, henabled⟩
    case swaps =>
      rw [if_pos ⟨decide_eq_true hc, hp⟩] at hsched
      obtain ⟨hactive, hpend⟩ := Prod.mk.inj hsched
      exact ⟨hactive ▸ staged_ne_active s.sched, hpend⟩
    case unswapped =>
      have hnot : ¬((nextMarks s).swap = true ∧ (timerMoved s).sched.swapPending = true) := fun ⟨hc, hp⟩ =>
        hno.elim (fun h => h (of_decide_eq_true hc)) fun h => absurd (h.symm.trans hp) Bool.false_ne_true
      rw [if_neg hnot] at hsched
      exact Prod.mk.inj hsched
    case ticks =>
      have hyes : (nextMarks s).tick = true := decide_eq_true ht
      rw [if_pos hyes] at htick
      obtain ⟨howner, hrest⟩ := Prod.mk.inj htick
      obtain ⟨hsnap, hcount⟩ := Prod.mk.inj hrest
      exact ⟨howner, hsnap, by rw [hsnap]; exact hcount⟩
    case unticked =>
      have hno : (nextMarks s).tick = false := decide_eq_false ht
      rw [hno] at htick
      obtain ⟨howner, hrest⟩ := Prod.mk.inj htick
      exact ⟨howner, Prod.mk.inj hrest⟩
    case lowered =>
      have halign := serve_alignReading hreq' (hnone hn)
      have hyes : (nextMarks s).release = true := decide_eq_true hf
      rw [if_pos hyes] at halign
      exact Prod.mk.inj halign
    case unreleased =>
      have hno : (nextMarks s).release = false := decide_eq_false hf
      have halign := serve_alignReading (m := nextMarks s) hreq' fun h => absurd (hno.symm.trans h) Bool.false_ne_true
      rw [hno] at halign
      exact Prod.mk.inj halign
    case budgets =>
      obtain ⟨hfree, hkept⟩ := serve_entryKept hreq' (hnone hn) i
      have hrenewed (x : Option FlowEntry) : renewedIf (nextMarks s).cycleStart x =
          x.map fun f => { f with admitted := if cycleStarts s then 0 else f.admitted } := by
        unfold renewedIf
        by_cases hc : cycleStarts s
        · have hyes : (nextMarks s).cycleStart = true := decide_eq_true hc
          simp only [if_pos hc, if_pos hyes]
        · simp only [if_neg hc]
          rw [if_neg (by simpa [nextMarks] using hc)]
          exact Option.map_id'.symm
      rw [hrenewed] at hfree hkept
      refine ⟨fun hx => hfree (by rw [show (timerMoved s).flows[i] = none from hx]; rfl), fun f hf => ?_⟩
      rcases hkept _ (by rw [show (timerMoved s).flows[i] = some f from hf]; rfl) with ⟨hd, he⟩ | ⟨e, he, -, ha⟩
      · exact .inl ⟨hd, he⟩
      · exact .inr ⟨e, he, ha⟩

end Sys2Proof.Machine
end

section
/-! PROOF. A CREF pulse: the follower's share by its mode, and the boundary that hands on from it. -/

-- Checked one after another, as the tests are: the theorems of a section all at once take a thread each.
set_option Elab.async false

namespace Sys2Proof.Machine

theorem takesPulse_iff (s : State) : takesPulse s = true ↔ pulseTaken s := by
  simp [takesPulse, pulseTaken]

theorem armWaits_iff (s : State) : armWaits s = true ↔ armWaiting s := by
  simp [armWaits, armWaiting, takesPulse_iff, and_assoc]

/-! ### The timer at a pulse (R135, R136) -/

theorem movedTimer_cut (s : State) :
    (markBegun { s with timer := s.timer.next true }) = { s with timer := movedTimer True s } := by
  simp [markBegun, Timer.next, movedTimer, atReleasePoint, eq_comm, Bool.beq_eq_decide_eq]

theorem movedTimer_uncut (s : State) :
    (markBegun { s with timer := s.timer.next false }) = { s with timer := movedTimer False s } := by
  by_cases h63 : s.timer.slot = 63
  · simp [markBegun, Timer.next, movedTimer, atReleasePoint, h63, eq_comm, Bool.beq_eq_decide_eq]
  · have h0 : ¬s.timer.slot + 1 = 0 := fun e => h63 ((slot_succ_eq_zero _).mp e)
    simp [markBegun, Timer.next, movedTimer, atReleasePoint, h63, h0, eq_comm, Bool.beq_eq_decide_eq]

theorem phaseError_eq (s : State) : phaseError (s.timer.slot + 1) = nextPhase s := rfl

/-- A pulse with its phase error is recorded. -/
def pulseNoted (p : Int) (s : State) : State :=
  { s with
    counters := { s.counters with unit := { s.counters.unit with crefPulses := bump s.counters.unit.crefPulses } }
    follower := { s.follower with lastPhase := some p } }

theorem pulseNoted_cut (s : State) :
    pulseNoted (nextPhase s) { s with timer := movedTimer True s } = pulseCounted True s := rfl

theorem pulseNoted_uncut (s : State) :
    pulseNoted (nextPhase s) { s with timer := movedTimer False s } = pulseCounted False s := rfl

theorem outsideWindow_iff (s : State) (p : Int) : outsideWindow s p = true ↔ s.follower.window < p.natAbs := by
  simp [outsideWindow]

theorem outsideWindow_inside {s : State} {p : Int} (h : p.natAbs ≤ s.follower.window) : outsideWindow s p = false :=
  Bool.eq_false_iff.mpr fun e => absurd ((outsideWindow_iff s p).mp e) (Nat.not_lt.mpr h)

/-- What the follower does in a mode once the pulse is recorded (R135). -/
def pulseActs (mode : FollowMode) (p : Int) (s : State) : State :=
  match mode with
  | .free => s
  | .watch => if outsideWindow s p then raise .refDrift unitSubject [phaseOctet p] s else s
  | .always => if outsideWindow s p then noteRealign p s else s
  | .once => if s.follower.armed then completeArm p s else s

theorem followPulse_eq (p : Int) (s : State) : followPulse p s = pulseActs s.follower.mode p (pulseNoted p s) := rfl

section
variable {s : State} {p : Int}

theorem followPulse_free (h : s.follower.mode = .free) : followPulse p s = pulseNoted p s := by
  rw [followPulse_eq, h]
  rfl

theorem followPulse_watch (h : s.follower.mode = .watch) :
    followPulse p s =
      if outsideWindow s p then raise .refDrift unitSubject [phaseOctet p] (pulseNoted p s) else pulseNoted p s := by
  rw [followPulse_eq, h]
  rfl

theorem followPulse_always (h : s.follower.mode = .always) :
    followPulse p s = if outsideWindow s p then noteRealign p (pulseNoted p s) else pulseNoted p s := by
  rw [followPulse_eq, h]
  rfl

theorem followPulse_once (h : s.follower.mode = .once) :
    followPulse p s = if s.follower.armed then completeArm p (pulseNoted p s) else pulseNoted p s := by
  rw [followPulse_eq, h]
  rfl

end

/-- A pulse that does not cut the cycle. -/
theorem takePulse_uncut {s t : State} (hcut : pulseCuts s (nextPhase s) = false)
    (ht : followPulse (nextPhase s) { s with timer := movedTimer False s } = t) :
    takePulse s = if t.timer.slot = 0 then takeSwap t else t := by
  unfold takePulse
  dsimp only
  rw [phaseError_eq, hcut, movedTimer_uncut s, ht]

theorem takePulse_cut {s t : State} (hcut : pulseCuts s (nextPhase s) = true)
    (ht : followPulse (nextPhase s) { s with timer := movedTimer True s } = t) :
    takePulse s = if t.timer.slot = 0 then takeSwap t else t := by
  unfold takePulse
  dsimp only
  rw [phaseError_eq, hcut, movedTimer_cut s, ht]

/-- A pulse leaves what its mode asks, but for a swap. -/
theorem takePulse_leaves {s t : State} (h : pulseLeaves s t) :
    takePulse s = if t.timer.slot = 0 then takeSwap t else t := by
  rcases h with ⟨hmode, rfl⟩ | ⟨hm, hout, rfl⟩ | ⟨hm, hout, rfl⟩
  · rcases hmode with hm | ⟨hm, ha⟩ | ⟨hm | hm, hin⟩
    · exact takePulse_uncut (by simp [pulseCuts, hm]) (followPulse_free hm)
    · exact takePulse_uncut (by simp [pulseCuts, hm, ha])
        ((followPulse_once (by exact hm)).trans (if_neg (by simp [ha])))
    · exact takePulse_uncut (by simp [pulseCuts, hm])
        ((followPulse_watch (by exact hm)).trans (if_neg (by exact Bool.eq_false_iff.mp (outsideWindow_inside (s := s) hin))))
    · have hno := outsideWindow_inside (s := s) hin
      exact takePulse_uncut (by simp [pulseCuts, hm, hno])
        ((followPulse_always (by exact hm)).trans (if_neg (by exact Bool.eq_false_iff.mp hno)))
  · have hyes := (outsideWindow_iff s (nextPhase s)).mpr hout
    exact takePulse_uncut (by simp [pulseCuts, hm]) ((followPulse_watch (by exact hm)).trans (if_pos (by exact hyes)))
  · have hyes := (outsideWindow_iff s (nextPhase s)).mpr hout
    exact takePulse_cut (by simp [pulseCuts, hm, hyes])
      ((followPulse_always (by exact hm)).trans (if_pos (by exact hyes)))

/-- A pulse that completes an arm leaves its report, but for a swap (R137). -/
theorem takePulse_arm {s t : State} {o : Operation} (hm : s.follower.mode = .once)
    (ha : s.follower.armed = true) (ho : onlyOperation s .follower o) (h : armLeaves s o t) :
    takePulse s = if t.timer.slot = 0 then takeSwap t else t := by
  rcases h with ⟨hp, rfl⟩ | ⟨hp, rfl⟩
  · refine takePulse_uncut (by simp [pulseCuts, hm, ha, hp]) ?_
    rw [followPulse_once (by exact hm), if_pos (by exact ha), pulseNoted_uncut, hp]
    exact complete_eq_reported (s := { pulseCounted False s with
      follower := { (pulseCounted False s).follower with mode := .watch, armed := false } }) ho _ _
  · refine takePulse_cut (by simp [pulseCuts, hm, ha, hp]) ?_
    rw [followPulse_once (by exact hm), if_pos (by exact ha), pulseNoted_cut]
    have hnote : noteRealign (nextPhase s) (pulseCounted True s) = pulseRealigns s := rfl
    unfold completeArm
    dsimp only
    have hbit : yn (nextPhase s != 0) = 0x01 := by simp [hp, yn]
    have hfollower : (pulseRealigns s).follower = (pulseCounted True s).follower := by simp [pulseRealigns]
    have hengine : (pulseRealigns s).engine = s.engine := by simp [pulseRealigns, pulseCounted]
    have hop : onlyOperation { pulseRealigns s with
        follower := { (pulseCounted True s).follower with mode := .watch, armed := false } } .follower o := by
      unfold onlyOperation at ho ⊢
      rw [hengine]
      exact ho
    rw [if_neg hp, hnote, hbit, hfollower]
    exact complete_eq_reported hop _ _

theorem swapWaits_pulse {s t : State} (h : takePulse s = if t.timer.slot = 0 then takeSwap t else t) :
    (¬swapWaits t → takePulse s = t) ∧ (swapWaits t → takePulse s = takeSwap t) := by
  refine ⟨fun hno => ?_, fun ⟨hslot, _⟩ => h.trans (if_pos hslot)⟩
  by_cases hslot : t.timer.slot = 0
  · rw [h, if_pos hslot]
    exact takeSwap_none (Bool.eq_false_iff.mpr fun hp => hno ⟨hslot, hp⟩)
  · rw [h, if_neg hslot]

/-! ### The boundary that hands on from a pulse (R112, R133, R141) -/

theorem runTasks_swap_after {m : Marks} (b : Bool) {l : List Config.Task} (h : Config.Task.transmit ∉ l) (s : State) :
    runTasks { m with swap := b } l s = runTasks m l s := by
  induction l generalizing s with
  | nil => rfl
  | cons t l ih =>
    rw [List.mem_cons, not_or] at h
    have hsame : runTask { m with swap := b } t s = runTask m t s := by
      cases t with
      | transmit => exact absurd rfl h.1
      | _ => rfl
    rw [runTasks_cons, runTasks_cons, hsame]
    exact ih h.2 _

/-- With no swap pending it is the same whether the schedule meets the cycle start. -/
theorem runTasks_swap {m : Marks} (b : Bool) {l : List Config.Task} (hl : l.filter isSlotOrTake = [.transmit, .take])
    {s : State} (h : s.sched.swapPending = false) : runTasks { m with swap := b } l s = runTasks m l s := by
  induction l generalizing s with
  | nil => rfl
  | cons t l ih =>
    rw [runTasks_cons, runTasks_cons]
    by_cases ht : t = .transmit
    · subst ht
      have hrest : l.filter isSlotOrTake = [.take] := (List.cons.inj ((List.filter_cons_of_pos rfl).symm.trans hl)).2
      have hout : Config.Task.transmit ∉ l := fun hm => by
        have hin := List.mem_filter.mpr ⟨hm, (rfl : isSlotOrTake .transmit = true)⟩
        rw [hrest] at hin
        simp at hin
      rw [runTasks_swap_after b hout]
      exact congrArg (runTasks m l) ((transmit_unpending h b).trans (transmit_unpending h m.swap).symm)
    · have hslot : isSlotOrTake t = false := by
        cases hx : isSlotOrTake t with
        | false => rfl
        | true =>
          rw [List.filter_cons_of_pos hx] at hl
          exact absurd (List.cons.inj hl).1 ht
      have hsame : runTask { m with swap := b } t s = runTask m t s := by
        cases t with
        | transmit => exact absurd rfl ht
        | _ => rfl
      rw [hsame]
      refine ih (by rwa [List.filter_cons_of_neg (by simp [hslot])] at hl) ?_
      cases t with
      | transmit => cases hslot
      | take => cases hslot
      | renew => rw [runTask_renew]; exact h
      | tick => unfold runTask; dsimp only; split <;> simpa using h
      | release => unfold runTask; dsimp only; split <;> simpa using h

theorem serve_swap {m : Marks} (b : Bool) {s : State} (h : s.sched.swapPending = false) :
    serve { m with swap := b } s = serve m s := by
  have hsame : contested { m with swap := b } s = contested m s := rfl
  unfold serve
  rw [hsame]
  split <;> exact runTasks_swap b (boundaryOrder_order _) h

/-- A pulse that does not cut moves the timer as the boundary alone does, and keeps what the boundary is but for the
schedule's share. -/
theorem nextMarks_moved {s : State} (hb : s.timer.begun = none) :
    timerMoved { s with timer := movedTimer False s } = timerMoved s ∧
    nextMarks { s with timer := movedTimer False s } = { nextMarks s with swap := false } := by
  by_cases h63 : s.timer.slot = 63
  · simp [timerMoved, nextMarks, movedTimer, handedTimer, hb, h63, eq_comm (a := (0 : Slot))]
    exact tick_succ_eq_zero s.timer.tick
  · have h0 : ¬s.timer.slot + 1 = 0 := fun e => h63 ((slot_succ_eq_zero _).mp e)
    simp [timerMoved, nextMarks, movedTimer, handedTimer, hb, h63, h0, eq_comm (a := s.aligner.releaseSlot)]

/-- Settles O23: the follower's mode, the timer's move, and the boundary that goes on from a pulse. -/
theorem pulseActsByFollowMode : Obligations.PulseActsByFollowMode := by
  refine ⟨fun s h => ?untaken, fun s t h hleaves => ?leaves, fun s h => ?unarmed, fun s t o h ho hleaves c hc => ?arm,
    fun s h hp => ?same, fun s hrun hb hreq => ?follows⟩
  case untaken => exact congrArg Host.Outcome.next (if_neg fun e => h ((takesPulse_iff s).mp e))
  case unarmed => exact congrArg Host.Outcome.next (if_neg fun e => h ((armWaits_iff s).mp e))
  case leaves =>
    have hexec : exec .crefPulse s = .next (takePulse s) :=
      congrArg Host.Outcome.next (if_pos ((takesPulse_iff s).mpr h))
    obtain ⟨hno, hyes⟩ := swapWaits_pulse (takePulse_leaves hleaves)
    exact ⟨fun hw => hexec.trans (congrArg _ (hno hw)), fun hw => hexec.trans (congrArg _ (hyes hw))⟩
  case arm =>
    have hexec : exec c s = .next (takePulse s) := by
      rcases List.mem_cons.mp hc with rfl | hc
      · exact congrArg Host.Outcome.next (if_pos ((takesPulse_iff s).mpr h.1))
      · rw [List.mem_singleton.mp hc]
        exact congrArg Host.Outcome.next (if_pos ((armWaits_iff s).mpr h))
    obtain ⟨-, hm, ha⟩ := h
    obtain ⟨hno, hyes⟩ := swapWaits_pulse (takePulse_arm hm ha ho hleaves)
    exact ⟨fun hw => hexec.trans (congrArg _ (hno hw)), fun hw => hexec.trans (congrArg _ (hyes hw))⟩
  case same =>
    obtain ⟨hrun, hb⟩ := h
    obtain ⟨hmoved, hmarks⟩ := nextMarks_moved hb
    rw [exec_slotBoundary hrun, exec_slotBoundary (by exact hrun), hmoved, hmarks]
    refine congrArg Host.Outcome.next ?_
    by_cases hc : scheduleStarts s
    · exact (serve_swap false (by exact hp hc)).symm
    · have hno : (nextMarks s).swap = false := decide_eq_false hc
      rw [← hno]
  case follows =>
    obtain ⟨t, hexec, -, -, -, hshares⟩ := (boundaryMovesTheTimer s).1 hrun
    obtain ⟨-, -, -, hkept, -, -, -, hunreleased, -⟩ := hshares hreq
    obtain ⟨hactive, hpending⟩ := hkept (.inl fun hc => hb hc.1)
    refine ⟨t, hexec, hactive, hpending, fun hf => ?_⟩
    have hno : ¬releaseFalls s := fun hr => by
      rcases hr with hr | ⟨hr, -⟩
      · rw [hf] at hr
        cases hr
      · exact hb hr
    exact (hunreleased hno).symm

end Sys2Proof.Machine
end

section
/-! PROOF. A slot that carries FILL and a release of records: neither reads what the other changes, so that their order
is the same. -/

-- Checked one after another, as the tests are: the theorems of a section all at once take a thread each.
set_option Elab.async false

namespace Sys2Proof.Machine

section
variable (s : State)

theorem fillSent_freed (n : Nat) : { fillSent s with free := (fillSent s).free + n } = fillSent { s with free := s.free + n } := by
  have hfree : (fillSent s).free + n = (fillSent { s with free := s.free + n }).free := Nat.add_right_comm ..
  rw [hfree]
  rfl

theorem raise_fillSent (k : NoticeKind) (x : Byte) (d : Octets) : raise k x d (fillSent s) = fillSent (raise k x d s) := by
  unfold raise
  rw [apply_ite fillSent]
  rfl

/-! ### A released cell at the classifier -/

variable (x : Epoch) (c : DataCell)

theorem countFlow_fillSent (i : FlowIdx) (f : FlowCounters → FlowCounters) :
    countFlow i f (fillSent s) = fillSent (countFlow i f s) := rfl

theorem modFlow_fillSent (i : FlowIdx) (f : FlowEntry → FlowEntry) :
    modFlow i f (fillSent s) = fillSent (modFlow i f s) := rfl

theorem giveBack_fillSent : giveBack (.aligned x) (fillSent s) = fillSent (giveBack (.aligned x) s) := fillSent_freed s 1

theorem groupAdmission_fillSent (i : FlowIdx) (g : Group) :
    groupAdmission i g (.aligned x) c (fillSent s) = fillSent (groupAdmission i g (.aligned x) c s) := by
  by_cases hroom : s.groups[g].limit ≤ s.groups[g].queue.length
  · rw [groupAdmission_full hroom, groupAdmission_full (s := fillSent s) hroom, ← giveBack_fillSent, ← raise_fillSent]
    rfl
  · have hroom' := Nat.lt_of_not_le hroom
    rw [groupAdmission_aligned hroom', groupAdmission_aligned (s := fillSent s) hroom']
    rfl

theorem classifyHit_fillSent (i : FlowIdx) (e : FlowEntry) :
    classifyHit i e (.aligned x) c (fillSent s) = fillSent (classifyHit i e (.aligned x) c s) := by
  unfold classifyHit
  split
  · rw [countFlow_fillSent, giveBack_fillSent]
  · cases seqVerdict e c.seq with
    | stale =>
      dsimp only
      rw [countFlow_fillSent, giveBack_fillSent]
    | passes y gap =>
      dsimp only
      rw [modFlow_fillSent, countFlow_fillSent, countFlow_fillSent, giveBack_fillSent, groupAdmission_fillSent,
        ← apply_ite fillSent]

theorem classify_fillSent : classify (.aligned x) c (fillSent s) = fillSent (classify (.aligned x) c s) := by
  have hkey : findKey (fillSent s) c.lane.val c.flow.toNat = findKey s c.lane.val c.flow.toNat := rfl
  unfold classify
  rw [hkey]
  cases findKey s c.lane.val c.flow.toNat with
  | none =>
    dsimp only
    rw [← giveBack_fillSent, ← raise_fillSent]
    rfl
  | some i =>
    have hflows : (fillSent s).flows = s.flows := rfl
    dsimp only
    rw [hflows]
    cases s.flows[i] with
    | none => rfl
    | some e => exact classifyHit_fillSent s x c i e

end

/-! ### The release of a record -/

theorem lateCharged_fillSent (l : Lane) (e : Epoch) (m : Membership) (s : State) :
    lateCharged l e m (fillSent s) = fillSent (lateCharged l e m s) := by
  have hcells : { cellsTaken l e m (min (s.lanes[l].lateCount + 1) 7) (fillSent s) with
        free := (fillSent s).free + s.lanes[l].queue.countP fun q => q.epoch == e } =
      fillSent { cellsTaken l e m (min (s.lanes[l].lateCount + 1) 7) s with
        free := s.free + s.lanes[l].queue.countP fun q => q.epoch == e } :=
    fillSent_freed (cellsTaken l e m (min (s.lanes[l].lateCount + 1) 7) s) _
  have hraised := raise_fillSent { cellsTaken l e m (min (s.lanes[l].lateCount + 1) 7) s with
      free := s.free + s.lanes[l].queue.countP fun q => q.epoch == e } .laneLate (BitVec.ofNat 8 l.val)
    (o16 e.toNat ++ [BitVec.ofNat 8 (min (s.lanes[l].lateCount + 1) 7)])
  rw [← hcells] at hraised
  exact congrArg (laneCounted l fun k => { k with lates := bump k.lates }) hraised

theorem lateFor_fillSent (l : Lane) (e : Epoch) (s : State) : lateFor l e (fillSent s) = fillSent (lateFor l e s) := by
  rw [lateFor_eq, lateFor_eq]
  have hlimit : (fillSent s).aligner = s.aligner := rfl
  have hlanes : (fillSent s).lanes = s.lanes := rfl
  rw [hlimit, hlanes, lateCharged_fillSent, lateCharged_fillSent]
  split
  · exact congrArg (laneCounted l _) (raise_fillSent { lateCharged l e .lagging s with
      aligner := { s.aligner with window := ejectedWindow l s.aligner.skew s.aligner.window } } _ _ _)
  · rfl

theorem handedOn_fillSent (l : Lane) (e : Epoch) (s : State) : handedOn l e (fillSent s) = fillSent (handedOn l e s) := by
  have hfold (recs : List LaneRec) (u : State) :
      recs.foldl (fun u q => classify (.aligned e) q.cell u) (fillSent u) =
        fillSent (recs.foldl (fun u q => classify (.aligned e) q.cell u) u) := by
    induction recs generalizing u with
    | nil => rfl
    | cons q recs ih => rw [List.foldl_cons, List.foldl_cons, classify_fillSent, ih]
  exact hfold _ (cellsTaken l e s.lanes[l].member 0 s)

/-- What commutes with each lane's share commutes with a round over the lanes. -/
theorem overLanes_fillSent {chosen : Lane → Prop} [DecidablePred chosen] {serve : Lane → State → State}
    (hserve : ∀ l u, serve l (fillSent u) = fillSent (serve l u)) (lanes : List Lane) (s : State) :
    lanes.foldl (fun u l => if chosen l then serve l u else u) (fillSent s) =
      fillSent (lanes.foldl (fun u l => if chosen l then serve l u else u) s) := by
  induction lanes generalizing s with
  | nil => rfl
  | cons l lanes ih =>
    rw [List.foldl_cons, List.foldl_cons, hserve, ← apply_ite fillSent, ih]

theorem releaseCounted_fillSlots (r : EpochRec) (k : UnitCounters) (n : Count) :
    releaseCounted r { k with fillSlots := n } = { releaseCounted r k with fillSlots := n } := by
  unfold releaseCounted
  split
  · rfl
  · split <;> rfl

theorem releaseCounted_fillSlots_kept (r : EpochRec) (k : UnitCounters) : (releaseCounted r k).fillSlots = k.fillSlots := by
  unfold releaseCounted
  split
  · rfl
  · split <;> rfl

theorem releaseServed_fillSent (r : EpochRec) (s : State) :
    releaseServed releaseCounted r (fillSent s) = fillSent (releaseServed releaseCounted r s) := by
  have hcounted : { fillSent s with counters := { (fillSent s).counters with
        unit := releaseCounted r (fillSent s).counters.unit } } =
      fillSent { s with counters := { s.counters with unit := releaseCounted r s.counters.unit } } := by
    unfold fillSent
    dsimp only
    rw [releaseCounted_fillSlots, releaseCounted_fillSlots_kept]
  unfold releaseServed
  rw [hcounted]
  unfold lateLanes closedLanes
  rw [overLanes_fillSent fun l u => lateFor_fillSent l r.epoch u, overLanes_fillSent fun l u => handedOn_fillSent l r.epoch u]

theorem oldestReleased_fillSent (s : State) : oldestReleased (fillSent s) = fillSent (oldestReleased s) := by
  unfold oldestReleased
  cases hw : s.aligner.window with
  | nil =>
    have hw' : (fillSent s).aligner.window = [] := hw
    simp only [releasedAs, hw, hw']
  | cons r rest =>
    rw [releasedAs_cons releaseCounted hw, releasedAs_cons (s := fillSent s) releaseCounted hw, releaseServed_fillSent,
      apply_ite fillSent]
    rfl

theorem releasedTimes_fillSent (n : Nat) (s : State) : releasedTimes n (fillSent s) = fillSent (releasedTimes n s) := by
  induction n generalizing s with
  | zero => rfl
  | succ n ih =>
    unfold releasedTimes
    rw [oldestReleased_fillSent, ih]

theorem releasePoint_eq (s : State) :
    releasePoint s =
      releasedTimes (releaseCount (dueLowered s.aligner.window))
        { s with aligner := { s.aligner with window := dueLowered s.aligner.window } } := by
  unfold releasePoint
  dsimp only
  rw [releaseMany_eq]
  rfl

/-- A release point and a slot that carries FILL come to the same in either order. -/
theorem releasePoint_fillSent (s : State) : releasePoint (fillSent s) = fillSent (releasePoint s) := by
  rw [releasePoint_eq, releasePoint_eq]
  exact releasedTimes_fillSent (releaseCount (dueLowered s.aligner.window))
    { s with aligner := { s.aligner with window := dueLowered s.aligner.window } }

end Sys2Proof.Machine
end

section
/-! PROOF. A release point: records due, whatever the order of the shares, and what the classifier does with a released
cell. -/

-- Checked one after another, as the tests are: the theorems of a section all at once take a thread each.
set_option Elab.async false

namespace Sys2Proof.Machine

/-! ### One record, due now (R70, R71) -/

/-- A lane when a record with this status of it has been released. -/
def releasedLane (prof : Profile) (limit : Nat) (r : EpochRec) (l : Lane) (x : LaneState) : LaneState :=
  match r.status[l] with
  | .expected => lateLane prof limit r.epoch x
  | .closed => handedLane prof r.epoch x
  | .na => x

section
variable {prof : Profile} {limit : Nat} {r : EpochRec} {l : Lane} {x : LaneState}

theorem releasedLane_na (h : r.status[l] = .na) : releasedLane prof limit r l x = x := by
  unfold releasedLane
  rw [h]

theorem releasedLane_closed (h : r.status[l] = .closed) : releasedLane prof limit r l x = handedLane prof r.epoch x := by
  unfold releasedLane
  rw [h]

theorem releasedLane_expected (h : r.status[l] = .expected) : releasedLane prof limit r l x = lateLane prof limit r.epoch x := by
  unfold releasedLane
  rw [h]

end

/-- A lane that is late for its current epoch (R72). -/
theorem lateFor_current (e : Epoch) (late : Bool) : (Membership.isIn e late).lateFor e = .isIn e true := by
  cases late <;> simp [Membership.lateFor]

/-- The only record of the window of `s` has been released. -/
structure SoleReleased (s : State) (r : EpochRec) (t : State) : Prop where
  window : t.aligner.window = []
  last : t.aligner.lastReleased = some r.epoch ∨
    t.aligner.lastReleased = none ∧ t.aligner.running = false ∧ ∀ l : Lane, t.lanes[l].member.inSet = false
  lanes : ∀ l : Lane, t.lanes[l] = releasedLane s.ports[l.port].profile s.aligner.lateLimit r l s.lanes[l]
  counted : ∀ l : Lane, t.counters.lanes[l] =
    if r.status[l] = .expected then lateCounters s.aligner.lateLimit s.lanes[l] s.counters.lanes[l]
    else s.counters.lanes[l]
  counts : releaseCounts t.counters.unit = releaseCounts (releaseCounted r s.counters.unit)

theorem oldestReleased_sole {u : State} {r : EpochRec} (h : u.aligner.window = [r]) : SoleReleased u r (oldestReleased u) := by
  have hlength : (releaseServed releaseCounted r u).aligner.window.length = 1 := by
    rw [releaseServed_length, h]
    rfl
  obtain ⟨q, hq⟩ := List.length_eq_one_iff.mp hlength
  have hlanes (l : Lane) : (releaseServed releaseCounted r u).lanes[l] =
      releasedLane u.ports[l.port].profile u.aligner.lateLimit r l u.lanes[l] := by
    rw [releaseServed_at]
    unfold releasedLane
    cases r.status[l] <;> rfl
  have hcounted (l : Lane) : (releaseServed releaseCounted r u).counters.lanes[l] =
      if r.status[l] = .expected then lateCounters u.aligner.lateLimit u.lanes[l] u.counters.lanes[l]
      else u.counters.lanes[l] := by
    unfold releaseServed
    rw [(closedLanes_at _ _ l).2, (lateLanes_at _ _ l).2]
  have hcounts := releaseServed_releaseCounts releaseCounted r u
  rw [oldestReleased, releasedAs_cons _ h]
  split
  · next hset => exact ⟨rfl, .inr ⟨rfl, rfl, hset.2⟩, hlanes, hcounted, hcounts⟩
  · exact ⟨by dsimp only; rw [hq]; rfl, .inl rfl, hlanes, hcounted, hcounts⟩

/-- What a release reads and moves of the lanes, the aligner and the counters. -/
def releaseReading (s : State) : Vector PortState 7 × (Vector LaneState 6 × Aligner) × Vector LaneCounters 6 × (Count × Count × Count × Count) :=
  (s.ports, alignReading s, s.counters.lanes, releaseCounts s.counters.unit)

theorem runTask_releaseReading {m : Marks} {t : Config.Task} {s : State} (ht : t ≠ .release)
    (hr : s.engine.requests = []) : releaseReading (runTask m t s) = releaseReading s := by
  unfold releaseReading
  rw [runTask_alignReading ht hr]
  cases t with
  | release => exact absurd rfl ht
  | take => rw [runTask, takeRequest_none hr]
  | renew => simp only [runTask_renew]
  | transmit =>
    have hcounts := transmit_unitReading (reading := releaseCounts) (fun _ _ _ _ => rfl) m.swap s
    unfold runTask
    dsimp only
    rw [hcounts]
    simp only [transmit_frame]
  | tick =>
    have hengine : releaseCounts (engineTick s).counters.unit = releaseCounts s.counters.unit := by
      unfold engineTick
      split
      · rfl
      · split
        · exact raise_releaseCounts ..
        · rfl
    have hcounter (u : State) : releaseCounts (counterTick u).counters.unit = releaseCounts u.counters.unit := by
      unfold counterTick
      split
      · rfl
      · split
        · exact raise_releaseCounts ..
        · rfl
    unfold runTask
    dsimp only
    split
    · rw [hcounter, hengine]
      simp only [counterTick_frame, engineTick_frame]
    · rfl

theorem releaseCounted_counts (r : EpochRec) {k k' : UnitCounters} (h : releaseCounts k = releaseCounts k') :
    releaseCounts (releaseCounted r k) = releaseCounts (releaseCounted r k') := by
  simp only [releaseCounts, Prod.mk.injEq] at h
  obtain ⟨hfull, hpartial, hempty, hforced⟩ := h
  unfold releaseCounted releaseCounts
  split
  · simp [hfull, hpartial, hempty, hforced]
  · split <;> simp [hfull, hpartial, hempty, hforced]

theorem releaseCounted_forced (r : EpochRec) (k : UnitCounters) :
    (releaseCounted r k).forcedReleases = k.forcedReleases := by
  unfold releaseCounted
  split
  · rfl
  · split <;> rfl

/-- Of the state before it a release turns on the ports, the lanes, the late limit and the counters. -/
theorem SoleReleased.of_before {s u t : State} {r : EpochRec} (h : SoleReleased u r t)
    (he : releaseReading u = releaseReading s) : SoleReleased s r t := by
  simp only [releaseReading, alignReading, Prod.mk.injEq] at he
  obtain ⟨hports, ⟨hlanes, haligner⟩, hcounted, hcounts⟩ := he
  obtain ⟨hw, hlast, hl, hc, hu⟩ := h
  refine ⟨hw, hlast, fun l => ?_, fun l => ?_, hu.trans (releaseCounted_counts r hcounts)⟩
  · rw [hl, hports, hlanes, haligner]
  · rw [hc, hlanes, haligner, hcounted]

theorem SoleReleased.of_after {s u t : State} {r : EpochRec} (h : SoleReleased s r u)
    (he : releaseReading t = releaseReading u) : SoleReleased s r t := by
  simp only [releaseReading, alignReading, Prod.mk.injEq] at he
  obtain ⟨-, ⟨hlanes, haligner⟩, hcounted, hcounts⟩ := he
  obtain ⟨hw, hlast, hl, hc, hu⟩ := h
  exact ⟨haligner ▸ hw, by rw [hlanes, haligner]; exact hlast, fun l => by rw [hlanes]; exact hl l,
    fun l => by rw [hcounted]; exact hc l, hcounts.trans hu⟩

theorem releasePoint_sole {u : State} {r : EpochRec} (h : u.aligner.window = [r]) (hd : r.due = some 1) :
    SoleReleased u r (releasePoint u) := by
  have hw : dueLowered u.aligner.window = [{ r with due := some 0 }] := by
    rw [h]
    simp [dueLowered, hd]
  have hcount : releaseCount (dueLowered u.aligner.window) = 1 := by rw [hw]; rfl
  obtain ⟨hwindow, hlast, hlanes, hcounted, hcounts⟩ :=
    oldestReleased_sole (u := { u with aligner := { u.aligner with window := dueLowered u.aligner.window } }) hw
  rw [releasePoint_eq, hcount]
  exact ⟨hwindow, hlast, hlanes, hcounted, hcounts⟩

/-- A boundary at which the only record of the window is due releases it, whatever the order of the shares. -/
theorem serve_sole {m : Marks} {s : State} {r : EpochRec} (hm : m.release = true) (hr : s.engine.requests = [])
    (hw : s.aligner.window = [r]) (hd : r.due = some 1) : SoleReleased s r (serve m s) := by
  refine serve_once releaseReading .release hr (fun _ _ => rfl) (fun _ _ => runTask_releaseReading) (fun u _ hu => ?_)
    fun t u ht hu h => h.of_after (runTask_releaseReading ht hu)
  have haligner : u.aligner = s.aligner := by
    simp only [releaseReading, alignReading, Prod.mk.injEq] at hu
    exact hu.2.1.2
  have hrun : runTask m .release u = releasePoint u := if_pos hm
  rw [hrun]
  exact (releasePoint_sole (by rw [haligner, hw]) hd).of_before hu

/-! ### Records due in a slot that carries FILL (R70, R126) -/

theorem transmit_idle {s : State} (h : slotEntry s s.timer.slot = { kind := .idle, lend := false }) :
    transmit false s = fillSent s := by
  rw [transmit_plain, h]
  rfl

/-- The youngest record at due count 0 and every older one are released (R70 step 3). -/
theorem releaseCount_split {older younger : List EpochRec} {y : EpochRec} (hy : y.due = some 0)
    (hlater : ∀ r ∈ younger, r.due ≠ some 0) : releaseCount (older ++ y :: younger) = older.length + 1 := by
  induction older with
  | nil =>
    rw [List.nil_append, releaseCount, releaseCount_eq_zero.mpr hlater]
    exact if_pos hy
  | cons r older ih => rw [List.cons_append, releaseCount, ih, List.length_cons]

/-- The state of a mid-cycle boundary whose slot carries FILL, by the shares that are still to come. -/
def idleServed (l : List Config.Task) (s : State) : State :=
  if .transmit ∈ l then (if .release ∈ l then s else releasePoint s)
  else fillSent (if .release ∈ l then s else releasePoint s)

theorem runTasks_idle {m : Marks} {s : State} (o : Config.BoundaryOrder)
    (hm : m = { cycleStart := false, swap := false, tick := false, release := true }) (hr : s.engine.requests = [])
    (hidle : slotEntry s s.timer.slot = { kind := .idle, lend := false }) :
    runTasks m o.tasks s = fillSent (releasePoint s) := by
  have hidle' : slotEntry (releasePoint s) (releasePoint s).timer.slot = { kind := .idle, lend := false } := by
    unfold slotEntry at hidle ⊢
    simpa only [releasePoint_frame] using hidle
  subst hm
  have hstages := runTasks_stages (m := { cycleStart := false, swap := false, tick := false, release := true })
    (stage := fun l u => u = idleServed l s) (fun t l u ht hu h => ?_) o.tasks (boundaryOrder_nodup o) hr
    (by rw [idleServed, if_pos (mem_boundaryOrder o _), if_pos (mem_boundaryOrder o _)])
  · simpa [idleServed] using hstages
  · subst h
    cases t with
    | renew => simp [runTask, idleServed]
    | tick => simp [runTask, idleServed]
    | take =>
      rw [runTask, takeRequest_none hu]
      simp [idleServed]
    | release =>
      by_cases hx : .transmit ∈ l
      · simp [runTask, idleServed, hx, ht]
      · simp [runTask, idleServed, hx, ht, releasePoint_fillSent]
    | transmit =>
      by_cases hx : .release ∈ l
      · simp [runTask, idleServed, hx, ht, transmit_idle hidle]
      · simp [runTask, idleServed, hx, ht, transmit_idle hidle']

/-! ### A released cell that is discarded with a notice (R86, R91) -/

theorem giveBack_raise (e : Epoch) (k : NoticeKind) (x : Byte) (d : Octets) (s : State) :
    giveBack (.aligned e) (raise k x d s) = { raise k x d s with free := s.free + 1 } := by
  have hfree : (raise k x d s).free = s.free := by simp
  rw [giveBack_aligned, hfree]

theorem raise_flows (k : NoticeKind) (x : Byte) (d : Octets) (v : Vector (Option FlowEntry) 256) (s : State) :
    raise k x d { s with flows := v } = { raise k x d s with flows := v } := by
  unfold raise
  split <;> rfl

/-! ### The boundary -/

theorem nextMarks_midCycle {s : State} (h : midCycle s) (hr : s.timer.slot + 1 = s.aligner.releaseSlot) :
    nextMarks s = { cycleStart := false, swap := false, tick := false, release := true } := by
  obtain ⟨-, hslot, hb⟩ := h
  have h63 : ¬s.timer.slot = 63 := fun e => by rw [e] at hslot; omega
  simp [nextMarks, hb, h63, hr]

theorem timerMoved_midCycle {s : State} (h : midCycle s) :
    timerMoved s = { s with timer := { s.timer with slot := s.timer.slot + 1 } } := by
  obtain ⟨-, hslot, hb⟩ := h
  have h63 : ¬s.timer.slot = 63 := fun e => by rw [e] at hslot; omega
  simp [timerMoved, handedTimer, hb, h63]

/-- Settles O16: one record due by what a release moves; any records due in a slot that carries FILL, where the order is
the same; and a released cell by each step of the classification. -/
theorem releasePointReleasesDueEpoch : Obligations.ReleasePointReleasesDueEpoch := by
  refine ⟨fun s r hrun hb hreq hslot hw hd hin => ?sole, fun s hmid hreq hslot hentry lowered hlowered => ?fill,
    fun s e x hkeys => ⟨fun hno => ?unknown, fun i f hi hl hf => ⟨fun hdrain => ?draining, fun hactive hseq => ?stale,
      fun hactive hseq => ⟨fun hbudget => ?overBudget, fun hbudget hfull => ?full, fun hbudget hroom => ?admitted⟩⟩⟩⟩
  case sole =>
    have hrelease : (nextMarks s).release = true := decide_eq_true (.inr ⟨hb, hslot⟩)
    obtain ⟨hwindow, hlast, hlanes, hcounted, hcounts⟩ := serve_sole (s := timerMoved s) hrelease hreq hw hd
    refine ⟨_, exec_slotBoundary hrun, hwindow, hlast, fun l => ⟨fun hna => ?_, fun hclosed => ?_, fun hexp => ?_⟩, ?_, ?_⟩
    · have hl := hlanes l
      have hc := hcounted l
      rw [releasedLane_na hna] at hl
      rw [if_neg (by rw [hna]; nofun)] at hc
      exact ⟨hl, hc⟩
    · have hl := hlanes l
      have hc := hcounted l
      rw [releasedLane_closed hclosed] at hl
      rw [if_neg (by rw [hclosed]; nofun)] at hc
      rw [hl]
      exact ⟨rfl, rfl, rfl, hc⟩
    · have hl := hlanes l
      have hc := hcounted l
      obtain ⟨late, hmember⟩ := hin l hexp
      rw [releasedLane_expected hexp] at hl
      rw [if_pos hexp] at hc
      rw [hl, hc]
      refine ⟨rfl, rfl, rfl, ?_⟩
      have hlate : s.lanes[l].member.lateFor r.epoch = .isIn r.epoch true := hmember ▸ lateFor_current r.epoch late
      split
      · next hlimit => exact ⟨if_pos hlimit, if_pos hlimit⟩
      · next hlimit => exact ⟨(if_neg hlimit).trans hlate, if_neg hlimit⟩
    · exact (congrArg (fun n : Count × Count × Count × Count => n.2.2.2) hcounts).trans (releaseCounted_forced r _)
    · simp only [releaseCounts, Prod.mk.injEq] at hcounts
      obtain ⟨hfull, hpartial, hempty, -⟩ := hcounts
      rw [hfull, hpartial, hempty]
      unfold releaseCounted
      split
      · exact ⟨rfl, rfl, rfl⟩
      · split <;> exact ⟨rfl, rfl, rfl⟩
  case fill =>
    have hmoved := timerMoved_midCycle hmid
    have hidle : slotEntry (timerMoved s) (timerMoved s).timer.slot = { kind := .idle, lend := false } := by
      rw [hmoved]
      exact hentry
    have hlow : lowered = { timerMoved s with
        aligner := { s.aligner with window := dueLowered s.aligner.window } } := by
      rw [hmoved]
      exact hlowered
    have hall (o : Config.BoundaryOrder) (n : Nat) :
        runTasks (nextMarks s) o.tasks { timerMoved s with orderDraws := n } =
          fillSent (releasedTimes (releaseCount lowered.aligner.window) { lowered with orderDraws := n }) := by
      rw [runTasks_idle o (nextMarks_midCycle hmid hslot) (by exact hreq) (by exact hidle), releasePoint_eq, hlow]
      rfl
    rw [exec_slotBoundary hmid.1]
    refine ⟨fun hnone => congrArg Host.Outcome.next ?_, fun older y younger hw hy hlater => congrArg Host.Outcome.next ?_⟩
    · have hzero : releaseCount lowered.aligner.window = 0 := releaseCount_eq_zero.mpr hnone
      have hquiet : contested (nextMarks s) (timerMoved s) = false :=
        contested_eq_false hreq (fun _ => by rw [← hzero, hlow]; rfl) fun ht => by
          rw [nextMarks_midCycle hmid hslot] at ht
          exact absurd ht Bool.false_ne_true
      have hplain := hall Config.plainOrder s.orderDraws
      rw [hzero] at hplain
      rw [serve, hquiet]
      exact hplain.trans (by rw [hlow]; rfl)
    · have hsome : releaseCount lowered.aligner.window = older.length + 1 := by rw [hw]; exact releaseCount_split hy hlater
      have hcontested : contested (nextMarks s) (timerMoved s) = true := by
        have hcount : releaseCount (lowerDue (timerMoved s).aligner.window) = older.length + 1 := by
          rw [← hsome, hlow]
          rfl
        unfold contested
        rw [nextMarks_midCycle hmid hslot, hcount]
        rfl
      rw [serve, hcontested, ← hsome]
      exact hall _ _
  case unknown =>
    rw [classify_unknown hno, giveBack_raise]
    rfl
  case draining => rw [classify_hit hkeys hi hl hf, classifyHit_draining hdrain, giveBack_aligned]; rfl
  case stale => rw [classify_hit hkeys hi hl hf, classifyHit_stale hactive hseq, giveBack_aligned]; rfl
  all_goals rw [classify_hit hkeys hi hl hf, classifyHit_passes hi hactive hseq]
  case overBudget =>
    rw [if_pos ((overBudget_iff f).mpr hbudget), giveBack_aligned]
    simp only [flowCounted, sequenceChecked, upd_upd]
  all_goals rw [if_neg ((overBudget_iff f).not_left.mpr hbudget)]
  case full =>
    have hcounters : countGroup f.group (fun k => { k with overflows := bump k.overflows })
        (flowCounted i (fun k => { k with overflow := bump k.overflow }) (sequenceChecked i f x.seq s)) =
        { s with
          counters := { s.counters with
            flows := upd s.counters.flows i fun k =>
              { k with seqGap := plus k.seqGap (gapShown f x.seq), overflow := bump k.overflow }
            groups := upd s.counters.groups f.group fun k => { k with overflows := bump k.overflows } }
          flows := upd s.flows i fun _ => some { f with expected := expectedAfter f x.seq } } := by
      simp only [countGroup, flowCounted, sequenceChecked, upd_upd]
    rw [groupAdmission_full (by exact hfull), giveBack_raise, hcounters]
    exact congrArg (fun t : State => { t with free := s.free + 1 }) (raise_flows .groupOverflow (BitVec.ofNat 8 f.group.val)
      (BitVec.ofNat 8 i.val :: o16 s.groups[f.group].limit)
      (upd s.flows i fun _ => some { f with expected := expectedAfter f x.seq })
      { s with counters := { s.counters with
          flows := upd s.counters.flows i fun k =>
            { k with seqGap := plus k.seqGap (gapShown f x.seq), overflow := bump k.overflow }
          groups := upd s.counters.groups f.group fun k => { k with overflows := bump k.overflows } } })
  case admitted =>
    rw [groupAdmission_aligned (by exact hroom)]
    exact enqueue_sequenceChecked _ _ _

end Sys2Proof.Machine
end

section
/-! PROOF. One lane against the window: what its membership and its cells say of its statuses (R59 to R68), and what each
event leaves of that. -/

-- Checked one after another, as the tests are: the theorems of a section all at once take a thread each.
set_option Elab.async false

namespace Sys2Proof.Machine

/-! ### Epoch numbers near one another -/

theorem epochAfter_iff (a b : Epoch) : epochAfter a b = true ↔ 1 ≤ (a - b).toNat ∧ (a - b).toNat ≤ 32767 := by
  unfold epochAfter
  rw [Bool.and_eq_true, decide_eq_true_eq, decide_eq_true_eq]

theorem epochAfter_asymm {a b : Epoch} (h : epochAfter a b = true) : ¬epochAfter b a = true := by
  rw [epochAfter_iff] at h ⊢
  bv_omega

theorem epochAfter_ne {a b : Epoch} (h : epochAfter a b = true) : a ≠ b := fun he => by
  subst he
  exact epochAfter_irrefl a h

/-- Two epochs of one window. -/
def near (a b : Epoch) : Prop := (a - b).toNat ≤ 8 ∨ (b - a).toNat ≤ 8

/-- What is at an epoch or after it, but not at it, is at its successor or after that. -/
theorem from_successor {a c : Epoch} (h : near a c) (hne : a ≠ c) :
    (a = c ∨ epochAfter a c = true) ↔ (a = c + 1 ∨ epochAfter a (c + 1) = true) := by
  unfold near at h
  rw [epochAfter_iff, epochAfter_iff]
  have hne' : (a - c).toNat ≠ 0 := fun h0 => hne (by bv_omega)
  constructor <;> intro h' <;> bv_omega

theorem not_from_successor (c : Epoch) : ¬(c = c + 1 ∨ epochAfter c (c + 1) = true) := by
  rw [epochAfter_iff]
  bv_omega

/-! ### A lane's column of the window -/

/-- The epochs of the records with a lane's statuses in them, oldest first. -/
abbrev Column := List (Epoch × LaneStatus)

def column (w : List EpochRec) (l : Lane) : Column := w.map fun r => (r.epoch, r.status[l])

/-- What a membership says of the lane's statuses, with the late count (R59 to R68, R72, R76). -/
def memberFits (k : Column) (released : Option Epoch) (lateCount : Nat) : Membership → Prop
  | .waiting => ∀ r ∈ k, r.2 = .na
  | .lagging => ∀ r ∈ k, r.2 = .na
  | .joining => ∀ r ∈ k, r.2 ≠ .expected
  | .isIn c false => (∃ r ∈ k, r.1 = c) ∧ ∀ r ∈ k, r.2 = .expected ↔ r.1 = c ∨ epochAfter r.1 c = true
  | .isIn c true => (∃ y, released = some y ∧ (y - c).toNat < lateCount) ∧ ∀ r ∈ k, r.2 = .expected

/-- Sixth law (R67) for one lane. -/
def queueFits (k : Column) (m : Membership) (q : List LaneRec) : Prop :=
  (∀ x ∈ q, ∃ r ∈ k, r.1 = x.epoch ∧ (r.2 = .closed ∨ m = .isIn x.epoch false)) ∧
  q.Pairwise fun a b => a.epoch = b.epoch ∨ epochAfter b.epoch a.epoch = true

/-- The laws of one lane together; `ok` says that its port is UP and its mode aligned. -/
structure LaneFits (k : Column) (released : Option Epoch) (ok : Prop) (x : LaneState) : Prop where
  member : memberFits k released x.lateCount x.member
  queue : queueFits k x.member x.queue
  qualified : x.member ≠ .waiting → ok
  count : x.lateCount ≤ 7

section
variable {k : Column} {q : List LaneRec} {m : Membership}

/-- A lane that is CLOSED nowhere and has no current epoch, or is late, holds no cells. -/
theorem queueFits_nil (h : queueFits k m q) (hclosed : ∀ r ∈ k, r.2 ≠ .closed) (hm : ∀ c, m ≠ .isIn c false) : q = [] := by
  refine List.eq_nil_iff_forall_not_mem.mpr fun x hx => ?_
  obtain ⟨r, hr, -, hc | hc⟩ := h.1 x hx
  · exact hclosed r hr hc
  · exact hm _ hc

theorem queueFits_empty (k : Column) (m : Membership) : queueFits k m [] := ⟨fun _ hx => absurd hx List.not_mem_nil, .nil⟩

end

/-! ### A release (R71, R72) -/

section
variable {r : EpochRec} {l : Lane} {k : Column} {released : Option Epoch} {ok : Prop} {x : LaneState}

/-- The younger records of a lane that a release ejects or not. -/
def ejectedColumn (ejected : Prop) [Decidable ejected] (k : Column) : Column :=
  k.map fun q => (q.1, if ejected then .na else q.2)

theorem ejectedColumn_not {ejected : Prop} [Decidable ejected] (h : ¬ejected) : ejectedColumn ejected k = k := by
  simp [ejectedColumn, h]

/-- A release leaves the cells of other epochs with their records. -/
theorem queueFits_released {e : Epoch} {st : LaneStatus} {m : Membership} {q : List LaneRec}
    (h : queueFits ((e, st) :: k) m q) : queueFits k m (q.filter fun y => !(y.epoch == e)) := by
  refine ⟨fun y hy => ?_, h.2.filter _⟩
  obtain ⟨hy, hne⟩ := List.mem_filter.mp hy
  obtain ⟨z, hz, he, hst⟩ := h.1 y hy
  rcases List.mem_cons.mp hz with rfl | hz
  · simp [← he] at hne
  · exact ⟨z, hz, he, hst⟩

/-- A lane that is not EXPECTED in the oldest record keeps its membership when that is released. -/
theorem memberFits_released {e : Epoch} {st : LaneStatus} {m : Membership} {n n' : Nat} {released' : Option Epoch}
    (h : memberFits ((e, st) :: k) released n m) (hst : st ≠ .expected) : memberFits k released' n' m := by
  cases m with
  | waiting => exact fun q hq => h q (List.mem_cons_of_mem _ hq)
  | lagging => exact fun q hq => h q (List.mem_cons_of_mem _ hq)
  | joining => exact fun q hq => h q (List.mem_cons_of_mem _ hq)
  | isIn c late =>
    cases late with
    | true => exact absurd (h.2 (e, st) (List.mem_cons_self ..)) hst
    | false =>
      obtain ⟨⟨z, hz, hc⟩, hexp⟩ := h
      have hne : ¬(e = c ∨ epochAfter e c = true) := (hexp (e, st) (List.mem_cons_self ..)).not.mp hst
      refine ⟨⟨z, ?_, hc⟩, fun q hq => hexp q (List.mem_cons_of_mem _ hq)⟩
      rcases List.mem_cons.mp hz with rfl | hz
      · exact absurd (.inl hc) hne
      · exact hz

/-- A lane that is EXPECTED in the oldest record is IN: at that record's epoch, or late, and EXPECTED in every younger
one. -/
theorem memberFits_expected {e : Epoch} {m : Membership} {n : Nat} (h : memberFits ((e, .expected) :: k) released n m)
    (hafter : ∀ q ∈ k, epochAfter q.1 e = true) :
    ∃ c late, m = .isIn c late ∧ (late = false → c = e) ∧ (late = true → ∃ y, released = some y ∧ (y - c).toNat < n) ∧
      ∀ q ∈ k, q.2 = .expected := by
  cases m with
  | waiting => cases h _ (List.mem_cons_self ..)
  | lagging => cases h _ (List.mem_cons_self ..)
  | joining => exact absurd rfl (h _ (List.mem_cons_self ..))
  | isIn c late =>
    cases late with
    | true =>
      obtain ⟨hlate, hexp⟩ := h
      exact ⟨c, true, rfl, nofun, fun _ => hlate, fun q hq => hexp q (List.mem_cons_of_mem _ hq)⟩
    | false =>
      obtain ⟨⟨z, hz, hc⟩, hexp⟩ := h
      have hce : c = e := by
        rcases List.mem_cons.mp hz with rfl | hz
        · exact hc.symm
        · have hce := hafter z hz
          rw [hc] at hce
          rcases (hexp (e, .expected) (List.mem_cons_self ..)).mp rfl with h | h
          · exact h.symm
          · exact absurd h (epochAfter_asymm hce)
      subst hce
      exact ⟨c, false, rfl, fun _ => rfl, nofun, fun q hq => (hexp q (List.mem_cons_of_mem _ hq)).mpr (.inr (hafter q hq))⟩

/-- Each lane fits the window that a release leaves. -/
theorem LaneFits.release {prof : Profile} {limit : Nat} (h : LaneFits ((r.epoch, r.status[l]) :: k) released ok x)
    (hlimit : limit ≤ 7) (hafter : ∀ q ∈ k, epochAfter q.1 r.epoch = true)
    (hreleased : ∀ y, released = some y → r.epoch = y + 1) :
    LaneFits (ejectedColumn (r.status[l] = .expected ∧ limit ≤ min (x.lateCount + 1) 7) k) (some r.epoch) ok
      (releasedLane prof limit r l x) := by
  obtain ⟨hm, hq, hok, hn⟩ := h
  cases hst : r.status[l] with
  | na =>
    rw [hst] at hm hq
    rw [releasedLane_na hst, ejectedColumn_not (by simp)]
    refine ⟨memberFits_released hm (by decide), ?_, hok, hn⟩
    refine ⟨fun y hy => ?_, hq.2⟩
    obtain ⟨z, hz, he, hc⟩ := hq.1 y hy
    rcases List.mem_cons.mp hz with rfl | hz
    · rcases hc with hc | hc
      · cases hc
      · rw [hc] at hm
        have hexp := (hm.2 _ (List.mem_cons_self ..)).mpr (.inl he)
        cases hexp
    · exact ⟨z, hz, he, hc⟩
  | closed =>
    rw [hst] at hm hq
    rw [releasedLane_closed hst, ejectedColumn_not (by simp)]
    exact ⟨memberFits_released hm (by decide), queueFits_released hq, hok, Nat.zero_le _⟩
  | expected =>
    rw [hst] at hm hq
    obtain ⟨c, late, hmem, hcur, hlate, hall⟩ := memberFits_expected hm hafter
    have hout := queueFits_released hq
    have hnil : (x.queue.filter fun y => !(y.epoch == r.epoch)) = [] := by
      refine List.eq_nil_iff_forall_not_mem.mpr fun y hy => ?_
      obtain ⟨z, hz, he, hc⟩ := hout.1 y hy
      rcases hc with hc | hc
      · rw [hall z hz] at hc
        cases hc
      · rw [hmem] at hc
        obtain ⟨hce, hl⟩ := Membership.isIn.inj hc
        have hye : y.epoch = r.epoch := hce.symm.trans (hcur hl)
        have hne := (List.mem_filter.mp hy).2
        simp [hye] at hne
    rw [releasedLane_expected hst]
    unfold lateLane
    rw [hnil]
    by_cases hej : limit ≤ min (x.lateCount + 1) 7
    · refine ⟨?_, queueFits_empty _ _, fun _ => hok (by rw [hmem]; nofun), Nat.min_le_right _ _⟩
      dsimp only
      rw [if_pos hej]
      intro q hq
      obtain ⟨z, -, rfl⟩ := List.mem_map.mp hq
      exact if_pos ⟨rfl, hej⟩
    · rw [ejectedColumn_not fun h => hej h.2]
      have hcount : min (x.lateCount + 1) 7 = x.lateCount + 1 := by omega
      have hl : (Membership.isIn c late).lateFor r.epoch = .isIn c true := by
        cases late with
        | true => rfl
        | false => rw [hcur rfl]; exact lateFor_current _ _
      refine ⟨?_, queueFits_empty _ _, fun _ => hok (by rw [hmem]; nofun), Nat.min_le_right _ _⟩
      dsimp only
      rw [if_neg hej, hmem, hl, hcount]
      refine ⟨⟨r.epoch, rfl, ?_⟩, hall⟩
      cases late with
      | false => rw [hcur rfl]; simp
      | true =>
        obtain ⟨y, hy, hlt⟩ := hlate rfl
        rw [hreleased y hy]
        bv_omega

end

end Sys2Proof.Machine
end

section
/-! PROOF. One lane against the window, event by event: new records, a close, a late lane's move, a slip, a join, a cell. -/

-- Checked one after another, as the tests are: the theorems of a section all at once take a thread each.
set_option Elab.async false

namespace Sys2Proof.Machine

section
variable {k more : Column} {released : Option Epoch} {ok : Prop} {x : LaneState} {c : Epoch}

theorem queueFits_append (m : Membership) {q : List LaneRec} (h : queueFits k m q) : queueFits (k ++ more) m q :=
  ⟨fun y hy => by
    obtain ⟨z, hz, he⟩ := h.1 y hy
    exact ⟨z, List.mem_append_left _ hz, he⟩, h.2⟩

/-- New records are EXPECTED for an IN lane and NA for any other (R57). -/
theorem LaneFits.extend (h : LaneFits k released ok x) (hafter : ∀ r ∈ more, ∀ q ∈ k, epochAfter r.1 q.1 = true)
    (hmore : ∀ r ∈ more, r.2 = if x.member.inSet then .expected else .na) : LaneFits (k ++ more) released ok x := by
  obtain ⟨hm, hq, hok, hn⟩ := h
  refine ⟨?_, queueFits_append _ hq, hok, hn⟩
  cases hmem : x.member with
  | waiting =>
    rw [hmem] at hm hmore
    exact fun r hr => (List.mem_append.mp hr).elim (hm r) (hmore r)
  | lagging =>
    rw [hmem] at hm hmore
    exact fun r hr => (List.mem_append.mp hr).elim (hm r) (hmore r)
  | joining =>
    rw [hmem] at hm hmore
    exact fun r hr => (List.mem_append.mp hr).elim (hm r) fun hr => by rw [hmore r hr]; nofun
  | isIn c late =>
    rw [hmem] at hm hmore
    cases late with
    | true => exact ⟨hm.1, fun r hr => (List.mem_append.mp hr).elim (hm.2 r) (hmore r)⟩
    | false =>
      obtain ⟨⟨z, hz, hc⟩, hexp⟩ := hm
      refine ⟨⟨z, List.mem_append_left _ hz, hc⟩, fun r hr => ?_⟩
      rcases List.mem_append.mp hr with hr | hr
      · exact hexp r hr
      · exact iff_of_true (hmore r hr) (.inr (hc ▸ hafter r hr z hz))

/-! ### A close (R64, R65) -/

def closedColumn (c : Epoch) (k : Column) : Column := k.map fun r => if r.1 = c then (r.1, .closed) else r

/-- A lane that is not late closes its epoch and goes to the successor, of which there is a record. -/
theorem LaneFits.close (h : LaneFits k released ok x) (hm : x.member = .isIn c false) (hnear : ∀ r ∈ k, near r.1 c)
    (hin : ∃ r ∈ k, r.1 = c + 1) : LaneFits (closedColumn c k) released ok { x with member := .isIn (c + 1) false } := by
  obtain ⟨hmem, hq, hok, hn⟩ := h
  rw [hm] at hmem hq
  obtain ⟨-, hexp⟩ := hmem
  have hne : c + 1 ≠ c := fun he => not_from_successor c (.inl he.symm)
  refine ⟨⟨?_, fun r hr => ?_⟩, ⟨fun y hy => ?_, hq.2⟩, fun _ => hok (by rw [hm]; nofun), hn⟩
  · obtain ⟨r, hr, he⟩ := hin
    exact ⟨_, List.mem_map_of_mem hr, by rw [if_neg (he ▸ hne), he]⟩
  · obtain ⟨z, hz, rfl⟩ := List.mem_map.mp hr
    by_cases he : z.1 = c
    · simp only [if_pos he]
      exact iff_of_false nofun (he ▸ not_from_successor c)
    · simp only [if_neg he]
      exact (hexp z hz).trans (from_successor (hnear z hz) he)
  · obtain ⟨z, hz, he, hc⟩ := hq.1 y hy
    refine ⟨_, List.mem_map_of_mem hz, ?_⟩
    by_cases hzc : z.1 = c
    · rw [if_pos hzc]
      exact ⟨he, .inl rfl⟩
    · simp only [if_neg hzc]
      refine ⟨he, hc.imp id fun hcur => absurd ?_ hzc⟩
      exact he.trans (Membership.isIn.inj hcur).1.symm

/-! ### A late lane (R65) -/

/-- A late lane is late for the last released epoch, or moves behind it. -/
theorem LaneFits.late_moves {y : Epoch} (h : LaneFits k (some y) ok x) (hm : x.member = .isIn c true)
    (hbefore : epochAfter (c + 1) y = false) : LaneFits k (some y) ok { x with member := .isIn (c + 1) true } := by
  obtain ⟨hmem, hq, hok, hn⟩ := h
  rw [hm] at hmem hq
  obtain ⟨⟨z, hz, hlt⟩, hexp⟩ := hmem
  obtain rfl := Option.some.inj hz
  have hnot : ¬(1 ≤ (c + 1 - y).toNat ∧ (c + 1 - y).toNat ≤ 32767) := by
    rw [← epochAfter_iff, hbefore]
    exact Bool.false_ne_true
  refine ⟨⟨⟨y, rfl, ?_⟩, hexp⟩, ⟨fun q hq' => ?_, hq.2⟩, fun _ => hok (by rw [hm]; nofun), hn⟩
  · show (y - (c + 1)).toNat < x.lateCount
    bv_omega
  · obtain ⟨z, hz, he, hc⟩ := hq.1 q hq'
    exact ⟨z, hz, he, hc.imp id nofun⟩

theorem LaneFits.late_current {y : Epoch} (h : LaneFits k (some y) ok x) (hm : x.member = .isIn c true)
    (hafter : epochAfter (c + 1) y = true) : c = y := by
  have hmem := h.member
  have hn := h.count
  rw [hm] at hmem
  obtain ⟨⟨z, hz, hlt⟩, -⟩ := hmem
  obtain rfl := Option.some.inj hz
  rw [epochAfter_iff] at hafter
  bv_omega

/-- A late lane that has caught up goes on from the oldest record. -/
theorem LaneFits.late_returns {y : Epoch} (h : LaneFits k (some y) ok x) (hm : x.member = .isIn c true)
    (hafter : epochAfter (c + 1) y = true) (hk : ∀ r ∈ k, r.1 = y + 1 ∨ epochAfter r.1 (y + 1) = true)
    (hin : ∃ r ∈ k, r.1 = c + 1) : LaneFits k (some y) ok { x with member := .isIn (c + 1) false } := by
  obtain rfl := h.late_current hm hafter
  obtain ⟨hmem, hq, hok, hn⟩ := h
  rw [hm] at hmem hq
  obtain ⟨-, hexp⟩ := hmem
  have hnil := queueFits_nil hq (fun r hr => by rw [hexp r hr]; nofun) nofun
  refine ⟨⟨hin, fun r hr => iff_of_true (hexp r hr) (hk r hr)⟩, ?_, fun _ => hok (by rw [hm]; nofun), hn⟩
  dsimp only
  rw [hnil]
  exact queueFits_empty _ _

/-! ### A slip (R66) -/

def slippedColumn (c : Epoch) (k : Column) : Column :=
  k.map fun r => if r.1 = c ∨ (epochAfter r.1 c = true ∧ r.2 = .expected) then (r.1, .na) else r

theorem LaneFits.slip {late : Bool} (h : LaneFits k released ok x) (hm : x.member = .isIn c late)
    (hlate : late = true → ∀ r ∈ k, epochAfter r.1 c = true) (high : Bool) :
    LaneFits (slippedColumn c k) released ok
      { queue := x.queue.filter fun q => !(q.epoch == c), high := high, member := .joining, lateCount := x.lateCount } := by
  obtain ⟨hmem, hq, hok, hn⟩ := h
  rw [hm] at hmem hq
  have hexp : ∀ r ∈ k, r.2 = .expected → r.1 = c ∨ epochAfter r.1 c = true := fun r hr he => by
    cases late with
    | true => exact .inr (hlate rfl r hr)
    | false => exact (hmem.2 r hr).mp he
  refine ⟨fun r hr => ?_, ⟨fun y hy => ?_, hq.2.filter _⟩, fun _ => hok (by rw [hm]; nofun), hn⟩
  · obtain ⟨z, hz, rfl⟩ := List.mem_map.mp hr
    split
    · nofun
    · next hno => exact fun he => hno ((hexp z hz he).imp id fun ha => ⟨ha, he⟩)
  · obtain ⟨hy, hne⟩ := List.mem_filter.mp hy
    have hne' : y.epoch ≠ c := by simpa using hne
    obtain ⟨z, hz, he, hc⟩ := hq.1 y hy
    have hclosed : z.2 = .closed := hc.resolve_right fun hcur => hne' (Membership.isIn.inj hcur).1.symm
    refine ⟨_, List.mem_map_of_mem hz, ?_⟩
    rw [if_neg (by rw [he, hclosed]; exact fun h => h.elim hne' fun h => nomatch h.2)]
    exact ⟨he, .inl hclosed⟩

/-! ### A join (R62) -/

def joinedColumn (c : Epoch) (k : Column) : Column :=
  k.map fun r =>
    if r.1 = c ∨ epochAfter r.1 c = true then (r.1, .expected) else if r.2 = .closed then r else (r.1, .na)

theorem LaneFits.join (h : LaneFits k released ok x) (hm : x.member = .joining) (hin : ∃ r ∈ k, r.1 = c)
    (hclosed : ∀ r ∈ k, r.2 = .closed → epochAfter c r.1 = true) :
    LaneFits (joinedColumn c k) released ok { x with member := .isIn c false } := by
  obtain ⟨-, hq, hok, hn⟩ := h
  rw [hm] at hq
  refine ⟨⟨?_, fun r hr => ?_⟩, ⟨fun y hy => ?_, hq.2⟩, fun _ => hok (by rw [hm]; nofun), hn⟩
  · obtain ⟨r, hr, he⟩ := hin
    exact ⟨_, List.mem_map_of_mem hr, by rw [if_pos (.inl he), he]⟩
  · obtain ⟨z, hz, rfl⟩ := List.mem_map.mp hr
    by_cases hfrom : z.1 = c ∨ epochAfter z.1 c = true
    · simp only [if_pos hfrom]
      exact iff_of_true trivial hfrom
    · simp only [if_neg hfrom]
      split
      · next hc => exact iff_of_false (by rw [hc]; nofun) hfrom
      · exact iff_of_false nofun hfrom
  · obtain ⟨z, hz, he, hc⟩ := hq.1 y hy
    have hc : z.2 = .closed := hc.resolve_right nofun
    have hafter := hclosed z hz hc
    refine ⟨_, List.mem_map_of_mem hz, ?_⟩
    rw [if_neg fun h => h.elim (fun h => epochAfter_ne hafter h.symm) (epochAfter_asymm hafter), if_pos hc]
    exact ⟨he, .inl hc⟩

/-! ### A cell, and a lane that leaves, enters or is let back (R60, R67, R75, R76) -/

/-- A cell of the lane's current epoch stands behind those that the lane holds (R67). -/
theorem LaneFits.append (h : LaneFits k released ok x) (hm : x.member = .isIn c false) (hnear : ∀ r ∈ k, near r.1 c)
    (high : Bool) (d : DataCell) :
    LaneFits k released ok { x with queue := x.queue ++ [{ epoch := c, cell := d }], high := high } := by
  obtain ⟨hmem, hq, hok, hn⟩ := h
  have hmem' := hmem
  rw [hm] at hmem'
  obtain ⟨⟨z, hz, hzc⟩, hexp⟩ := hmem'
  refine ⟨hmem, ⟨fun y hy => ?_, List.pairwise_append.mpr ⟨hq.2, List.pairwise_singleton _ _, fun y hy w hw => ?_⟩⟩, hok, hn⟩
  · rcases List.mem_append.mp hy with hy | hy
    · exact hq.1 y hy
    · rw [List.mem_singleton.mp hy]
      exact ⟨z, hz, hzc, .inr hm⟩
  · rw [List.mem_singleton.mp hw]
    by_cases he : y.epoch = c
    · exact .inl he
    · refine .inr ?_
      obtain ⟨v, hv, hve, hc⟩ := hq.1 y hy
      have hc : v.2 = .closed := hc.resolve_right fun hcur => he (Membership.isIn.inj (hm.symm.trans hcur)).1.symm
      have hbefore : ¬(v.1 = c ∨ epochAfter v.1 c = true) := (hexp v hv).not.mp (by rw [hc]; nofun)
      rw [hve] at hbefore
      have hn' := hnear v hv
      rw [hve] at hn'
      unfold near at hn'
      have hno : ¬epochAfter y.epoch c = true := fun h => hbefore (.inr h)
      rw [epochAfter_iff] at hno
      have hne : (y.epoch - c).toNat ≠ 0 := fun h0 => he (by bv_omega)
      show epochAfter c y.epoch = true
      rw [epochAfter_iff]
      bv_omega

theorem LaneFits.mono {ok' : Prop} {high : Bool} (h : LaneFits k released ok x) (hok : x.member ≠ .waiting → ok → ok') :
    LaneFits k released ok' { x with high := high } := ⟨h.member, h.queue, fun hne => hok hne (h.qualified hne), h.count⟩

/-- A lane that has left UP fits any window in which it is NA. -/
theorem LaneFits.left (hna : ∀ r ∈ k, r.2 = .na) (high : Bool) :
    LaneFits k released ok { queue := [], high := high, member := .waiting, lateCount := 0 } :=
  ⟨hna, queueFits_empty _ _, fun h => absurd rfl h, Nat.zero_le _⟩

theorem LaneFits.no_cells (h : LaneFits k released ok x) (hm : x.member = .waiting ∨ x.member = .lagging) : x.queue = [] := by
  have hmem := h.member
  rcases hm with hm | hm
  · rw [hm] at hmem
    exact queueFits_nil h.queue (fun r hr => by rw [hmem r hr]; nofun) (by rw [hm]; nofun)
  · rw [hm] at hmem
    exact queueFits_nil h.queue (fun r hr => by rw [hmem r hr]; nofun) (by rw [hm]; nofun)

/-- A WAITING or LAGGING lane that becomes JOINING. -/
theorem LaneFits.join_begins {ok' : Prop} {n : Nat} (h : LaneFits k released ok x)
    (hm : x.member = .waiting ∨ x.member = .lagging) (hok : ok') (hn : n ≤ 7) :
    LaneFits k released ok' { x with member := .joining, lateCount := n } := by
  have hmem := h.member
  refine ⟨fun r hr => ?_, ?_, fun _ => hok, hn⟩
  · rcases hm with hm | hm <;> rw [hm] at hmem <;> rw [hmem r hr] <;> nofun
  · dsimp only
    rw [h.no_cells hm]
    exact queueFits_empty _ _

end

end Sys2Proof.Machine
end

section
/-! PROOF. The aligner's records and lanes together: the law of R56 to R68 but for an EMPTY set's reset, and its changes of
one lane or by new records. -/

-- Checked one after another, as the tests are: the theorems of a section all at once take a thread each.
set_option Elab.async false

namespace Sys2Proof.Machine

/-- The laws of the Epoch Aligner but for the set reset test (R74), with at most `n` records in the window; `ok` says of a
lane that its port is UP and its mode aligned. -/
structure AlignFits (n : Nat) (ok : Lane → Prop) (a : Aligner) (v : Vector LaneState 6) : Prop where
  length : a.window.length ≤ n
  ordered : consecutive a.window
  empty : a.running = false → a.window = [] ∧ a.lastReleased = none ∧ ∀ l : Lane, v[l].member.inSet = false
  begun : a.running = true → a.window = [] → a.lastReleased ≠ none
  first : ∀ y, a.lastReleased = some y → ∀ r, a.window.head? = some r → r.epoch = y + 1
  limit : 1 ≤ a.lateLimit ∧ a.lateLimit ≤ 7
  skew : a.skew ≤ 7
  lane : ∀ l : Lane, LaneFits (column a.window l) a.lastReleased (ok l) v[l]

/-- A lane's port is UP and its mode aligned. -/
def laneOk (s : State) (l : Lane) : Prop := s.ports[l.port].rx.st = .up ∧ s.ports[l.port].profile.mode = .aligned

/-- A RUNNING set has a record or a member (R74). -/
def setHeld (a : Aligner) (v : Vector LaneState 6) : Prop :=
  a.running = true → a.window ≠ [] ∨ ∃ l : Lane, v[l].member.inSet = true

theorem memberSound_iff (s : State) (l : Lane) :
    memberSound s l ↔
      memberFits (column s.aligner.window l) s.aligner.lastReleased s.lanes[l].lateCount s.lanes[l].member := by
  unfold memberSound
  cases s.lanes[l].member with
  | waiting => simp [memberFits, column]
  | lagging => simp [memberFits, column]
  | joining => simp [memberFits, column]
  | isIn c late => cases late <;> simp [memberFits, column]

theorem laneQueueOrdered_iff (s : State) (l : Lane) :
    laneQueueOrdered s l ↔ queueFits (column s.aligner.window l) s.lanes[l].member s.lanes[l].queue := by
  simp [laneQueueOrdered, queueFits, column]

theorem sound_iff (s : State) :
    alignerSound s ↔ AlignFits 4 (laneOk s) s.aligner s.lanes ∧ setHeld s.aligner s.lanes := by
  unfold alignerSound windowOrdered setSound memberQualified
  simp only [memberSound_iff, laneQueueOrdered_iff]
  constructor
  · rintro ⟨⟨hlen, hord⟩, ⟨hempty, hrun, hfirst⟩, hlow, hhigh, hskew, hlane⟩
    refine ⟨⟨hlen, hord, hempty, fun h => (hrun h).2, hfirst, ⟨hlow, hhigh⟩, hskew, fun l => ?_⟩, fun h => (hrun h).1⟩
    obtain ⟨hm, hq, hok, hn⟩ := hlane l
    exact ⟨hm, hq, hok, hn⟩
  · rintro ⟨h, hheld⟩
    exact ⟨⟨h.length, h.ordered⟩, ⟨h.empty, fun hrun => ⟨hheld hrun, h.begun hrun⟩, h.first⟩, h.limit.1, h.limit.2, h.skew,
      fun l => ⟨(h.lane l).member, (h.lane l).queue, (h.lane l).qualified, (h.lane l).count⟩⟩

/-- The law is kept where the aligner, the lanes and the ports are. -/
theorem sound_of_frame {s t : State} (h : alignerSound s)
    (f : t.aligner = s.aligner ∧ t.lanes = s.lanes ∧ t.ports = s.ports) : alignerSound t := by
  obtain ⟨ha, hl, hp⟩ := f
  rw [sound_iff] at h ⊢
  unfold laneOk at h ⊢
  rw [ha, hl, hp]
  exact h

section
variable {n : Nat} {ok ok' : Lane → Prop} {a : Aligner} {v : Vector LaneState 6}

theorem AlignFits.mono (h : AlignFits n ok a v) (hok : ∀ l : Lane, v[l].member ≠ .waiting → ok l → ok' l) :
    AlignFits n ok' a v :=
  { h with lane := fun l => (h.lane l).mono (hok l) }

/-! ### The set reset test (R74) -/

/-- A lane that is not IN fits any last released epoch. -/
theorem LaneFits.out {k : Column} {released released' : Option Epoch} {p : Prop} {x : LaneState}
    (h : LaneFits k released p x) (hin : x.member.inSet = false) : LaneFits k released' p x := by
  have hm := h.member
  refine { h with member := ?_ }
  cases hmem : x.member with
  | waiting =>
    rw [hmem] at hm
    exact hm
  | lagging =>
    rw [hmem] at hm
    exact hm
  | joining =>
    rw [hmem] at hm
    exact hm
  | isIn c late => exact absurd (hmem ▸ hin) (by simp [Membership.inSet])

theorem sound_of_reset {s : State} (h : AlignFits 4 (laneOk s) s.aligner s.lanes) : alignerSound (setResetTest s) := by
  rw [setResetTest_eq]
  split
  · next hreset =>
    obtain ⟨hw, hin⟩ := hreset
    refine (sound_iff _).mpr ⟨⟨h.length, h.ordered, fun _ => ⟨hw, rfl, hin⟩, nofun, nofun, h.limit, h.skew, fun l => ?_⟩, nofun⟩
    exact (h.lane l).out (hin l)
  · next hkept =>
    refine (sound_iff s).mpr ⟨h, fun _ => ?_⟩
    by_contra hno
    obtain ⟨hw, hin⟩ := not_or.mp hno
    exact hkept ⟨not_not.mp hw, fun l => Bool.eq_false_of_not_eq_true fun hl => hin ⟨l, hl⟩⟩

/-! ### Order of the window -/

theorem recordsFrom_head {r : EpochRec} {w : List EpochRec} (h : consecutive w) (hr : w.head? = some r) : recordsFrom r.epoch w := by
  obtain ⟨rest, rfl⟩ := List.head?_eq_some_iff.mp hr
  exact recordsFrom_of_consecutive h

theorem consecutive_map {w : List EpochRec} {f : EpochRec → EpochRec} (hf : ∀ r, (f r).epoch = r.epoch) (h : consecutive w) :
    consecutive (w.map f) := by
  obtain ⟨b, hb⟩ := consecutive_iff.mp h
  exact consecutive_iff.mpr ⟨b, (recordsFrom_map hf).mpr hb⟩

theorem near_epochFrom {b : Epoch} {i j : Nat} (hi : i ≤ 8) (hj : j ≤ 8) : near (epochFrom b i) (epochFrom b j) := by
  rcases Nat.le_total i j with h | h
  · exact .inr (by rw [epochFrom_sub (by omega) (by omega) h]; omega)
  · exact .inl (by rw [epochFrom_sub (by omega) (by omega) h]; omega)

theorem near_of_ordered {w : List EpochRec} (h : consecutive w) (hlen : w.length ≤ 5) {q r : EpochRec} (hq : q ∈ w) (hr : r ∈ w) :
    near q.epoch r.epoch := by
  obtain ⟨b, hb⟩ := consecutive_iff.mp h
  obtain ⟨i, hi, hqe⟩ := recordsFrom_mem hb hq
  obtain ⟨j, hj, hre⟩ := recordsFrom_mem hb hr
  rw [hqe, hre]
  exact near_epochFrom (by omega) (by omega)

/-- Each record of the window stands at the successor of the last released epoch or a few places after it (R71). -/
theorem AlignFits.from_released (h : AlignFits n ok a v) {y : Epoch} (hy : a.lastReleased = some y) {q : EpochRec}
    (hq : q ∈ a.window) : ∃ j, j < n ∧ q.epoch = epochFrom (y + 1) j := by
  obtain ⟨r, rest, hw⟩ := List.exists_cons_of_ne_nil (List.ne_nil_of_mem hq)
  have hr : a.window.head? = some r := by
    rw [hw]
    rfl
  obtain ⟨j, hj, he⟩ := recordsFrom_mem (recordsFrom_head h.ordered hr) hq
  exact ⟨j, hj.trans_le h.length, h.first y hy r hr ▸ he⟩

/-! ### New records, and one lane changed -/

/-- New records at the end of the window, EXPECTED for each IN lane and NA for the others (R57). -/
theorem AlignFits.extend {n' : Nat} {more : List EpochRec} (h : AlignFits n ok a v)
    (hstatus : ∀ r ∈ more, ∀ l : Lane, r.status[l] = if v[l].member.inSet then .expected else .na)
    (hord : consecutive (a.window ++ more)) (hlen : (a.window ++ more).length ≤ n') (hn : n' ≤ 5)
    (hfirst : a.window = [] → ∀ y, a.lastReleased = some y → ∀ r, more.head? = some r → r.epoch = y + 1)
    (hrun : a.running = true ∨ more ≠ []) :
    AlignFits n' ok { a with running := true, window := a.window ++ more } v where
  length := hlen
  ordered := hord
  empty := nofun
  begun _ hw := by
    obtain ⟨hw, hmore⟩ := List.append_eq_nil_iff.mp hw
    exact h.begun (hrun.resolve_right fun hne => hne hmore) hw
  first y hy r hr := by
    cases hw : a.window with
    | nil => exact hfirst hw y hy r (by simpa [hw] using hr)
    | cons q rest => exact h.first y hy r (by simpa [hw] using hr)
  limit := h.limit
  skew := h.skew
  lane l := by
    obtain ⟨b, hb⟩ := consecutive_iff.mp hord
    have hpair := (List.pairwise_append.mp (recordsFrom_pairwise hb (by omega))).2.2
    have hcol : column (a.window ++ more) l = column a.window l ++ column more l := List.map_append
    show LaneFits (column (a.window ++ more) l) _ _ _
    rw [hcol]
    refine (h.lane l).extend (fun r hr q hq => ?_) fun r hr => ?_
    · obtain ⟨r', hr', rfl⟩ := List.mem_map.mp hr
      obtain ⟨q', hq', rfl⟩ := List.mem_map.mp hq
      exact hpair q' hq' r' hr'
    · obtain ⟨r', hr', rfl⟩ := List.mem_map.mp hr
      exact hstatus r' hr' l

/-- One lane changed, with its statuses. -/
theorem AlignFits.remap {f : EpochRec → EpochRec} {g : LaneState → LaneState} {l : Lane} (h : AlignFits n ok a v)
    (hepoch : ∀ r, (f r).epoch = r.epoch) (hothers : ∀ r (m : Lane), m ≠ l → (f r).status[m] = r.status[m])
    (hempty : a.running = false → (g v[l]).member.inSet = false)
    (hl : LaneFits (column (a.window.map f) l) a.lastReleased (ok l) (g v[l])) :
    AlignFits n ok { a with window := a.window.map f } (upd v l g) where
  length := by
    show (a.window.map f).length ≤ n
    rw [List.length_map]
    exact h.length
  ordered := consecutive_map hepoch h.ordered
  empty hrun := by
    obtain ⟨hw, hlast, hin⟩ := h.empty hrun
    refine ⟨List.map_eq_nil_iff.mpr hw, hlast, fun m => ?_⟩
    rw [upd_get]
    split
    · next hm => exact hm ▸ hempty hrun
    · exact hin m
  begun hrun hw := h.begun hrun (List.map_eq_nil_iff.mp hw)
  first y hy r hr := by
    obtain ⟨q, hq, rfl⟩ := Option.map_eq_some_iff.mp (List.head?_map ▸ hr)
    rw [hepoch]
    exact h.first y hy q hq
  limit := h.limit
  skew := h.skew
  lane m := by
    rw [upd_get]
    split
    · next hm => exact hm ▸ hl
    · next hm =>
      have hcol : column (a.window.map f) m = column a.window m := by
        unfold column
        rw [List.map_map]
        exact List.map_congr_left fun r _ => Prod.ext (hepoch r) (hothers r m hm)
      show LaneFits (column (a.window.map f) m) _ _ _
      rw [hcol]
      exact h.lane m

/-- One lane changed and no status. -/
theorem AlignFits.modLane {g : LaneState → LaneState} {l : Lane} (h : AlignFits n ok a v)
    (hempty : a.running = false → (g v[l]).member.inSet = false)
    (hl : LaneFits (column a.window l) a.lastReleased (ok l) (g v[l])) : AlignFits n ok a (upd v l g) := by
  have hmap := h.remap (f := id) (g := g) (l := l) (fun _ => rfl) (fun _ _ _ => rfl) hempty (by rwa [List.map_id])
  rwa [List.map_id] at hmap

/-- The records changed, but for their epochs and statuses. -/
theorem AlignFits.records {f : EpochRec → EpochRec} (h : AlignFits n ok a v) (hepoch : ∀ r, (f r).epoch = r.epoch)
    (hstatus : ∀ r, (f r).status = r.status) : AlignFits n ok { a with window := a.window.map f } v := by
  have hcol : column (a.window.map f) 0 = column a.window 0 := by
    unfold column
    rw [List.map_map]
    exact List.map_congr_left fun r _ => Prod.ext (hepoch r) (congrArg (·[(0 : Lane)]) (hstatus r))
  have hmap := h.remap (f := f) (g := id) (l := 0) hepoch (fun r m _ => congrArg (·[m]) (hstatus r))
    (fun hno => (h.empty hno).2.2 0) (by rw [hcol]; exact h.lane 0)
  rwa [upd_same v 0 id rfl] at hmap

end

end Sys2Proof.Machine
end

section
/-! PROOF. A release keeps the aligner's laws, at a release point or forced out of a full window (R70 to R73). -/

-- Checked one after another, as the tests are: the theorems of a section all at once take a thread each.
set_option Elab.async false

namespace Sys2Proof.Machine

section
variable {n : Nat} {ok : Lane → Prop} {a : Aligner} {v u : Vector LaneState 6} {r : EpochRec} {w w' rest : List EpochRec}

theorem column_cons (r : EpochRec) (w : List EpochRec) (l : Lane) : column (r :: w) l = (r.epoch, r.status[l]) :: column w l := rfl

theorem column_append (w w' : List EpochRec) (l : Lane) : column (w ++ w') l = column w l ++ column w' l := List.map_append

theorem column_epochs (w : List EpochRec) (l : Lane) : (column w l).map Prod.fst = w.map EpochRec.epoch := by
  unfold column
  rw [List.map_map]
  rfl

theorem ejectedColumn_epochs (ejected : Prop) [Decidable ejected] (k : Column) :
    (ejectedColumn ejected k).map Prod.fst = k.map Prod.fst := by
  unfold ejectedColumn
  rw [List.map_map]
  rfl

theorem recordsFrom_epochs {b : Epoch} (h : w'.map EpochRec.epoch = w.map EpochRec.epoch) : recordsFrom b w' ↔ recordsFrom b w := by
  have hlen : w'.length = w.length := by simpa using congrArg List.length h
  unfold recordsFrom
  rw [h, hlen]

/-- The oldest record of the window is released. -/
theorem AlignFits.release {prof : Lane → Profile} (h : AlignFits (n + 1) ok a v) (hn : n ≤ 4) (hw : a.window = r :: rest)
    (hcol : ∀ l : Lane, column w' l =
      ejectedColumn (r.status[l] = .expected ∧ a.lateLimit ≤ min (v[l].lateCount + 1) 7) (column rest l))
    (hlanes : ∀ l : Lane, u[l] = releasedLane (prof l) a.lateLimit r l v[l]) :
    AlignFits n ok { a with lastReleased := some r.epoch, window := w' } u := by
  have hepochs : w'.map EpochRec.epoch = rest.map EpochRec.epoch := by
    rw [← column_epochs w' 0, hcol 0, ejectedColumn_epochs, column_epochs]
  have hlen : w'.length = rest.length := by simpa using congrArg List.length hepochs
  have hlen' : rest.length ≤ n := by simpa [hw] using h.length
  have hord : recordsFrom r.epoch (r :: rest) := recordsFrom_of_consecutive (hw ▸ h.ordered)
  have hord' : recordsFrom (r.epoch + 1) w' := (recordsFrom_epochs hepochs).mpr (recordsFrom_cons.mp hord).2
  have hrun : a.running = true := by
    by_contra hno
    exact List.cons_ne_nil r rest (hw ▸ (h.empty (Bool.eq_false_of_not_eq_true hno)).1)
  refine ⟨hlen.trans_le hlen', consecutive_iff.mpr ⟨_, hord'⟩, fun hno => (nomatch hrun.symm.trans hno), fun _ _ => nofun,
    ?_, h.limit, h.skew, fun l => ?_⟩
  · intro y hy q hq
    obtain rfl := Option.some.inj hy
    obtain ⟨more, rfl⟩ : ∃ more, w' = q :: more := List.head?_eq_some_iff.mp hq
    exact (recordsFrom_cons.mp hord').1
  · show LaneFits (column w' l) _ _ _
    rw [hcol, hlanes]
    have hl := h.lane l
    rw [hw, column_cons] at hl
    refine hl.release h.limit.2 (fun q hq => ?_) fun y hy => h.first y hy r (by rw [hw]; rfl)
    obtain ⟨q', hq', rfl⟩ := List.mem_map.mp hq
    exact (List.pairwise_cons.mp (recordsFrom_pairwise hord (by rw [List.length_cons]; omega))).1 q' hq'

end

/-! ### The release of the oldest record (R71) -/

section
variable {s : State} {r : EpochRec} {rest : List EpochRec} (count : EpochRec → UnitCounters → UnitCounters)

theorem releaseServed_aligner :
    (releaseServed count r s).aligner = { s.aligner with window := (releaseServed count r s).aligner.window } := by
  have hrest : { (releaseServed count r s).aligner with window := [] } = { s.aligner with window := [] } := by
    unfold releaseServed
    rw [closedLanes_aligner]
    refine overLanes_keeps (fun u : State => { u.aligner with window := [] }) (chosen := fun l => r.status[l] = .expected)
      (serve := fun l u => lateFor l r.epoch u) (fun l u => ?_) allLanes _
    dsimp only
    rw [lateFor_aligner]
    split <;> rfl
  exact congrArg (fun a : Aligner => { a with window := (releaseServed count r s).aligner.window }) hrest

theorem releaseServed_column (l : Lane) :
    column ((releaseServed count r s).aligner.window.drop 1) l =
      ejectedColumn (r.status[l] = .expected ∧ s.aligner.lateLimit ≤ min (s.lanes[l].lateCount + 1) 7)
        (column (s.aligner.window.drop 1) l) := by
  obtain ⟨f, hepoch, hstatus, hwindow⟩ :=
    lateLanes_window r { s with counters := { s.counters with unit := count r s.counters.unit } }
  have hdrop : (releaseServed count r s).aligner.window.drop 1 = (s.aligner.window.drop 1).map f := by
    unfold releaseServed
    rw [closedLanes_aligner, hwindow]
    cases s.aligner.window <;> rfl
  rw [hdrop]
  unfold column ejectedColumn
  rw [List.map_map, List.map_map]
  refine List.map_congr_left fun q _ => Prod.ext (hepoch q) ?_
  dsimp only [Function.comp]
  split
  · next hej => exact (hstatus q l).1 hej
  · next hkept => exact (hstatus q l).2 hkept

theorem releaseServed_lane (l : Lane) :
    (releaseServed count r s).lanes[l] = releasedLane s.ports[l.port].profile s.aligner.lateLimit r l s.lanes[l] := by
  rw [releaseServed_at]
  unfold releasedLane
  cases r.status[l] <;> rfl

theorem releaseServed_ports : (releaseServed count r s).ports = s.ports := by
  unfold releaseServed
  rw [← closedLanes_eq, (releaseLanes_frame allLanes r _).2.2.2.1]
  exact lateLanes_ports _ _

theorem sound_oldestReleased (h : alignerSound s) : alignerSound (oldestReleased s) := by
  have hfits := ((sound_iff s).mp h).1
  cases hw : s.aligner.window with
  | nil =>
    unfold oldestReleased releasedAs
    rw [hw]
    exact h
  | cons r rest =>
    have hlen := releaseServed_length releaseCounted r s
    have hne : (releaseServed releaseCounted r s).aligner.window ≠ [] := fun hnil => by
      rw [hnil, hw] at hlen
      cases hlen
    have hcol (l : Lane) := releaseServed_column (r := r) (s := s) releaseCounted l
    rw [hw] at hcol
    have hreleased := AlignFits.release { hfits with length := hfits.length.trans (Nat.le_succ 4) } (Nat.le_refl 4) hw hcol
      fun l => releaseServed_lane (r := r) (s := s) releaseCounted l
    unfold oldestReleased
    rw [releasedAs_cons _ hw, ← dropOldest_eq r.epoch _ hne]
    refine sound_of_reset ?_
    unfold laneOk at hreleased ⊢
    dsimp only
    rw [releaseServed_aligner, releaseServed_ports]
    exact hreleased

end

theorem sound_releasedTimes {s : State} (n : Nat) (h : alignerSound s) : alignerSound (releasedTimes n s) := by
  induction n generalizing s with
  | zero => exact h
  | succ n ih => exact ih (sound_oldestReleased h)

/-- A release point releases what is due, oldest first (R70). -/
theorem sound_releasePoint {s : State} (h : alignerSound s) : alignerSound (releasePoint s) := by
  obtain ⟨hfits, hheld⟩ := (sound_iff s).mp h
  rw [releasePoint_eq]
  refine sound_releasedTimes _ ((sound_iff _).mpr ⟨hfits.records (fun _ => rfl) fun _ => rfl, fun hrun => ?_⟩)
  exact (hheld hrun).imp_left fun hne hnil => hne (List.map_eq_nil_iff.mp hnil)

end Sys2Proof.Machine
end

section
/-! PROOF. A close keeps the aligner's laws, by way of a window that holds the successor's record from the start (R64, R65,
R73). -/

-- Checked one after another, as the tests are: the theorems of a section all at once take a thread each.
set_option Elab.async false

namespace Sys2Proof.Machine

theorem laneOk_of_ports {s t : State} (h : t.ports = s.ports) : laneOk t = laneOk s := funext fun l => by
  unfold laneOk
  rw [h]

theorem sound_of_fits {s t : State} (hp : t.ports = s.ports) (h : AlignFits 4 (laneOk s) t.aligner t.lanes)
    (hheld : t.aligner.window ≠ [] ∨ ∃ l : Lane, t.lanes[l].member.inSet = true) : alignerSound t :=
  (sound_iff t).mpr ⟨(laneOk_of_ports hp).symm ▸ h, fun _ => hheld⟩

theorem running_of_window {n : Nat} {ok : Lane → Prop} {a : Aligner} {v : Vector LaneState 6} (h : AlignFits n ok a v)
    (hin : a.window ≠ [] ∨ ∃ l : Lane, v[l].member.inSet = true) : a.running = true := by
  by_contra hno
  obtain ⟨hw, -, hout⟩ := h.empty (Bool.eq_false_of_not_eq_true hno)
  rcases hin with hne | ⟨l, hl⟩
  · exact hne hw
  · exact nomatch (hout l).symm.trans hl

theorem Aligner.running_true {a : Aligner} (h : a.running = true) (w : List EpochRec) :
    { a with running := true, window := w } = { a with window := w } := by rw [h]

theorem newRecord_status (s : State) (e : Epoch) (l : Lane) :
    (newRecord s e).status[l] = if s.lanes[l].member.inSet then .expected else .na := by
  unfold newRecord
  rw [Fin.getElem_fin, Vector.getElem_map]
  rfl

/-! ### A forced release (R73) -/

theorem releasedLane_inSet (prof : Profile) (limit : Nat) (r : EpochRec) (l : Lane) (x : LaneState) :
    (releasedLane prof limit r l x).member.inSet =
      if r.status[l] = .expected ∧ limit ≤ min (x.lateCount + 1) 7 then false else x.member.inSet := by
  cases hst : r.status[l] with
  | na => rw [releasedLane_na hst, if_neg (by simp)]
  | closed =>
    rw [releasedLane_closed hst, if_neg (by simp)]
    rfl
  | expected =>
    rw [releasedLane_expected hst]
    by_cases h : limit ≤ min (x.lateCount + 1) 7
    · have hm : (lateLane prof limit r.epoch x).member = .lagging := if_pos h
      rw [hm, if_pos ⟨rfl, h⟩]
      rfl
    · have hm : (lateLane prof limit r.epoch x).member = x.member.lateFor r.epoch := if_neg h
      rw [hm, if_neg fun h' => h h'.2]
      cases x.member <;> rfl

section
variable {s : State} {l : Lane} {f : Epoch}

/-- A window of five records from which the oldest is forced out. -/
theorem sound_forcedOut (hfull : s.aligner.window.length = 4)
    (h : AlignFits 5 (laneOk s) { s.aligner with window := s.aligner.window ++ [newRecord s f] } s.lanes) :
    alignerSound (modWindow (fun w => w ++ [newRecord (forcedOut s) f]) (forcedOut s)) := by
  obtain ⟨r, rest, hw⟩ := List.exists_cons_of_ne_nil (List.ne_nil_of_length_pos (hfull ▸ by decide : 0 < s.aligner.window.length))
  have hrest : rest ≠ [] := fun hnil => by
    rw [hw, hnil] at hfull
    cases hfull
  obtain ⟨haligner, hlanes, -, -, hports, -⟩ := windowForced_frame r s
  have hout := forcedOut_full hw hrest
  have hlane (m : Lane) : (forcedOut s).lanes[m] =
      releasedLane s.ports[m.port].profile s.aligner.lateLimit r m s.lanes[m] := by
    rw [hout]
    refine (releaseServed_lane countForced m).trans ?_
    rw [haligner, hlanes, hports]
  have hreleased := h.release (rest := rest ++ [newRecord s f])
    (w' := (forcedOut s).aligner.window ++ [newRecord (forcedOut s) f]) (Nat.le_refl 4)
    (congrArg (· ++ [newRecord s f]) hw) (fun m => ?_) hlane
  · refine sound_of_fits (s := s) ?_ ?_ (.inl (List.append_ne_nil_of_right_ne_nil _ (List.cons_ne_nil _ _)))
    · show (forcedOut s).ports = s.ports
      rw [← forcedRelease_eq]
      simp
    · have haligner' : (forcedOut s).aligner =
          { s.aligner with lastReleased := some r.epoch, window := (forcedOut s).aligner.window } := by
        rw [hout]
        dsimp only
        rw [releaseServed_aligner, haligner]
      unfold modWindow
      rw [haligner']
      exact hreleased
  · have hcol := releaseServed_column (r := r) (s := windowForced r s) countForced m
    rw [haligner, hlanes, hw] at hcol
    rw [column_append, column_append]
    unfold ejectedColumn at hcol ⊢
    rw [List.map_append]
    refine congrArg₂ (· ++ ·) (Eq.trans (by rw [hout]) hcol) ?_
    show [((newRecord (forcedOut s) f).epoch, (newRecord (forcedOut s) f).status[m])] =
      [((newRecord s f).epoch,
        if r.status[m] = .expected ∧ s.aligner.lateLimit ≤ min (s.lanes[m].lateCount + 1) 7 then .na
        else (newRecord s f).status[m])]
    rw [newRecord_status, newRecord_status, hlane, releasedLane_inSet, (newRecord_fields _ f).1, (newRecord_fields _ f).1]
    by_cases hej : r.status[m] = .expected ∧ s.aligner.lateLimit ≤ min (s.lanes[m].lateCount + 1) 7
    · rw [if_pos hej, if_pos hej]
      rfl
    · rw [if_neg hej, if_neg hej]

/-! ### The move to the successor (R65) -/

/-- A lane that moves to an epoch after the last released one finds its record, or makes it. -/
theorem sound_moveTo {late' : Bool} {e : Epoch} (late : Bool) (hm : s.lanes[l].member = .isIn e late')
    (hlen : s.aligner.window.length ≤ 4) (hafter : ∀ y, s.aligner.lastReleased = some y → epochAfter f y = true)
    (hpresent : (∃ r ∈ s.aligner.window, r.epoch = f) →
      AlignFits 4 (laneOk s) s.aligner (upd s.lanes l fun x => { x with member := .isIn f false }))
    (habsent : (∀ r ∈ s.aligner.window, r.epoch ≠ f) →
      AlignFits 5 (laneOk s) { s.aligner with window := s.aligner.window ++ [newRecord s f] }
        (upd s.lanes l fun x => { x with member := .isIn f false })) :
    alignerSound (moveTo l f late s) := by
  have hin : ∃ m : Lane, (movedLane l f false s).lanes[m].member.inSet = true :=
    ⟨l, congrArg (fun x : LaneState => x.member.inSet) (upd_at s.lanes l _)⟩
  by_cases hp : ∃ r ∈ s.aligner.window, r.epoch = f
  · rw [moveTo_present hafter hp]
    exact sound_of_fits (s := s) rfl (hpresent hp) (.inr hin)
  · have hout : ∀ r ∈ s.aligner.window, r.epoch ≠ f := fun r hr he => hp ⟨r, hr, he⟩
    have hfits := habsent hout
    rw [← newRecord_moved hm f f false] at hfits
    rcases Nat.lt_or_eq_of_le hlen with hroom | hfull
    · rw [moveTo_creates hafter hout hroom]
      refine sound_of_fits (s := s) rfl { hfits with length := ?_ } (.inr hin)
      show (s.aligner.window ++ [_]).length ≤ 4
      rw [List.length_append]
      exact hroom
    · rw [moveTo_forces hafter hout hfull]
      exact sound_forcedOut (s := movedLane l f false s) hfull hfits

end

/-! ### The close (R64) -/

theorem epoch_unique {w : List EpochRec} (h : consecutive w) (hlen : w.length ≤ 5) {q r : EpochRec} (hq : q ∈ w) (hr : r ∈ w)
    (he : q.epoch = r.epoch) : q = r := by
  obtain ⟨b, hb⟩ := consecutive_iff.mp h
  obtain ⟨i, hi, rfl⟩ := List.mem_iff_getElem.mp hq
  obtain ⟨j, hj, rfl⟩ := List.mem_iff_getElem.mp hr
  rw [recordsFrom_iff.mp hb i hi, recordsFrom_iff.mp hb j hj, epochFrom_inj (by omega) (by omega)] at he
  subst he
  rfl

/-- The record of the successor stands behind the newest one, where the window has none yet. -/
theorem consecutive_successor {w : List EpochRec} {e : Epoch} {q : EpochRec} (h : consecutive w)
    (hin : ∃ r ∈ w, r.epoch = e) (hout : ∀ r ∈ w, r.epoch ≠ e + 1) (hq : q.epoch = e + 1) : consecutive (w ++ [q]) := by
  obtain ⟨b, hb⟩ := consecutive_iff.mp h
  obtain ⟨r, hr, rfl⟩ := hin
  obtain ⟨j, hj, he⟩ := recordsFrom_mem hb hr
  refine consecutive_iff.mpr ⟨b, recordsFrom_append.mpr ⟨hb, recordsFrom_cons.mpr ⟨?_, rfl⟩⟩⟩
  rw [hq, he, ← epochFrom_succ]
  by_cases hlast : j + 1 = w.length
  · rw [hlast]
  · refine absurd ?_ (hout w[j + 1] (List.getElem_mem (by omega)))
    rw [recordsFrom_iff.mp hb (j + 1) (by omega), he, epochFrom_succ]

theorem column_closed (l : Lane) (e : Epoch) (d : Nat) (w : List EpochRec) :
    column (w.map (closedRecord l e d)) l = closedColumn e (column w l) := by
  unfold column closedColumn
  rw [List.map_map, List.map_map]
  refine List.map_congr_left fun r _ => ?_
  dsimp only [Function.comp]
  unfold closedRecord
  split
  · exact Prod.ext rfl (upd_at _ _ _)
  · rfl

theorem closedRecord_status {l m : Lane} (e : Epoch) (d : Nat) (r : EpochRec) (h : m ≠ l) :
    (closedRecord l e d r).status[m] = r.status[m] := by
  unfold closedRecord
  split
  · exact (upd_get _ _ _ _).trans (if_neg h)
  · rfl

section
variable {s : State} {l : Lane} {e : Epoch}

/-- The records after a close, and nothing else of the aligner. -/
theorem closeRecord_aligner (d : Nat) (h : consecutive s.aligner.window) (hlen : s.aligner.window.length ≤ 5)
    (hin : ∃ r ∈ s.aligner.window, r.epoch = e) :
    (closeRecord l e d s).aligner =
      { s.aligner with window := s.aligner.window.map (closedRecord l e s.aligner.skew) } := by
  obtain ⟨q, hq, hqe⟩ := hin
  rw [closeRecord_eq (n := q.arrivals[l]) ⟨q, hq, hqe⟩ fun r hr hre => by
    rw [epoch_unique h hlen hr hq (hre.trans hqe.symm)]]

theorem newRecord_lanes {t : State} (h : t.lanes = s.lanes) (f : Epoch) : newRecord t f = newRecord s f := by
  unfold newRecord
  rw [h]

/-- With the record of the successor in the window, a close leaves the lane there. -/
theorem AlignFits.close {n : Nat} {ok : Lane → Prop} {a : Aligner} {v : Vector LaneState 6} (h : AlignFits n ok a v)
    (hn : n ≤ 5) (hm : v[l].member = .isIn e false) (hin : ∃ r ∈ a.window, r.epoch = e + 1) :
    AlignFits n ok { a with window := a.window.map (closedRecord l e a.skew) }
      (upd v l fun x => { x with member := .isIn (e + 1) false }) := by
  have hl := h.lane l
  have hcur := hl.member
  rw [hm] at hcur
  obtain ⟨⟨z, hz, hze⟩, -⟩ := hcur
  obtain ⟨q, hq, rfl⟩ := List.mem_map.mp hz
  have hrun := running_of_window h (.inr ⟨l, by rw [hm]; rfl⟩)
  refine h.remap (closedRecord_epoch _) (fun r m => closedRecord_status e _ r) (fun hno => (nomatch hrun.symm.trans hno)) ?_
  rw [column_closed]
  refine hl.close hm (fun y hy => ?_) ?_
  · obtain ⟨r, hr, rfl⟩ := List.mem_map.mp hy
    exact hze ▸ near_of_ordered h.ordered (h.length.trans hn) hr hq
  · obtain ⟨r, hr, he⟩ := hin
    exact ⟨_, List.mem_map_of_mem hr, he⟩

theorem sound_close_timely (d : Nat) (hm : s.lanes[l].member = .isIn e false)
    (h : AlignFits 4 (laneOk s) s.aligner s.lanes) : alignerSound (close l e false d s) := by
  have hcur := (h.lane l).member
  rw [hm] at hcur
  obtain ⟨⟨z, hz, hze⟩, -⟩ := hcur
  obtain ⟨q, hq, rfl⟩ := List.mem_map.mp hz
  have hin : ∃ r ∈ s.aligner.window, r.epoch = e := ⟨q, hq, hze⟩
  have hset : s.lanes[l].member.inSet = true := by rw [hm]; rfl
  have hrun := running_of_window h (.inr ⟨l, hset⟩)
  have haligner := closeRecord_aligner (l := l) d h.ordered (h.length.trans (by decide)) hin
  have hlanes : (closeRecord l e d s).lanes = s.lanes := by simp
  have hports : laneOk (closeRecord l e d s) = laneOk s := laneOk_of_ports (by simp)
  unfold close
  rw [if_neg Bool.false_ne_true]
  refine sound_moveTo false (by rw [hlanes]; exact hm) ?_ (fun y hy => ?_) (fun hp => ?_) fun hout => ?_
  · rw [haligner]
    exact (List.length_map _).trans_le h.length
  · rw [haligner] at hy
    obtain ⟨j, hj, he⟩ := h.from_released hy hq
    rw [← hze, he, ← epochFrom_one y, epochFrom_epochFrom, ← epochFrom_succ]
    have hafter := (epochAfter_epochFrom (b := y) (j := 1 + j + 1) (k := 0) (by omega) (by omega)).mpr (by omega)
    rwa [epochFrom_zero] at hafter
  · rw [haligner] at hp
    rw [hports, hlanes, haligner]
    exact h.close (by decide) hm (closedRecord_has_epoch.mp hp)
  · rw [haligner] at hout
    have hout' : ∀ r ∈ s.aligner.window, r.epoch ≠ e + 1 := fun r hr he => by
      obtain ⟨q, hq, hqe⟩ := closedRecord_has_epoch.mpr ⟨r, hr, he⟩
      exact hout q hq hqe
    have hnew : (newRecord s (e + 1)).epoch = e + 1 := (newRecord_fields s (e + 1)).1
    have hextended := h.extend (n' := 5) (more := [newRecord s (e + 1)])
      (fun r hr m => by rw [List.mem_singleton.mp hr]; exact newRecord_status s _ m)
      (consecutive_successor h.ordered hin hout' hnew) (by rw [List.length_append]; exact Nat.succ_le_succ h.length) (Nat.le_refl 5)
      (fun hnil => absurd hnil (List.ne_nil_of_mem hq)) (.inl hrun)
    rw [Aligner.running_true hrun] at hextended
    have hclosed := hextended.close (l := l) (e := e) (Nat.le_refl 5) hm
      ⟨_, List.mem_append_right _ (List.mem_singleton_self _), hnew⟩
    have hother : closedRecord l e s.aligner.skew (newRecord s (e + 1)) = newRecord s (e + 1) :=
      closedRecord_other (by rw [hnew]; exact fun he => not_from_successor e (.inl he.symm))
    dsimp only at hclosed
    rw [List.map_append, List.map_singleton, hother] at hclosed
    rw [hports, hlanes, haligner, newRecord_lanes hlanes]
    exact hclosed

/-! ### A late lane's close -/

theorem sound_close_late (d : Nat) (hm : s.lanes[l].member = .isIn e true) (h : AlignFits 4 (laneOk s) s.aligner s.lanes) :
    alignerSound (close l e true d s) := by
  have hset : s.lanes[l].member.inSet = true := by rw [hm]; rfl
  have hrun := running_of_window h (.inr ⟨l, hset⟩)
  have hl := h.lane l
  obtain ⟨y, hy⟩ : ∃ y, s.aligner.lastReleased = some y := by
    have hcur := hl.member
    rw [hm] at hcur
    obtain ⟨⟨y, hy, -⟩, -⟩ := hcur
    exact ⟨y, hy⟩
  rw [hy] at hl
  show alignerSound (moveTo l (e + 1) true s)
  cases hafter : epochAfter (e + 1) y with
  | false =>
    rw [moveTo_released ⟨y, hy, hafter⟩]
    refine sound_of_fits (s := s) rfl
      (h.modLane (l := l) (g := fun x => { x with member := .isIn (e + 1) true }) (fun hno => (nomatch hrun.symm.trans hno)) ?_)
      (.inr ⟨l, congrArg (fun x : LaneState => x.member.inSet) (upd_at s.lanes l _)⟩)
    rw [hy]
    exact hl.late_moves hm hafter
  | true =>
    have hcur : e = y := hl.late_current hm hafter
    have hk {n : Nat} {a : Aligner} (ha : AlignFits n (laneOk s) a s.lanes) (hn : n ≤ 5) (hlast : a.lastReleased = some y)
        (hin : ∃ r ∈ a.window, r.epoch = e + 1) :
        AlignFits n (laneOk s) a (upd s.lanes l fun x => { x with member := .isIn (e + 1) false }) := by
      have hl' := ha.lane l
      have hrun' := running_of_window ha (.inr ⟨l, hset⟩)
      refine ha.modLane (fun hno => (nomatch hrun'.symm.trans hno)) ?_
      rw [hlast] at hl' ⊢
      refine hl'.late_returns hm hafter (fun z hz => ?_) ?_
      · obtain ⟨r, hr, rfl⟩ := List.mem_map.mp hz
        obtain ⟨j, hj, he⟩ := ha.from_released hlast hr
        dsimp only
        rw [he]
        cases j with
        | zero => exact .inl (epochFrom_zero _)
        | succ j =>
          have hpast := (epochAfter_epochFrom (b := y + 1) (j := j + 1) (k := 0) (by omega) (by omega)).mpr (by omega)
          exact .inr (by rwa [epochFrom_zero] at hpast)
      · obtain ⟨r, hr, he⟩ := hin
        exact ⟨_, List.mem_map_of_mem hr, he⟩
    refine sound_moveTo true hm h.length (fun x hx => ?_) (fun hp => ?_) fun hout => ?_
    · obtain rfl := Option.some.inj (hy.symm.trans hx)
      exact hafter
    · exact hk h (by decide) hy hp
    · have hnew : (newRecord s (e + 1)).epoch = e + 1 := (newRecord_fields s (e + 1)).1
      have hnil : s.aligner.window = [] := by
        by_contra hne
        obtain ⟨r, rest, hw⟩ := List.exists_cons_of_ne_nil hne
        refine hout r (by rw [hw]; exact List.mem_cons_self ..) ?_
        rw [h.first y hy r (by rw [hw]; rfl), hcur]
      have hextended := h.extend (n' := 5) (more := [newRecord s (e + 1)])
        (fun r hr m => by rw [List.mem_singleton.mp hr]; exact newRecord_status s _ m) (by rw [hnil]; trivial)
        (by rw [hnil]; exact Nat.le_add_left 1 4) (Nat.le_refl 5)
        (fun _ x hx r hr => by
          obtain rfl := Option.some.inj hr
          rw [hnew, hcur, Option.some.inj (hy.symm.trans hx)]) (.inl hrun)
      rw [Aligner.running_true hrun] at hextended
      exact hk hextended (Nat.le_refl 5) hy ⟨_, List.mem_append_right _ (List.mem_singleton_self _), hnew⟩

end

end Sys2Proof.Machine
end

section
/-! PROOF. A join, a slip and a MARK keep the aligner's laws (R61, R62, R66). -/

-- Checked one after another, as the tests are: the theorems of a section all at once take a thread each.
set_option Elab.async false

namespace Sys2Proof.Machine

/-! ### The records of a join (R62 step 1) -/

/-- The records that a join makes. -/
def joinRecords (s : State) (e : Epoch) : List EpochRec :=
  if s.aligner.running then (recordsUpTo s e).map (dueWhenEmpty s.aligner.skew) else [newRecord s e]

section
variable {s : State} {l : Lane} {e : Epoch}

theorem join_aligner (hempty : s.aligner.running = false → s.aligner.window = []) :
    (join l e s).aligner =
      { s.aligner with
        running := true
        window := (s.aligner.window ++ joinRecords s e).map fun q => dueWhenEmpty s.aligner.skew (joinStatus l e q) } := by
  unfold joinRecords
  by_cases hrun : s.aligner.running = true
  · rw [join_running hrun, if_pos hrun, Aligner.running_true hrun]
    rfl
  · rw [hempty (Bool.eq_false_of_not_eq_true hrun), if_neg hrun]
    unfold join dueEmptyRecords
    rw [if_neg hrun]
    simp only [dueIfEmpty_eq]
    rfl

theorem join_lanes : (join l e s).lanes = upd s.lanes l fun x => { x with member := .isIn e false } := by
  unfold join
  dsimp only
  split <;> rfl

theorem recordsUpTo_status {r : EpochRec} (hr : r ∈ recordsUpTo s e) (m : Lane) :
    r.status[m] = if s.lanes[m].member.inSet then .expected else .na := by
  unfold recordsUpTo at hr
  split at hr
  · rw [List.mem_singleton.mp hr]
    exact newRecord_status s e m
  · split at hr
    · obtain ⟨k, -, rfl⟩ := List.mem_map.mp hr
      exact newRecord_status s _ m
    · exact absurd hr List.not_mem_nil

theorem joinRecords_status {r : EpochRec} (hr : r ∈ joinRecords s e) (m : Lane) :
    r.status[m] = if s.lanes[m].member.inSet then .expected else .na := by
  unfold joinRecords at hr
  split at hr
  · obtain ⟨q, hq, rfl⟩ := List.mem_map.mp hr
    rw [dueWhenEmpty_status]
    exact recordsUpTo_status hq m
  · rw [List.mem_singleton.mp hr]
    exact newRecord_status s e m

/-- With no record in the window a join makes the one of its epoch. -/
theorem joinRecords_empty (hw : s.aligner.window = []) : ∃ q : EpochRec, joinRecords s e = [q] ∧ q.epoch = e := by
  have hnew : recordsUpTo s e = [newRecord s e] := by
    unfold recordsUpTo newest
    rw [hw]
    rfl
  unfold joinRecords
  rw [hnew]
  split
  · exact ⟨_, rfl, createdRecord_epoch s e⟩
  · exact ⟨_, rfl, (newRecord_fields s e).1⟩

/-- What the window of a joinable MARK is with the join's records (R61). -/
structure JoinFits (s : State) (l : Lane) (e : Epoch) : Prop where
  ordered : consecutive (s.aligner.window ++ joinRecords s e)
  length : (s.aligner.window ++ joinRecords s e).length ≤ 4
  within : ∃ r ∈ s.aligner.window ++ joinRecords s e, r.epoch = e
  first : s.aligner.window = [] → ∀ y, s.aligner.lastReleased = some y →
    ∀ r, (joinRecords s e).head? = some r → r.epoch = y + 1
  begun : s.aligner.running = true ∨ joinRecords s e ≠ []
  closed : ∀ q ∈ s.aligner.window, q.status[l] = .closed → epochAfter e q.epoch = true

variable {ok : Lane → Prop} (h : AlignFits 4 ok s.aligner s.lanes) (hjoin : joinable s l e = true)
include h hjoin

theorem joinFits_empty (hw : s.aligner.window = []) : JoinFits s l e := by
  obtain ⟨q, hq, hqe⟩ := joinRecords_empty (e := e) hw
  refine ⟨?_, ?_, ?_, fun _ y hy r hr => ?_, .inr (hq ▸ List.cons_ne_nil _ _), fun _ hin => ?_⟩
  · rw [hw, hq]
    trivial
  · rw [hw, hq]
    exact Nat.le_add_left 1 3
  · rw [hw, hq]
    exact ⟨q, List.mem_singleton_self q, hqe⟩
  · rw [hq] at hr
    obtain rfl := Option.some.inj hr
    by_cases hrun : s.aligner.running = true
    · have hlast := (joinable_next hrun hw).mp hjoin
      rw [hqe, Option.some.inj (hy.symm.trans hlast), BitVec.sub_add_cancel]
    · exact nomatch hy.symm.trans (h.empty (Bool.eq_false_of_not_eq_true hrun)).2.1
  · rw [hw] at hin
    exact absurd hin List.not_mem_nil

theorem joinFits_window {r : EpochRec} {rest : List EpochRec} (hw : s.aligner.window = r :: rest) : JoinFits s l e := by
  have hrun := running_of_window h (.inl (hw ▸ List.cons_ne_nil _ _))
  obtain ⟨hnear, -, hclosed⟩ := (joinable_iff hrun hw ⟨h.length, h.ordered⟩).mp hjoin
  have hrec : recordsFrom r.epoch s.aligner.window := recordsFrom_head h.ordered (by rw [hw]; rfl)
  have hgrown := recordsUpTo_window (k := (e - r.epoch).toNat) hw hrec h.length hnear
  have hrecords : joinRecords s e = (recordsUpTo s (epochFrom r.epoch (e - r.epoch).toNat)).map (dueWhenEmpty s.aligner.skew) := by
    rw [epochFrom_distance]
    exact if_pos hrun
  rw [← hrecords] at hgrown
  have hlen : (s.aligner.window ++ joinRecords s e).length = max s.aligner.window.length ((e - r.epoch).toNat + 1) := by
    rw [hgrown]
    simp
  have hord : recordsFrom r.epoch (s.aligner.window ++ joinRecords s e) := by
    rw [recordsFrom_iff]
    intro j hj
    simp only [hgrown, List.getElem_map, List.getElem_range]
    exact createdRecord_at r _ j hrec
  have hk : (e - r.epoch).toNat < (s.aligner.window ++ joinRecords s e).length := by omega
  have hle := h.length
  refine ⟨consecutive_iff.mpr ⟨_, hord⟩, by omega, ⟨_, List.getElem_mem hk, ?_⟩, fun hnil => ?_, .inl hrun, hclosed⟩
  · rw [recordsFrom_iff.mp hord _ hk, epochFrom_distance]
  · rw [hw] at hnil
    exact absurd hnil (List.cons_ne_nil _ _)

theorem joinFits : JoinFits s l e := by
  cases hw : s.aligner.window with
  | nil => exact joinFits_empty h hjoin hw
  | cons r rest => exact joinFits_window h hjoin hw

end

/-! ### The join (R62) -/

section
variable {s : State} {l : Lane} {e : Epoch}

theorem joinStatus_epoch (r : EpochRec) : (joinStatus l e r).epoch = r.epoch := by
  unfold joinStatus
  split
  · rfl
  · split
    · rfl
    · split <;> rfl

theorem setStatus_other {l m : Lane} (x : LaneStatus) (r : EpochRec) (h : m ≠ l) : (r.setStatus l x).status[m] = r.status[m] :=
  (upd_get _ _ _ _).trans (if_neg h)

theorem joinStatus_other {m : Lane} (r : EpochRec) (h : m ≠ l) : (joinStatus l e r).status[m] = r.status[m] := by
  unfold joinStatus
  split
  · exact setStatus_other _ r h
  · split
    · exact setStatus_other _ r h
    · split
      · rfl
      · exact setStatus_other _ r h

theorem column_joined (d : Nat) (w : List EpochRec) :
    column (w.map fun q => dueWhenEmpty d (joinStatus l e q)) l = joinedColumn e (column w l) := by
  unfold column joinedColumn
  rw [List.map_map, List.map_map]
  refine List.map_congr_left fun r _ => ?_
  dsimp only [Function.comp]
  rw [dueWhenEmpty_epoch, dueWhenEmpty_status, joinStatus_epoch]
  by_cases hsame : r.epoch = e
  · rw [joinStatus_same hsame, if_pos (.inl hsame)]
    exact Prod.ext rfl (setStatus_at _ _ _)
  · by_cases hlater : epochAfter r.epoch e = true
    · rw [joinStatus_later hsame hlater, if_pos (.inr hlater)]
      exact Prod.ext rfl (setStatus_at _ _ _)
    · have hnot : ¬(r.epoch = e ∨ epochAfter r.epoch e = true) := not_or.mpr ⟨hsame, hlater⟩
      rw [joinStatus_older hsame hlater, if_neg hnot]
      split
      · rfl
      · exact Prod.ext rfl (setStatus_at _ _ _)

/-- A JOINING lane joins where its MARK is joinable. -/
theorem fits_join {ok : Lane → Prop} (h : AlignFits 4 ok s.aligner s.lanes) (hm : s.lanes[l].member = .joining)
    (hjoin : joinable s l e = true) : AlignFits 4 ok (join l e s).aligner (join l e s).lanes := by
  have hw := joinFits h hjoin
  have hextended := h.extend (fun r hr => joinRecords_status hr) hw.ordered hw.length (by decide) hw.first hw.begun
  rw [join_aligner fun hno => (h.empty hno).1, join_lanes]
  refine hextended.remap (fun r => (dueWhenEmpty_epoch _ _).trans (joinStatus_epoch r))
    (fun r m hml => by rw [dueWhenEmpty_status, joinStatus_other r hml]) nofun ?_
  rw [column_joined]
  refine (hextended.lane l).join hm ?_ fun z hz hc => ?_
  · obtain ⟨r, hr, he⟩ := hw.within
    exact ⟨_, List.mem_map_of_mem hr, he⟩
  · obtain ⟨r, hr, rfl⟩ := List.mem_map.mp hz
    rcases List.mem_append.mp hr with hr | hr
    · exact hw.closed r hr hc
    · dsimp only at hc
      rw [joinRecords_status hr, hm] at hc
      cases hc

theorem fits_tryJoin {ok : Lane → Prop} (h : AlignFits 4 ok s.aligner s.lanes) (hm : s.lanes[l].member = .joining) :
    AlignFits 4 ok (tryJoin l e s).aligner (tryJoin l e s).lanes := by
  unfold tryJoin
  split
  · next hjoin => exact fits_join h hm hjoin
  · exact h

theorem sound_tryJoin (h : alignerSound s) (hm : s.lanes[l].member = .joining) : alignerSound (tryJoin l e s) := by
  unfold tryJoin
  split
  · next hjoin =>
    refine sound_of_fits (s := s) (by simp) (fits_join ((sound_iff s).mp h).1 hm hjoin) (.inr ⟨l, ?_⟩)
    rw [join_lanes]
    exact congrArg (fun x : LaneState => x.member.inSet) (upd_at s.lanes l _)
  · exact h

end

/-! ### The slip (R66) -/

section
variable {s : State} {l : Lane} {e : Epoch}

/-- A slip before the MARK is judged as a join, on the aligner and the lanes alone (R66 steps 1 to 4). -/
theorem slip_steps (l : Lane) (e f : Epoch) (s : State) :
    ∃ t : State, slip l e f s = setResetTest (tryJoin l f t) ∧ t.ports = s.ports ∧
      t.aligner = { s.aligner with window := s.aligner.window.map (slippedRecord l e s.aligner.skew) } ∧
      t.lanes = upd s.lanes l fun x =>
        { queue := x.queue.filter fun q => !(q.epoch == e)
          high := judgedHigh s.ports[l.port].profile (x.queue.filter fun q => !(q.epoch == e)).length x.high
          member := .joining
          lateCount := x.lateCount } := by
  refine ⟨_, rfl, ?_, ?_, ?_⟩
  · simp
  · unfold dueEmptyRecords modWindow
    simp only [modLane_frame, countLane_frame, raise_frame, discardEpoch_frame, slippedWindow_eq]
    rfl
  · unfold dueEmptyRecords modWindow
    simp only [modLane_frame, countLane_frame, raise_frame, discardEpoch_frame, takeOut_lanes, upd_upd]
    rfl

theorem slippedRecord_other {m : Lane} (d : Nat) (r : EpochRec) (h : m ≠ l) : (slippedRecord l e d r).status[m] = r.status[m] := by
  unfold slippedRecord
  rw [dueWhenEmpty_status]
  split
  · exact (laneOut_status l m r).trans (if_neg h)
  · rfl

theorem column_slipped (d : Nat) (w : List EpochRec) :
    column (w.map (slippedRecord l e d)) l = slippedColumn e (column w l) := by
  unfold column slippedColumn
  rw [List.map_map, List.map_map]
  refine List.map_congr_left fun r _ => ?_
  dsimp only [Function.comp]
  rw [slippedRecord_epoch]
  unfold slippedRecord
  rw [dueWhenEmpty_status]
  split
  · exact Prod.ext rfl ((laneOut_status l l r).trans (if_pos rfl))
  · rfl

/-- A late lane is late for an epoch before every record (R65). -/
theorem AlignFits.late_before {ok : Lane → Prop} {a : Aligner} {v : Vector LaneState 6} (h : AlignFits 4 ok a v)
    (hm : v[l].member = .isIn e true) {r : EpochRec} (hr : r ∈ a.window) : epochAfter r.epoch e = true := by
  have hcur := (h.lane l).member
  have hcount := (h.lane l).count
  rw [hm] at hcur
  obtain ⟨⟨y, hy, hlt⟩, -⟩ := hcur
  obtain ⟨j, hj, he⟩ := h.from_released hy hr
  have hafter := (epochAfter_epochFrom (b := e) (j := (y - e).toNat + (1 + j)) (k := 0) (by omega) (by omega)).mpr (by omega)
  rw [← epochFrom_epochFrom, epochFrom_distance, epochFrom_zero, ← epochFrom_epochFrom, epochFrom_one] at hafter
  rw [he]
  exact hafter

theorem sound_slip {late : Bool} (f : Epoch) (hm : s.lanes[l].member = .isIn e late)
    (h : AlignFits 4 (laneOk s) s.aligner s.lanes) : alignerSound (slip l e f s) := by
  obtain ⟨t, hslip, hports, haligner, hlanes⟩ := slip_steps l e f s
  have hslipped : AlignFits 4 (laneOk s) t.aligner t.lanes := by
    rw [haligner, hlanes]
    refine h.remap (slippedRecord_epoch _) (fun r m => slippedRecord_other _ r) (fun _ => rfl) ?_
    rw [column_slipped]
    refine (h.lane l).slip hm (fun hlate z hz => ?_) _
    obtain ⟨r, hr, rfl⟩ := List.mem_map.mp hz
    exact h.late_before (hlate ▸ hm) hr
  have hjoining : t.lanes[l].member = .joining := by
    rw [hlanes]
    exact congrArg LaneState.member (upd_at s.lanes l _)
  have hfits := fits_tryJoin (e := f) hslipped hjoining
  rw [hslip]
  refine sound_of_reset ?_
  rw [laneOk_of_ports (s := s) (by simp [hports])]
  exact hfits

end

/-! ### The MARK (R29, R63, R64, R66, R68) -/

theorem sound_alignMark {s : State} (l : Lane) (f : Epoch) (d : Nat) (h : alignerSound s) : alignerSound (alignMark l f d s) := by
  have hcounted : alignerSound (laneCounted l (fun k => { k with marks := bump k.marks }) s) := sound_of_frame h ⟨rfl, rfl, rfl⟩
  have hfits := ((sound_iff _).mp hcounted).1
  cases hm : s.lanes[l].member with
  | waiting =>
    rw [alignMark_counts f d (.inl hm)]
    exact hcounted
  | lagging =>
    rw [alignMark_counts f d (.inr hm)]
    exact hcounted
  | joining =>
    rw [alignMark_joining f d hm]
    exact sound_tryJoin hcounted hm
  | isIn e late =>
    by_cases hf : f = e + 1
    · subst hf
      rw [alignMark_closes d hm]
      cases late with
      | true => exact sound_close_late d hm hfits
      | false => exact sound_close_timely d hm hfits
    · rw [alignMark_slips f d hm hf]
      exact sound_slip f hm hfits

/-! ### The DATA cell (R67) -/

theorem fits_arrivalCounted {s : State} {n : Nat} {ok : Lane → Prop} (l : Lane) (e : Epoch)
    (h : AlignFits n ok s.aligner s.lanes) : AlignFits n ok (arrivalCounted l e s).aligner (arrivalCounted l e s).lanes := by
  refine h.records (fun r => ?_) fun r => ?_
  · split <;> rfl
  · split <;> rfl

theorem sound_alignData {s : State} (l : Lane) (c : DataCell) (h : alignerSound s) : alignerSound (alignData l c s) := by
  have hfits := ((sound_iff s).mp h).1
  cases hm : s.lanes[l].member with
  | waiting =>
    simp only [alignData, hm]
    exact h
  | joining =>
    rw [alignData_joining c hm]
    exact sound_of_frame h ⟨rfl, rfl, rfl⟩
  | lagging =>
    rw [alignData_late c (.inl hm)]
    exact sound_of_frame h ⟨rfl, rfl, rfl⟩
  | isIn e late =>
    cases late with
    | true =>
      rw [alignData_late c (.inr ⟨e, hm⟩)]
      exact sound_of_frame h ⟨rfl, rfl, rfl⟩
    | false =>
      rw [alignData_timely c hm]
      have hcounted := fits_arrivalCounted l e hfits
      have hset : s.lanes[l].member.inSet = true := by rw [hm]; rfl
      rcases laneAppend_cases l e c (arrivalCounted l e s) with ⟨hlanes, -⟩ | ⟨-, -, happend⟩
      · refine sound_of_fits (s := s) (by simp [arrivalCounted]) ?_ (.inr ⟨l, by rw [hlanes]; exact hset⟩)
        rw [hlanes]
        simpa using hcounted
      · have hrun := running_of_window hcounted (.inr ⟨l, hset⟩)
        have hlanes := laneTake_lanes l e c (arrivalCounted l e s)
        have hcur := (hcounted.lane l).member
        have hm' : (arrivalCounted l e s).lanes[l].member = .isIn e false := hm
        rw [hm'] at hcur
        obtain ⟨⟨z, hz, hze⟩, -⟩ := hcur
        obtain ⟨q, hq, rfl⟩ := List.mem_map.mp hz
        rw [happend]
        refine sound_of_fits (s := s) (by simp [laneTake, arrivalCounted]) ?_ (.inr ⟨l, ?_⟩)
        · have haligner : (laneTake l e c (arrivalCounted l e s)).aligner = (arrivalCounted l e s).aligner := by simp [laneTake]
          rw [hlanes, haligner]
          refine hcounted.modLane (fun hno => (nomatch hrun.symm.trans hno)) ((hcounted.lane l).append hm' (fun y hy => ?_) _ c)
          obtain ⟨r, hr, rfl⟩ := List.mem_map.mp hy
          exact hze ▸ near_of_ordered hcounted.ordered (hcounted.length.trans (by decide)) hr hq
        · rw [hlanes]
          exact (congrArg (fun x : LaneState => x.member.inSet) (upd_at _ l _)).trans hset

end Sys2Proof.Machine
end

section
/-! PROOF. Every step keeps the epoch window, the set and the members sound. -/

-- Checked one after another, as the tests are: the theorems of a section all at once take a thread each.
set_option Elab.async false

namespace Sys2Proof.Machine

/-! ### A port's lane -/

theorem lane_port_inj {l m : Lane} (h : m.port = l.port) : m = l := by
  have hlane := lane?_port m
  rw [h, lane?_port] at hlane
  exact (Option.some.inj hlane).symm

/-- The law reads the ports for the lanes that are not WAITING alone. -/
theorem sound_of_ports {s t : State} (h : alignerSound s) (ha : t.aligner = s.aligner) (hl : t.lanes = s.lanes)
    (hok : ∀ l : Lane, s.lanes[l].member ≠ .waiting → laneOk s l → laneOk t l) : alignerSound t := by
  obtain ⟨hfits, hheld⟩ := (sound_iff s).mp h
  rw [sound_iff, ha, hl]
  exact ⟨hfits.mono hok, hheld⟩

/-- A RUNNING set stays held where no IN lane leaves it. -/
theorem setHeld_of_in {a : Aligner} {v u : Vector LaneState 6} (h : setHeld a v)
    (hin : ∀ l : Lane, v[l].member.inSet = true → u[l].member.inSet = true) : setHeld a u :=
  fun hrun => (h hrun).imp_right fun ⟨l, hl⟩ => ⟨l, hin l hl⟩

/-- One lane that was not IN changed and no status. -/
theorem sound_modLane {s t : State} {l : Lane} {g : LaneState → LaneState} (h : alignerSound s) (ha : t.aligner = s.aligner)
    (hl : t.lanes = upd s.lanes l g) (hok : ∀ m : Lane, s.lanes[m].member ≠ .waiting → laneOk s m → laneOk t m)
    (hin : (g s.lanes[l]).member.inSet = s.lanes[l].member.inSet)
    (hfit : LaneFits (column s.aligner.window l) s.aligner.lastReleased (laneOk t l) (g s.lanes[l])) : alignerSound t := by
  obtain ⟨hfits, hheld⟩ := (sound_iff s).mp h
  rw [sound_iff, ha, hl]
  refine ⟨(hfits.mono hok).modLane (fun hno => hin.trans ((hfits.empty hno).2.2 l)) hfit, setHeld_of_in hheld fun m hm => ?_⟩
  rw [upd_get]
  split
  · next he => exact he ▸ hin.trans (he ▸ hm)
  · exact hm

/-! ### A port leaves UP (R34, R76) -/

theorem alignLeaveUp_steps (l : Lane) (s : State) :
    ∃ t : State, alignLeaveUp l (emptyLane l s) = setResetTest t ∧ t.ports = s.ports ∧
      t.aligner = { s.aligner with window := s.aligner.window.map fun r => dueWhenEmpty s.aligner.skew (laneOut l r) } ∧
      t.lanes = upd s.lanes l fun x =>
        { queue := [], high := judgedHigh s.ports[l.port].profile 0 x.high, member := .waiting, lateCount := 0 } := by
  refine ⟨_, rfl, ?_, ?_, ?_⟩
  · simp
  · unfold dueEmptyRecords modWindow
    simp only [modLane_frame, emptyLane_frame, List.map_map, dueIfEmpty_eq]
    rfl
  · unfold dueEmptyRecords modWindow
    simp only [modLane_frame, emptyLane_lanes, upd_upd]
    rfl

theorem sound_alignLeaveUp {s : State} {l : Lane} {ok : Lane → Prop} (h : AlignFits 4 ok s.aligner s.lanes)
    (hok : ∀ m : Lane, m ≠ l → ok m → laneOk s m) : alignerSound (alignLeaveUp l (emptyLane l s)) := by
  obtain ⟨t, hleave, hports, haligner, hlanes⟩ := alignLeaveUp_steps l s
  rw [hleave]
  refine sound_of_reset ?_
  rw [laneOk_of_ports hports, haligner, hlanes]
  have hleft := h.remap (f := fun r => dueWhenEmpty s.aligner.skew (laneOut l r))
    (g := fun x => { queue := [], high := judgedHigh s.ports[l.port].profile 0 x.high, member := .waiting, lateCount := 0 })
    (l := l) (fun r => dueWhenEmpty_epoch _ _) (fun r m hm => by rw [dueWhenEmpty_status, laneOut_status, if_neg hm])
    (fun _ => rfl) (LaneFits.left (fun z hz => ?_) _)
  · refine hleft.mono fun m hne hm => ?_
    rw [upd_get] at hne
    split at hne
    · exact absurd rfl hne
    · next hml => exact hok m hml hm
  · obtain ⟨q, hq, rfl⟩ := List.mem_map.mp hz
    obtain ⟨r, -, rfl⟩ := List.mem_map.mp hq
    dsimp only
    rw [dueWhenEmpty_status, laneOut_status, if_pos rfl]

/-- A port leaves UP whatever its own lane's port and mode have become. -/
theorem sound_leaveUp {s : State} {ok : Lane → Prop} (p : Port) (c : DownCause) (h : AlignFits 4 ok s.aligner s.lanes)
    (hheld : setHeld s.aligner s.lanes) (hok : ∀ m : Lane, m.port ≠ p → ok m → laneOk s m) : alignerSound (leaveUp p c s) := by
  have hdown : (receiverDown p c s).aligner = s.aligner ∧ (receiverDown p c s).lanes = s.lanes := by simp [receiverDown]
  have hok' : ∀ m : Lane, m.port ≠ p → ok m → laneOk (receiverDown p c s) m := fun m hm hmok => by
    have hport : (receiverDown p c s).ports[m.port] = s.ports[m.port] := by
      simp only [receiverDown, raise_frame, countPort_frame, modRx_other p _ s hm]
    unfold laneOk
    rw [hport]
    exact hok m hm hmok
  rw [← hdown.1, ← hdown.2] at h hheld
  rw [leaveUp_eq]
  refine sound_of_frame (s := laneLeavesUp p (receiverDown p c s)) ?_
    (by simp only [holderLeavesUp_frame, ownerLeavesUp_frame, and_self])
  unfold laneLeavesUp
  cases hl : p.lane? with
  | none =>
    refine (sound_iff _).mpr ⟨h.mono fun m _ => hok' m fun hm => ?_, hheld⟩
    rw [← hm, lane?_port] at hl
    cases hl
  | some l =>
    obtain rfl := port_of_lane? hl
    exact sound_alignLeaveUp h fun m hm => hok' m fun he => hm (lane_port_inj he)

/-! ### A port enters UP (R60) -/

theorem sound_enterUp {s : State} (p : Port) (h : alignerSound s) : alignerSound (enterUp p s) := by
  have hok : ∀ m : Lane, laneOk s m → laneOk (enterUp p s) m := fun m ⟨hup, hmode⟩ => by
    refine ⟨?_, (congrArg Profile.mode (enterUp_profile p s m.port)).trans hmode⟩
    simp only [enterUp_frame, upd_get]
    split
    · rfl
    · exact hup
  have haligner : (enterUp p s).aligner = s.aligner := by simp
  have hlanes := congrArg State.lanes (enterUp_eq p s)
  simp only [raise_frame] at hlanes
  cases hl : p.lane? with
  | none =>
    rw [hl] at hlanes
    exact sound_of_ports h haligner hlanes fun m _ => hok m
  | some l =>
    rw [hl] at hlanes
    obtain rfl := port_of_lane? hl
    have hlane := ((sound_iff s).mp h).1.lane l
    by_cases hjoins : s.ports[l.port].profile.mode = .aligned ∧ s.lanes[l].member = .waiting
    · refine sound_modLane (l := l) h haligner hlanes (fun m _ => hok m) (by rw [if_pos hjoins, hjoins.2]; rfl) ?_
      rw [if_pos hjoins]
      refine hlane.join_begins (.inl hjoins.2) ⟨?_, ?_⟩ hlane.count
      · simp only [enterUp_frame, upd_at]
        rfl
      · exact (congrArg Profile.mode (enterUp_profile l.port s l.port)).trans hjoins.1
    · refine sound_modLane (l := l) h haligner hlanes (fun m _ => hok m) (by rw [if_neg hjoins]) ?_
      rw [if_neg hjoins]
      exact hlane.mono fun _ => hok l

/-! ### LANE_SET (R36, R37) -/

theorem withProfile_other {r : Request} {p q : Port} {s : State} (h : q ≠ p) : (withProfile r p s).ports[q] = s.ports[q] :=
  (upd_get _ _ _ _).trans (if_neg h)

theorem sound_laneSet {s : State} {r : Request} {p : Port} (h : alignerSound s) : alignerSound (laneSetCarried r p s) := by
  obtain ⟨hfits, hheld⟩ := (sound_iff s).mp h
  have hother : ∀ m : Lane, m.port ≠ p → laneOk s m → laneOk (laneSetCarried r p s) m := fun m hm hmok => by
    unfold laneOk
    rw [laneSetCarried_other r p s hm]
    exact hmok
  cases hr : laneSetRestarts r p s with
  | true =>
    by_cases hup : s.ports[p].rx.st = .up
    · rw [laneSetCarried_leaves hr hup, emptyPortLane_leaveUp]
      refine sound_leaveUp p _ (s := withProfile r p s) hfits hheld fun m hm hmok => ?_
      unfold laneOk
      rw [withProfile_other hm]
      exact hmok
    · have hok : ∀ m : Lane, s.lanes[m].member ≠ .waiting → laneOk s m → laneOk (laneSetCarried r p s) m :=
        fun m _ hmok => hother m (fun he => hup (he ▸ hmok.1)) hmok
      have haligner : (laneSetCarried r p s).aligner = s.aligner := by
        rw [laneSetCarried_searches hr hup]
        simp [withProfile]
      cases hl : p.lane? with
      | none =>
        refine sound_of_ports h haligner ?_ hok
        rw [laneSetCarried_searches hr hup]
        simp [withProfile, emptyPortLane, hl]
      | some l =>
        obtain rfl := port_of_lane? hl
        have hlane := hfits.lane l
        have hwaiting : s.lanes[l].member = .waiting := by
          by_contra hne
          exact hup (hlane.qualified hne).1
        have hlanes : ∃ prof : Profile, (laneSetCarried r l.port s).lanes = upd s.lanes l fun x => x.withQueue prof [] := by
          rw [laneSetCarried_searches hr hup]
          unfold emptyPortLane
          rw [hl]
          exact ⟨_, emptyLane_lanes l _⟩
        obtain ⟨prof, hlanes⟩ := hlanes
        exact sound_modLane (l := l) h haligner hlanes hok rfl
          ⟨hlane.member, queueFits_empty _ _, fun hne => absurd hwaiting hne, hlane.count⟩
  | false =>
    have hmode : (newProfile r p s.ports[p].profile).mode = s.ports[p].profile.mode :=
      (not_not.mp ((actsAsRestart_iff _ _).not.mp (by rw [show actsAsRestart _ _ = false from hr]; exact Bool.false_ne_true))).2
    have haligner : (laneSetCarried r p s).aligner = s.aligner := by
      rw [laneSetCarried_judges hr]
      simp [withProfile]
    have hports : (laneSetCarried r p s).ports = (withProfile r p s).ports := by
      rw [laneSetCarried_judges hr]
      simp
    have hok : ∀ m : Lane, s.lanes[m].member ≠ .waiting → laneOk s m → laneOk (laneSetCarried r p s) m :=
        fun m _ ⟨hup, hal⟩ => by
      rw [laneOk_of_ports hports]
      refine ⟨(congrArg Receiver.st (withProfile_st r p m.port s)).trans hup, ?_⟩
      rw [withProfile_profile]
      split
      · next he => rw [hmode, ← he, hal]
      · exact hal
    have hlanes : (laneSetCarried r p s).lanes = s.lanes ∨
        ∃ (l : Lane) (prof : Profile), (laneSetCarried r p s).lanes = upd s.lanes l fun x => x.withQueue prof x.queue := by
      rw [laneSetCarried_judges hr]
      unfold laneSetJudge
      split
      · next l _ =>
        split
        · exact .inr ⟨l, _, judgeLane_lanes l _⟩
        · exact .inl rfl
      · exact .inl rfl
    rcases hlanes with hlanes | ⟨l, prof, hlanes⟩
    · exact sound_of_ports h haligner hlanes hok
    · exact sound_modLane (l := l) h haligner hlanes hok rfl ((hfits.lane l).mono fun hne => hok l hne)

/-! ### UNIT_RESET (R82) -/

theorem sound_unitReset {s : State} (r : Request) (h : alignerSound s) : alignerSound (doUnitReset r s) := by
  have hfits := ((sound_iff s).mp h).1
  rw [doUnitReset_eq]
  have hlane (l : Lane) : (Vector.ofFn fun l : Lane => s.lanes[l].afterReset s.ports[l.port].profile)[l] =
      s.lanes[l].afterReset s.ports[l.port].profile := by simp
  refine (sound_iff _).mpr ⟨⟨Nat.zero_le _, trivial, fun _ => ⟨rfl, rfl, fun l => ?_⟩, nofun, nofun, hfits.limit, hfits.skew,
    fun l => ?_⟩, nofun⟩
  · dsimp only
    rw [hlane]
    unfold LaneState.afterReset
    cases s.lanes[l].member <;> rfl
  · dsimp only
    rw [hlane]
    refine ⟨?_, queueFits_empty _ _, fun hne => ?_, Nat.zero_le _⟩
    · unfold LaneState.afterReset
      cases s.lanes[l].member <;> exact fun _ hq => absurd hq List.not_mem_nil
    · have hne' : s.lanes[l].member ≠ .waiting := fun hw => hne (by unfold LaneState.afterReset; rw [hw]; rfl)
      simpa [laneOk] using (hfits.lane l).qualified hne'

/-! ### The law -/

theorem aligner_kept : KeptByParts (· = .running) alignerSound where
  rx s p f hm h := sound_of_ports h (by simp) (by simp) fun l _ ⟨hup, hmode⟩ =>
    ⟨modRx_up (moves_keeps_up hm) _ hup, (congrArg Profile.mode (modRx_mgmt p l.port f s)).trans hmode⟩
  leaveUp s p c level _ _ h := by
    obtain ⟨hfits, hheld⟩ := (sound_iff s).mp h
    refine sound_leaveUp p c (s := modRx p _ s) hfits hheld fun m hm hmok => ?_
    unfold laneOk
    rw [modRx_other _ _ _ hm]
    exact hmok
  enterUp s p _ h := sound_enterUp p h
  engineTick s h := sound_of_frame h (by simp)
  counterTick s h := sound_of_frame h (by simp)
  release s h := sound_releasePoint h
  transmit s b h := sound_of_frame h (by simp)
  lease s p h := sound_of_frame h (by simp)
  reply s r st o _ h := h
  unitReset s r h := sound_unitReset r h
  laneSet s r p _ _ _ h := sound_laneSet h
  alignSet s skew late n hskew hlow hhigh h := by
    obtain ⟨hfits, hheld⟩ := (sound_iff s).mp h
    exact (sound_iff _).mpr ⟨{ hfits with limit := ⟨hlow, hhigh⟩, skew := hskew }, hheld⟩
  rejoin s l hm h := by
    have hlane := ((sound_iff s).mp h).1.lane l
    refine sound_modLane (l := l) (g := fun x => { x with member := .joining, lateCount := 0 }) h rfl rfl (fun _ _ => id)
      (by rw [hm]; rfl) ?_
    exact hlane.join_begins (.inr hm) (hlane.qualified (by rw [hm]; nofun)) (Nat.zero_le 7)
  schedCancel s r _ h := sound_of_frame h (by simp)
  groupFlush s r _ h := sound_of_frame h (by simp)
  cycleSet s r _ h := sound_of_frame h (by simp)
  atReset := aligner_atReset
  initDone s n hp ho h := sound_of_ports h rfl rfl fun l _ hok => by
    have hoff := ho (by rw [hp]; nofun) l.port
    exact nomatch hoff.symm.trans hok.1
  mark s l f n h := sound_alignMark l f n h
  data s l c h := sound_alignData l c h
  passed s c h := sound_of_frame h (by simp)
  pulse s _ _ h := sound_of_frame h (by simp)
  swap s h := sound_of_frame h (by simp)
  drained s i h := sound_of_frame h (by simp)
  held s h := sound_of_frame h (by simp)

/-- Settles O54: the window's records and each lane's statuses fit one another through every change of a lane and every
new record, a forced release being one out of a window of five. -/
theorem everyStepKeepsTheAlignerSound : Obligations.EveryStepKeepsTheAlignerSound := fun _ _ => aligner_kept.step_quiet

end Sys2Proof.Machine
end
